-- ==== Sys2Proof/Word.lean ====
section
/-! DEFINITION. The byte and word types of the two serial lines, and the names the manual gives to the
states, modes, choices, reasons and kinds of the part. Every enumeration lists its names in the order in
which the manual's table or list of values names them, because R199 codes a name by that order. -/

namespace Sys2Proof

/-- One byte of the host link or of the station bus. -/
abbrev Byte := BitVec 8

/-- A two-byte value of a message (sent least significant byte first, R199). -/
abbrev Half := BitVec 16

/-- A four-byte value of a message. -/
abbrev Long := BitVec 32

/-- A die station (R116). -/
inductive Side where
  | a | b
  deriving DecidableEq, Repr, Inhabited

/-- The line state (R63). -/
inductive LineState where
  | stopped | running
  deriving DecidableEq, Repr, Inhabited

/-- The stop cause (R63). `none` is the manual's NONE. -/
inductive StopCause where
  | none | request | holdFault | haltFault | dieRelease
  deriving DecidableEq, Repr, Inhabited

/-- The pacer state (R66). -/
inductive PacerState where
  | idle | waiting | deferred | moving | unresolved
  deriving DecidableEq, Repr, Inhabited

/-- The reason held in DEFERRED (R66). -/
inductive DeferralReason where
  | loadInFlight | laneFull
  deriving DecidableEq, Repr, Inhabited

/-- The origin of the current or last move (R66). -/
inductive MoveKind where
  | paced | jog
  deriving DecidableEq, Repr, Inhabited

/-- The reports that retry a deferred attempt (R75). -/
inductive PaceReport where
  | loadOutcome | freePlace | lateShift
  deriving DecidableEq, Repr, Inhabited

/-- The pacing mode (R67). -/
inductive PaceMode where
  | fixed | follow
  deriving DecidableEq, Repr, Inhabited

/-- An edge of the press screw pulse input (R67, R70). -/
inductive Edge where
  | rising | falling
  deriving DecidableEq, Repr, Inhabited

/-- What the chain drive's sensor pair reports of the rod carried off the exit position (section 1.5): no rod,
a rod without strands, or a rod with strands. -/
inductive Sighting where
  | noRod | bare | strands
  deriving DecidableEq, Repr, Inhabited

/-- The disposition of an exit record, in the order of R150. -/
inductive Disposition where
  | purge | untracked | hostmark | stressed | underdry | normal
  deriving DecidableEq, Repr, Inhabited

/-- The outcome of a closed record (R3, R5). -/
inductive CloseOutcome where
  | packed | reworked | discarded | lost
  deriving DecidableEq, Repr, Inhabited

/-- A lane's destination, and the gate a strip is granted with (R148, R159). -/
inductive Gate where
  | pack | rework
  deriving DecidableEq, Repr, Inhabited

/-- A lane's mode (R148). -/
inductive LaneMode where
  | strict | ratio
  deriving DecidableEq, Repr, Inhabited

/-- A zone's type (R88). -/
inductive ZoneType where
  | pre | dry | relax | cool
  deriving DecidableEq, Repr, Inhabited

/-- A zone's edge mode (R88, R106). -/
inductive EdgeMode where
  | leave | ret | both
  deriving DecidableEq, Repr, Inhabited

/-- The output status a zone module reports (R97, R104). -/
inductive OutputStatus where
  | ok | fault
  deriving DecidableEq, Repr, Inhabited

/-- What starts a sample round (R96). -/
inductive Trigger where
  | powerUp | advance | periodic | request
  deriving DecidableEq, Repr, Inhabited

/-- The outcome of a zone's READ in a round (R97). -/
inductive ReadOutcome where
  | reading | settling | miss | mismatch
  deriving DecidableEq, Repr, Inhabited

/-- A climate monitor of a zone (R106). -/
inductive Monitor where
  | temperature | humidity
  deriving DecidableEq, Repr, Inhabited

/-- A transition of a climate monitor (R105). -/
inductive Transition where
  | leave | ret
  deriving DecidableEq, Repr, Inhabited

/-- A die station's state (R116). -/
inductive StationState where
  | empty | settling | seated | reading | rejected | ready | active | writing | released
  deriving DecidableEq, Repr, Inhabited

/-- The rejection reason held in REJECTED (R116). -/
inductive RejectReason where
  | readFailed | checkFailed | formatUnmapped
  deriving DecidableEq, Repr, Inhabited

/-- The carriage state (R128). -/
inductive CarriageState where
  | querying | idle | moving | lost
  deriving DecidableEq, Repr, Inhabited

/-- The press state (R131). -/
inductive PressState where
  | stopped | starting | running | stopping
  deriving DecidableEq, Repr, Inhabited

/-- A station's indicator (R127). -/
inductive Indicator where
  | blink | on | off
  deriving DecidableEq, Repr, Inhabited

/-- The stripper state (R159). -/
inductive StripperState where
  | idle | stripping | stalled
  deriving DecidableEq, Repr, Inhabited

/-- The severity of a fault kind (R174). -/
inductive Severity where
  | halt | hold | note
  deriving DecidableEq, Repr, Inhabited

/-- The 23 fault kinds in the order of their numbers 0 to 22 (R173). -/
inductive FaultKind where
  | chainStall | chainLateDone | pitchOverrun | trackMismatch | spreaderTimeout | returnOverflow
  | stripFault | stripperTimeout | zoneModuleLost | moduleMismatch | heaterFault | climateDeviation
  | rodStressed | rodUnderdry | gaugeDeviation | gaugeTimeout | dieUnreadable | dieSurpriseRemoval
  | dieWritebackLost | dieWear | carriageTimeout | pressDriveFault | configDefaulted
  deriving DecidableEq, Repr, Inhabited

/-- The context of a raise: up to seven optional items (R173). -/
structure Context where
  zone : Option Nat := none
  station : Option Side := none
  lane : Option Nat := none
  rod : Option Nat := none
  move : Option Nat := none
  strip : Option Nat := none
  measurement : Option Nat := none
  deriving DecidableEq, Repr, Inhabited

/-- The event a LINE_STATE notice carries (R63). -/
inductive LineEvent where
  | powerUp | lineChange | unresolvedEnter | unresolvedLeave | inventoryEstablished | inventoryLost
  deriving DecidableEq, Repr, Inhabited

/-- The change a DIE_STATE notice reports (R127, in the order that rule names them). -/
inductive DieEvent where
  | stationState | stationFlag | carriagePosition | carriageState | pressState
  deriving DecidableEq, Repr, Inhabited

/-- The status of a reply, in the order of its codes 0 to 8 (R199). -/
inductive Status where
  | accepted | acceptedClamped | queueFull | wrongState | fieldRange | indexRange | tableConflict
  | unknownRequest | lengthError
  deriving DecidableEq, Repr, Inhabited

/-- The reason of a WRONG_STATE reply, in the order of its codes 0 to 16 (R199). -/
inductive Reason where
  | none | alreadyRunning | undeclared | faultSet | unresolved | loadInFlight | laneFull | notAsked
  | pressNotStopped | carriageBusy | targetNotReady | inPosition | noActiveDie | noRoom | readOnly
  | operationInFlight | storeFailed
  deriving DecidableEq, Repr, Inhabited

/-- The five items of a zone module's READ reply beside its exchange number (R97). -/
structure ModuleReply where
  temp : Half
  hum : Half
  moduleId : Long
  output : OutputStatus
  heldTemp : Half
  heldHum : Half
  deriving DecidableEq, Repr, Inhabited

/-- The kind, tag and body of a good frame (R187, R199). -/
structure Frame where
  kind : Byte
  tag : Byte
  body : List Byte
  deriving DecidableEq, Repr, Inhabited

end Sys2Proof
end

