-- ==== Sys2Proof/Config.lean ====
section
/-! DEFINITION. The values the spec leaves open, as constants without a body: nothing in Lean can evaluate one, and a
claim is true whatever they are. -/

namespace Sys2Proof.Config

/-- Several replies carry "the seconds left" of a limit that is timed more finely than a second (R66, R87, R116, R147,
R165, R172). The spec states no rounding. This says, for a number of milliseconds left that is no whole number of
seconds, whether the second begun is counted (log entry 7). -/
opaque roundsUp : Nat → Bool

/-- The lane that a LANES write refused because the four capacities would sum to more than 240 names in its reply: R149
says that the reply names the lane and the field, and not which lane of a sum (log entry 8). The arguments are the
write's start index and count. -/
opaque sumConflictLane : Nat → Nat → Byte

/-- The first detail byte of a FAULT_CLEAR refused with FIELD_RANGE, which "names the first such number" (R184): R189
gives that byte to an entry index, and the request has no entries (log entry 8). The arguments are the number's place in
the list and the number itself. -/
opaque clearDetail : Nat → Byte → Byte

/-- The detail of a FIELD_RANGE reply to a request that writes no table entry: R189 gives the detail to an entry index
and a field number, which such a request does not have (log entry 8). The argument is the request's kind. -/
opaque plainRangeDetail : Byte → Half

/-- The second detail byte of a LANES write refused with WRONG_STATE. R149 says that the reply names the lane and the
field; section 11.6 gives the first byte to the reason, here none named, and the second to a kind number or case, and does
not say how the lane and the field are coded there (log entry 8). The arguments are the lane and the field's number. -/
opaque lanesStateCase : Nat → Nat → Byte

/-- The second detail byte of a ZONE_LAYOUT write refused with WRONG_STATE. R89 says that the reply names the entry and
field concerned; section 11.6 gives the first byte to the reason, here none named, and the second to a kind number or
case, and does not say how the entry and the field are coded there (log entry 8). The arguments are the entry's index and
the field's number. -/
opaque layoutStateCase : Nat → Nat → Byte

end Sys2Proof.Config
end

