-- ==== Sys2Proof/Syntax.lean ====
section
/-! DEFINITION. The commands of the part: one constructor per row of spec/opcode_table.json, in the table's order.

Three kinds of row share this type.
* A REQUEST row (its first operand is the tag) is a host request; its operands are the fields of the request's body
  (R199), table entries as the raw bytes the host sent.
* An EVENT row is a message of the station bus, a change of a discrete line, bytes of the host link, or the moment at
  which a timer reaches its limit; its operands are the items the message carries.
* A HAND-OVER row (STOP_ORDER, PRESS_STOP_ORDER, ATTEMPT_RETRY, SHIFT_DONE_REPORT, TALLIES_HANDED,
  SETPOINT_RECOMPUTE_ORDER, CORRECTION_RESET_ORDER, FAULT_RAISE) is one block taking what another block handed it; its
  operands are what was handed. -/

namespace Sys2Proof

/-- One command of the part. The docstring of each constructor names its row's rule. -/
inductive Instr where
  /-- POWER_UP (R196). `lost` says that the retained memory lost its content while the power was off; the others are the
  presence and clamp inputs of stations A and B as they stand (R116). -/
  | powerUp (lost presenceA clampA presenceB clampB : Bool)
  /-- HOST_FRAME (R187): bytes arriving on the host link without a gap above 5 ms. -/
  | hostFrame (bytes : List Byte)
  /-- FRAME_GAP_TIMEOUT (R187). -/
  | frameGapTimeout
  /-- FRAME_SENT (R190). -/
  | frameSent
  /-- UNKNOWN_REQUEST (R189): a served frame of no request's kind, or of a wrong body length. -/
  | unknownRequest (kind tag : Byte) (body : List Byte)
  /-- TABLE_WRITE_NOT_WRITTEN (R191): a TABLE_READ or TABLE_WRITE of an unknown table, or a TABLE_WRITE of a read-only one. -/
  | tableWriteNotWritten (kind tag table : Byte) (start : Half) (count : Byte) (entries : List Byte)
  /-- TABLE_WRITE_TUNNEL (R1). -/
  | tableWriteTunnel (tag : Byte) (start : Half) (count : Byte) (entries : List Byte)
  /-- TABLE_READ_TUNNEL (R1). -/
  | tableReadTunnel (tag : Byte) (start : Half) (count : Byte)
  /-- TABLE_WRITE_PROFILE (R50). -/
  | tableWriteProfile (tag : Byte) (start : Half) (count : Byte) (entries : List Byte)
  /-- TABLE_READ_PROFILE (R49). -/
  | tableReadProfile (tag : Byte) (start : Half) (count : Byte)
  /-- TABLE_WRITE_FORMAT_MAP (R58). -/
  | tableWriteFormatMap (tag : Byte) (start : Half) (count : Byte) (entries : List Byte)
  /-- TABLE_READ_FORMAT_MAP (R58). -/
  | tableReadFormatMap (tag : Byte) (start : Half) (count : Byte)
  /-- TABLE_WRITE_ZONE_LAYOUT (R89). -/
  | tableWriteZoneLayout (tag : Byte) (start : Half) (count : Byte) (entries : List Byte)
  /-- TABLE_READ_ZONE_LAYOUT (R89). -/
  | tableReadZoneLayout (tag : Byte) (start : Half) (count : Byte)
  /-- TABLE_WRITE_LANES (R149). -/
  | tableWriteLanes (tag : Byte) (start : Half) (count : Byte) (entries : List Byte)
  /-- TABLE_READ_LANES (R149). -/
  | tableReadLanes (tag : Byte) (start : Half) (count : Byte)
  /-- TABLE_WRITE_DISPOSITION (R151). -/
  | tableWriteDisposition (tag : Byte) (start : Half) (count : Byte) (entries : List Byte)
  /-- TABLE_READ_DISPOSITION (R151). -/
  | tableReadDisposition (tag : Byte) (start : Half) (count : Byte)
  /-- TABLE_WRITE_PACING (R67). -/
  | tableWritePacing (tag : Byte) (start : Half) (count : Byte) (entries : List Byte)
  /-- TABLE_READ_PACING (R67). -/
  | tableReadPacing (tag : Byte) (start : Half) (count : Byte)
  /-- TABLE_WRITE_SAMPLING (R95). -/
  | tableWriteSampling (tag : Byte) (start : Half) (count : Byte) (entries : List Byte)
  /-- TABLE_READ_SAMPLING (R95). -/
  | tableReadSampling (tag : Byte) (start : Half) (count : Byte)
  /-- TABLE_WRITE_FAULT_SETTINGS (R175). -/
  | tableWriteFaultSettings (tag : Byte) (start : Half) (count : Byte) (entries : List Byte)
  /-- TABLE_READ_FAULT_SETTINGS (R175). -/
  | tableReadFaultSettings (tag : Byte) (start : Half) (count : Byte)
  /-- TABLE_WRITE_DIE_SETTINGS (R114). -/
  | tableWriteDieSettings (tag : Byte) (start : Half) (count : Byte) (entries : List Byte)
  /-- TABLE_READ_DIE_SETTINGS (R114). -/
  | tableReadDieSettings (tag : Byte) (start : Half) (count : Byte)
  /-- TABLE_WRITE_GAUGE_SETTINGS (R166). -/
  | tableWriteGaugeSettings (tag : Byte) (start : Half) (count : Byte) (entries : List Byte)
  /-- TABLE_READ_GAUGE_SETTINGS (R166). -/
  | tableReadGaugeSettings (tag : Byte) (start : Half) (count : Byte)
  /-- TABLE_WRITE_SPREADER_SETTINGS (R136). -/
  | tableWriteSpreaderSettings (tag : Byte) (start : Half) (count : Byte) (entries : List Byte)
  /-- TABLE_READ_SPREADER_SETTINGS (R136). -/
  | tableReadSpreaderSettings (tag : Byte) (start : Half) (count : Byte)
  /-- TABLE_WRITE_ACCUMULATOR_SETTINGS (R158). -/
  | tableWriteAccumulatorSettings (tag : Byte) (start : Half) (count : Byte) (entries : List Byte)
  /-- TABLE_READ_ACCUMULATOR_SETTINGS (R158). -/
  | tableReadAccumulatorSettings (tag : Byte) (start : Half) (count : Byte)
  /-- TABLE_READ_POSITION (R2). -/
  | tableReadPosition (tag : Byte) (start : Half) (count : Byte)
  /-- TABLE_READ_LANE_CONTENT (R165): the first place stands in the start field. -/
  | tableReadLaneContent (tag : Byte) (place : Half) (count lane : Byte)
  /-- TABLE_READ_ZONE_STATE (R112). -/
  | tableReadZoneState (tag : Byte) (start : Half) (count : Byte)
  /-- TABLE_READ_DIE_STATION (R116). -/
  | tableReadDieStation (tag : Byte) (start : Half) (count : Byte)
  /-- TABLE_READ_PROFILE_STATE (R170). -/
  | tableReadProfileState (tag : Byte) (start : Half) (count : Byte)
  /-- TABLE_READ_COUNTERS (R192). -/
  | tableReadCounters (tag : Byte) (start : Half) (count : Byte)
  /-- LINE_RUN (R64). -/
  | lineRun (tag : Byte)
  /-- LINE_STOP (R65). -/
  | lineStop (tag : Byte)
  /-- STOP_ORDER (R65): the pacing unit takes a stop order of this cause. -/
  | stopOrder (cause : StopCause)
  /-- JOG (R81). -/
  | jog (tag : Byte)
  /-- PACE_RESTART (R71). -/
  | paceRestart (tag : Byte)
  /-- MOVE_RESOLVE with outcome 0, MOVED (R83). -/
  | moveResolveMoved (tag : Byte)
  /-- MOVE_RESOLVE with outcome 1, NOT_MOVED (R84), or with an outcome that names neither (R83). -/
  | moveResolveNotMoved (tag outcome : Byte)
  /-- PITCH_TIMER_EXPIRY (R69). -/
  | pitchTimerExpiry
  /-- PRESS_SCREW_PULSE (R70): an edge of the input, `wait` ms after the command before it. -/
  | pressScrewPulse (edge : Edge) (wait : Nat)
  /-- ATTEMPT_RETRY (R75): the pacing unit takes a report. -/
  | attemptRetry (report : PaceReport)
  /-- MOVE_DONE (R78): the chain drive's message, with the number and the exit observation. -/
  | moveDone (number : Byte) (seen : Sighting)
  /-- MOVE_LIMIT_EXPIRY (R82). -/
  | moveLimitExpiry
  /-- SHIFT_DONE_REPORT (R79): `late` marks a shift that followed a late done (R86). -/
  | shiftDoneReport (late : Bool)
  /-- STANDSTILL_EXPIRY (R20). -/
  | standstillExpiry
  /-- TALLIES_HANDED (R94): the pairs n, e of zones 0 to Z−1. -/
  | talliesHanded (pairs : List (Nat × Nat))
  /-- ROD_FIND (R21). -/
  | rodFind (tag : Byte) (id : Half)
  /-- ROD_MARK (R22). -/
  | rodMark (tag : Byte) (id : Half)
  /-- TRACK_FORGET (R24). -/
  | trackForget (tag : Byte)
  /-- LOAD_DONE (R140). -/
  | loadDone (number : Byte)
  /-- LOAD_FAILED (R141). -/
  | loadFailed (number : Byte)
  /-- LOAD_LIMIT_EXPIRY (R142). -/
  | loadLimitExpiry
  /-- BATCH_NEW (R145). -/
  | batchNew (tag : Byte)
  /-- PRESENCE_EVENT (R117). -/
  | presenceEvent (side : Side) (on : Bool)
  /-- DEBOUNCE_EXPIRY (R117). -/
  | debounceExpiry (side : Side)
  /-- CLAMP_EVENT (R117). -/
  | clampEvent (side : Side) (closed : Bool)
  /-- BUTTON_EVENT (R120). -/
  | buttonEvent (side : Side)
  /-- MEMORY_READ_REPLY (R118): the record's bytes, or none for an error. -/
  | memoryReadReply (side : Side) (number : Byte) (bytes : Option (List Byte))
  /-- MEMORY_EXCHANGE_EXPIRY (R118, R122). -/
  | memoryExchangeExpiry (side : Side)
  /-- MEMORY_WRITE_REPLY (R122): `ok` for an acknowledgement. -/
  | memoryWriteReply (side : Side) (number : Byte) (ok : Bool)
  /-- DIE_RELEASE (R121): the station byte, 0 for A and 1 for B. -/
  | dieRelease (tag station : Byte)
  /-- DIE_KEEP (R120). -/
  | dieKeep (tag station : Byte)
  /-- DIE_REREAD (R123). -/
  | dieReread (tag station : Byte)
  /-- DIE_SWAP (R129). -/
  | dieSwap (tag station : Byte)
  /-- CARRIAGE_QUERY_ANSWER (R128): none for an answer that names neither station. -/
  | carriageQueryAnswer (station : Option Side)
  /-- CARRIAGE_QUERY_EXPIRY (R128). -/
  | carriageQueryExpiry
  /-- CARRIAGE_DONE (R130): none for a message that names neither station. -/
  | carriageDone (station : Option Side)
  /-- CARRIAGE_MOVE_EXPIRY (R130). -/
  | carriageMoveExpiry
  /-- PRESS_START (R132). -/
  | pressStart (tag : Byte)
  /-- PRESS_STOP (R131). -/
  | pressStop (tag : Byte)
  /-- PRESS_STOP_ORDER (R131). -/
  | pressStopOrder
  /-- PRESS_STARTED (R131). -/
  | pressStarted
  /-- PRESS_HALTED (R131). -/
  | pressHalted
  /-- PRESS_FAULT_REPORT (R131). -/
  | pressFaultReport
  /-- PRESS_ACK_EXPIRY (R131). -/
  | pressAckExpiry
  /-- PERIODIC_TIMER_EXPIRY (R96). -/
  | periodicTimerExpiry
  /-- SAMPLE_NOW (R96). -/
  | sampleNow (tag : Byte)
  /-- READ_REPLY (R98). -/
  | readReply (number : Byte) (reply : ModuleReply)
  /-- READ_LIMIT_EXPIRY (R99). -/
  | readLimitExpiry
  /-- SET_REPLY (R103): `ok` for an acknowledgement. -/
  | setReply (number : Byte) (ok : Bool)
  /-- SET_LIMIT_EXPIRY (R103). -/
  | setLimitExpiry
  /-- SETTLE_TIMER_RUN_OUT (R107). -/
  | settleTimerRunOut (zone : Nat)
  /-- SETPOINT_RECOMPUTE_ORDER (R53). -/
  | setpointRecomputeOrder (profile : Nat)
  /-- ZONE_ACCEPT (R102): the zone byte, 0xFF for ALL. -/
  | zoneAccept (tag zone : Byte)
  /-- GAUGE_RESULT (R169). -/
  | gaugeResult (number : Byte) (rod value : Half)
  /-- GAUGE_FAIL_REPORT (R168). -/
  | gaugeFailReport (number : Byte)
  /-- GAUGE_LIMIT_EXPIRY (R168). -/
  | gaugeLimitExpiry
  /-- CORRECTION_RESET_ORDER (R53, R55). -/
  | correctionResetOrder (profile : Nat)
  /-- STRIP_DONE (R160). -/
  | stripDone (number : Byte)
  /-- STRIP_FAULT_REPORT (R159). -/
  | stripFaultReport (number : Byte)
  /-- STRIP_LIMIT_EXPIRY (R159). -/
  | stripLimitExpiry
  /-- STRIP_RETRY (R161). -/
  | stripRetry (tag : Byte)
  /-- STRIP_DISCARD (R161). -/
  | stripDiscard (tag : Byte)
  /-- STRIP_PAUSE (R162). -/
  | stripPause (tag : Byte)
  /-- STRIP_RESUME (R162). -/
  | stripResume (tag : Byte)
  /-- LANE_DECLARE (R154). -/
  | laneDeclare (tag lane count : Byte)
  /-- RETURN_DECLARE (R155). -/
  | returnDeclare (tag : Byte) (count : Half)
  /-- ROD_ADD (R164). -/
  | rodAdd (tag : Byte) (count : Half)
  /-- ROD_REMOVE with place 0, RETURN (R164). -/
  | rodRemoveReturn (tag : Byte) (count : Half)
  /-- ROD_REMOVE with place 1, SPILL, or with a place that names neither (R164). -/
  | rodRemoveSpill (tag place : Byte) (count : Half)
  /-- FAULT_RAISE (R176): the log takes a raise of this kind and context. -/
  | faultRaise (kind : FaultKind) (context : Context)
  /-- FAULT_READ (R183). -/
  | faultRead (tag : Byte)
  /-- FAULT_CLEAR (R184): the list of kind numbers, or the one byte 0xFF for ALL. -/
  | faultClear (tag : Byte) (kinds : List Byte)
  /-- STATUS (R193). -/
  | status (tag : Byte)
  /-- STORE (R195). -/
  | store (tag : Byte)
  /-- STORE_WRITE_END (R195): `ok` when the read-back matches. -/
  | storeWriteEnd (ok : Bool)
  /-- STORE_LIMIT_EXPIRY (R195). -/
  | storeLimitExpiry
  /-- RESTART (R197, R198). -/
  | restart (tag : Byte)
  deriving DecidableEq, Repr, Inhabited

end Sys2Proof
end

