-- ==== Sys2Proof/Machine/FrameLayout.lean ====
section
/-! DEFINITION. The numbers the host link gives to requests and tables, and the sizes of their bodies (R191, R199). -/

namespace Sys2Proof

/-- A two-byte value from its bytes, the low byte first (R199). -/
def halfOf (low high : Byte) : Half := high ++ low

/-- The low byte of a two-byte value. -/
def Half.low (h : Half) : Byte := h.setWidth 8

/-- The high byte of a two-byte value. -/
def Half.high (h : Half) : Byte := (h >>> 8).setWidth 8

/-- The two bytes of a value, the low byte first (R199). -/
def Half.bytes (h : Half) : List Byte := [h.low, h.high]

/-- The size in bytes of one entry of a written table, by table number (R191, section 11.6); none for a table that is
not written or not known. -/
def writtenEntrySize (table : Nat) : Option Nat :=
  match table with
  | 0 => some 2
  | 1 => some 110
  | 2 => some 2
  | 3 => some 15
  | 4 => some 4
  | 5 => some 1
  | 6 => some 7
  | 7 => some 3
  | 8 => some 2
  | 9 => some 3
  | 10 => some 3
  | 11 => some 2
  | 12 => some 3
  | _ => none

/-- Whether R191 names a table of this number. -/
def tableKnown (table : Nat) : Bool :=
  decide (table ≤ 12) || (decide (16 ≤ table) && decide (table ≤ 21))

/-- Whether a kind names a request: 0x01 to 0x20 (section 11.6). -/
def kindIsRequest (kind : Byte) : Bool :=
  decide (1 ≤ kind.toNat) && decide (kind.toNat ≤ 32)

/-- The largest body of a frame (R199). -/
def maxBody : Nat := 250

end Sys2Proof
end

