-- ==== Sys2Proof/WellFormed.lean ====
section
/-! DEFINITION. Which commands are well formed: their operands have the lengths and lie in the ranges that their rows'
messages have. A field that the spec lets a sender set out of range (and then answers) is no ill-formedness. -/

namespace Sys2Proof

/-- The entries of a table write are `count` entries of the table's size (R189) and fit one body (R199). -/
def entriesFit (size : Nat) (count : Byte) (entries : List Byte) : Bool :=
  decide (entries.length = count.toNat * size) && decide (entries.length + 4 ≤ maxBody)

/-- The body lengths that a request of this kind may have, for the kinds other than the two table requests and
FAULT_CLEAR (section 11.6). -/
def plainBodyLength (kind : Nat) : Nat :=
  match kind with
  | 0x07 | 0x0A | 0x0B | 0x0C | 0x0D | 0x18 => 1
  | 0x0E | 0x0F | 0x10 | 0x12 | 0x13 => 2
  | 0x11 => 3
  | _ => 0

/-- The length rule of TABLE_READ and TABLE_WRITE bodies (R189, R199). -/
def tableBodyLengthOk (kind : Byte) (body : List Byte) : Bool :=
  match body with
  | table :: _ :: _ :: count :: rest =>
    if kind = 0x01 then (if table = 17 then decide (rest.length = 1) else decide (rest.length = 0))
    else
      match writtenEntrySize table.toNat with
      | some size => decide (rest.length = count.toNat * size)
      | none => true
  | _ => false

/-- Whether a body has the length that its kind's layout gives (R189). -/
def bodyLengthOk (kind : Byte) (body : List Byte) : Bool :=
  if kind = 0x01 ∨ kind = 0x02 then tableBodyLengthOk kind body
  else if kind = 0x1B then decide (1 ≤ body.length) && decide (body.length ≤ 23)
  else decide (body.length = plainBodyLength kind.toNat)

/-- The check of a command's operands. -/
def WellFormed (i : Instr) : Bool :=
  match i with
  | .unknownRequest kind _ body =>
    decide (body.length ≤ maxBody) && !(kindIsRequest kind && bodyLengthOk kind body)
  | .tableWriteNotWritten kind _ table _ _ entries =>
    (decide (kind = 1) && !tableKnown table.toNat && decide (entries = []))
      || (decide (kind = 2) && (writtenEntrySize table.toNat).isNone && decide (entries.length + 4 ≤ maxBody))
  | .tableWriteTunnel _ _ count entries => entriesFit 2 count entries
  | .tableWriteProfile _ _ count entries => entriesFit 110 count entries
  | .tableWriteFormatMap _ _ count entries => entriesFit 2 count entries
  | .tableWriteZoneLayout _ _ count entries => entriesFit 15 count entries
  | .tableWriteLanes _ _ count entries => entriesFit 4 count entries
  | .tableWriteDisposition _ _ count entries => entriesFit 1 count entries
  | .tableWritePacing _ _ count entries => entriesFit 7 count entries
  | .tableWriteSampling _ _ count entries => entriesFit 3 count entries
  | .tableWriteFaultSettings _ _ count entries => entriesFit 2 count entries
  | .tableWriteDieSettings _ _ count entries => entriesFit 3 count entries
  | .tableWriteGaugeSettings _ _ count entries => entriesFit 3 count entries
  | .tableWriteSpreaderSettings _ _ count entries => entriesFit 2 count entries
  | .tableWriteAccumulatorSettings _ _ count entries => entriesFit 3 count entries
  | .moveResolveNotMoved _ outcome => decide (outcome ≠ 0)
  | .rodRemoveSpill _ place _ => decide (place ≠ 0)
  | .faultClear _ kinds => decide (1 ≤ kinds.length) && decide (kinds.length ≤ 23)
  | .memoryReadReply _ _ bytes => bytes.all (fun b => decide (b.length = 17))
  | .settleTimerRunOut zone => decide (zone < 12)
  | .setpointRecomputeOrder profile => decide (profile < 8)
  | .correctionResetOrder profile => decide (profile < 8)
  | .talliesHanded pairs => decide (pairs.length ≤ 12) && pairs.all (fun p => decide (p.2 ≤ p.1))
  | .stopOrder cause => decide (cause ≠ .none)
  | .powerUp _ _ _ _ _ => true
  | .hostFrame _ => true
  | .frameGapTimeout => true
  | .frameSent => true
  | .tableReadTunnel _ _ _ => true
  | .tableReadProfile _ _ _ => true
  | .tableReadFormatMap _ _ _ => true
  | .tableReadZoneLayout _ _ _ => true
  | .tableReadLanes _ _ _ => true
  | .tableReadDisposition _ _ _ => true
  | .tableReadPacing _ _ _ => true
  | .tableReadSampling _ _ _ => true
  | .tableReadFaultSettings _ _ _ => true
  | .tableReadDieSettings _ _ _ => true
  | .tableReadGaugeSettings _ _ _ => true
  | .tableReadSpreaderSettings _ _ _ => true
  | .tableReadAccumulatorSettings _ _ _ => true
  | .tableReadPosition _ _ _ => true
  | .tableReadLaneContent _ _ _ _ => true
  | .tableReadZoneState _ _ _ => true
  | .tableReadDieStation _ _ _ => true
  | .tableReadProfileState _ _ _ => true
  | .tableReadCounters _ _ _ => true
  | .lineRun _ => true
  | .lineStop _ => true
  | .jog _ => true
  | .paceRestart _ => true
  | .moveResolveMoved _ => true
  | .pitchTimerExpiry => true
  | .pressScrewPulse _ _ => true
  | .attemptRetry _ => true
  | .moveDone _ _ => true
  | .moveLimitExpiry => true
  | .shiftDoneReport _ => true
  | .standstillExpiry => true
  | .rodFind _ _ => true
  | .rodMark _ _ => true
  | .trackForget _ => true
  | .loadDone _ => true
  | .loadFailed _ => true
  | .loadLimitExpiry => true
  | .batchNew _ => true
  | .presenceEvent _ _ => true
  | .debounceExpiry _ => true
  | .clampEvent _ _ => true
  | .buttonEvent _ => true
  | .memoryExchangeExpiry _ => true
  | .memoryWriteReply _ _ _ => true
  | .dieRelease _ _ => true
  | .dieKeep _ _ => true
  | .dieReread _ _ => true
  | .dieSwap _ _ => true
  | .carriageQueryAnswer _ => true
  | .carriageQueryExpiry => true
  | .carriageDone _ => true
  | .carriageMoveExpiry => true
  | .pressStart _ => true
  | .pressStop _ => true
  | .pressStopOrder => true
  | .pressStarted => true
  | .pressHalted => true
  | .pressFaultReport => true
  | .pressAckExpiry => true
  | .periodicTimerExpiry => true
  | .sampleNow _ => true
  | .readReply _ _ => true
  | .readLimitExpiry => true
  | .setReply _ _ => true
  | .setLimitExpiry => true
  | .zoneAccept _ _ => true
  | .gaugeResult _ _ _ => true
  | .gaugeFailReport _ => true
  | .gaugeLimitExpiry => true
  | .stripDone _ => true
  | .stripFaultReport _ => true
  | .stripLimitExpiry => true
  | .stripRetry _ => true
  | .stripDiscard _ => true
  | .stripPause _ => true
  | .stripResume _ => true
  | .laneDeclare _ _ _ => true
  | .returnDeclare _ _ => true
  | .rodAdd _ _ => true
  | .rodRemoveReturn _ _ => true
  | .faultRaise _ _ => true
  | .faultRead _ => true
  | .status _ => true
  | .store _ => true
  | .storeWriteEnd _ => true
  | .storeLimitExpiry => true
  | .restart _ => true

end Sys2Proof
end

