-- ==== Sys2Proof/Decode.lean ====
section
/-! DEFINITION. The host link's coding of requests (section 11.6): from a good frame to the command it spells, and from
a request command to its frame. The rows of spec/opcode_table.json give no bits, so no table word spells a command. -/

namespace Sys2Proof

/-- The command that an opcode-table word spells. No row of this part's table gives bits: none. -/
def decodeTableWord (_nbits _w : Nat) : Option Instr := none

/-- A TABLE_READ without a lane byte, by table number (R191). LANE_CONTENT needs its lane byte. -/
def decodeTableRead (tag table : Byte) (start : Half) (count : Byte) : Option Instr :=
  match table.toNat with
  | 0 => some (.tableReadTunnel tag start count)
  | 1 => some (.tableReadProfile tag start count)
  | 2 => some (.tableReadFormatMap tag start count)
  | 3 => some (.tableReadZoneLayout tag start count)
  | 4 => some (.tableReadLanes tag start count)
  | 5 => some (.tableReadDisposition tag start count)
  | 6 => some (.tableReadPacing tag start count)
  | 7 => some (.tableReadSampling tag start count)
  | 8 => some (.tableReadFaultSettings tag start count)
  | 9 => some (.tableReadDieSettings tag start count)
  | 10 => some (.tableReadGaugeSettings tag start count)
  | 11 => some (.tableReadSpreaderSettings tag start count)
  | 12 => some (.tableReadAccumulatorSettings tag start count)
  | 16 => some (.tableReadPosition tag start count)
  | 17 => none
  | 18 => some (.tableReadZoneState tag start count)
  | 19 => some (.tableReadDieStation tag start count)
  | 20 => some (.tableReadProfileState tag start count)
  | 21 => some (.tableReadCounters tag start count)
  | _ => some (.tableWriteNotWritten 1 tag table start count [])

/-- A TABLE_WRITE of a written table whose entries have the length the count asks (R189). -/
def decodeTableWrite (tag table : Byte) (start : Half) (count : Byte) (entries : List Byte) : Option Instr :=
  match table.toNat with
  | 0 => some (.tableWriteTunnel tag start count entries)
  | 1 => some (.tableWriteProfile tag start count entries)
  | 2 => some (.tableWriteFormatMap tag start count entries)
  | 3 => some (.tableWriteZoneLayout tag start count entries)
  | 4 => some (.tableWriteLanes tag start count entries)
  | 5 => some (.tableWriteDisposition tag start count entries)
  | 6 => some (.tableWritePacing tag start count entries)
  | 7 => some (.tableWriteSampling tag start count entries)
  | 8 => some (.tableWriteFaultSettings tag start count entries)
  | 9 => some (.tableWriteDieSettings tag start count entries)
  | 10 => some (.tableWriteGaugeSettings tag start count entries)
  | 11 => some (.tableWriteSpreaderSettings tag start count entries)
  | 12 => some (.tableWriteAccumulatorSettings tag start count entries)
  | _ => none

/-- The command of a TABLE_READ body (R191). -/
def decodeReadBody (tag : Byte) (body : List Byte) : Option Instr :=
  match body with
  | [table, s0, s1, count] => decodeTableRead tag table (halfOf s0 s1) count
  | [table, s0, s1, count, lane] =>
    if table = 17 then some (.tableReadLaneContent tag (halfOf s0 s1) count lane) else none
  | _ => none

/-- The command of a TABLE_WRITE body. A table that is not written has no entry size, and the link port makes no test of
its entries' length (R189). -/
def decodeWriteBody (tag : Byte) (body : List Byte) : Option Instr :=
  match body with
  | table :: s0 :: s1 :: count :: entries =>
    match writtenEntrySize table.toNat with
    | some size =>
      if entries.length = count.toNat * size then decodeTableWrite tag table (halfOf s0 s1) count entries else none
    | none => some (.tableWriteNotWritten 2 tag table (halfOf s0 s1) count entries)
  | _ => none

/-- The command of a request with an empty body, by kind (section 11.6). -/
def decodeBare (kind : Nat) (tag : Byte) : Option Instr :=
  match kind with
  | 0x03 => some (.lineRun tag)
  | 0x04 => some (.lineStop tag)
  | 0x05 => some (.jog tag)
  | 0x06 => some (.paceRestart tag)
  | 0x08 => some (.pressStart tag)
  | 0x09 => some (.pressStop tag)
  | 0x14 => some (.stripRetry tag)
  | 0x15 => some (.stripDiscard tag)
  | 0x16 => some (.stripPause tag)
  | 0x17 => some (.stripResume tag)
  | 0x19 => some (.sampleNow tag)
  | 0x1A => some (.faultRead tag)
  | 0x1C => some (.batchNew tag)
  | 0x1D => some (.trackForget tag)
  | 0x1E => some (.status tag)
  | 0x1F => some (.store tag)
  | 0x20 => some (.restart tag)
  | _ => none

/-- The command of a request with a body of one byte. -/
def decodeOne (kind : Nat) (tag b : Byte) : Option Instr :=
  match kind with
  | 0x07 => some (if b = 0 then .moveResolveMoved tag else .moveResolveNotMoved tag b)
  | 0x0A => some (.dieRelease tag b)
  | 0x0B => some (.dieKeep tag b)
  | 0x0C => some (.dieReread tag b)
  | 0x0D => some (.dieSwap tag b)
  | 0x18 => some (.zoneAccept tag b)
  | _ => none

/-- The command of a request with a body of two bytes. -/
def decodeTwo (kind : Nat) (tag b0 b1 : Byte) : Option Instr :=
  match kind with
  | 0x0E => some (.rodFind tag (halfOf b0 b1))
  | 0x0F => some (.rodMark tag (halfOf b0 b1))
  | 0x10 => some (.rodAdd tag (halfOf b0 b1))
  | 0x12 => some (.laneDeclare tag b0 b1)
  | 0x13 => some (.returnDeclare tag (halfOf b0 b1))
  | _ => none

/-- The command of a request with a body of three bytes: ROD_REMOVE. -/
def decodeThree (kind : Nat) (tag b0 b1 b2 : Byte) : Option Instr :=
  match kind with
  | 0x11 => some (if b0 = 0 then .rodRemoveReturn tag (halfOf b1 b2) else .rodRemoveSpill tag b0 (halfOf b1 b2))
  | _ => none

/-- The request a frame spells; none where R189 answers UNKNOWN_REQUEST or LENGTH_ERROR. -/
def Frame.request? (f : Frame) : Option Instr :=
  if f.kind = 0x01 then decodeReadBody f.tag f.body
  else if f.kind = 0x02 then decodeWriteBody f.tag f.body
  else if f.kind = 0x1B then
    (if 1 ≤ f.body.length ∧ f.body.length ≤ 23 then some (.faultClear f.tag f.body) else none)
  else
    match f.body with
    | [] => decodeBare f.kind.toNat f.tag
    | [b] => decodeOne f.kind.toNat f.tag b
    | [b0, b1] => decodeTwo f.kind.toNat f.tag b0 b1
    | [b0, b1, b2] => decodeThree f.kind.toNat f.tag b0 b1 b2
    | _ => none

/-- The command a good frame spells (R189): a request's, or UNKNOWN_REQUEST. -/
def Frame.command (f : Frame) : Instr :=
  f.request?.getD (.unknownRequest f.kind f.tag f.body)

/-- The frame of a TABLE_READ (section 11.6). -/
def readFrame (tag table : Byte) (start : Half) (count : Byte) : Frame :=
  ⟨0x01, tag, table :: (start.bytes ++ [count])⟩

/-- The frame of a TABLE_WRITE (section 11.6). -/
def writeFrame (tag table : Byte) (start : Half) (count : Byte) (entries : List Byte) : Frame :=
  ⟨0x02, tag, table :: (start.bytes ++ count :: entries)⟩

/-- The frame of a request command (section 11.6); none for a command that is no request. -/
def Instr.frame? (i : Instr) : Option Frame :=
  match i with
  | .unknownRequest kind tag body => some ⟨kind, tag, body⟩
  | .tableWriteNotWritten kind tag table start count entries =>
    some ⟨kind, tag, table :: (start.bytes ++ count :: entries)⟩
  | .tableWriteTunnel tag start count entries => some (writeFrame tag 0 start count entries)
  | .tableReadTunnel tag start count => some (readFrame tag 0 start count)
  | .tableWriteProfile tag start count entries => some (writeFrame tag 1 start count entries)
  | .tableReadProfile tag start count => some (readFrame tag 1 start count)
  | .tableWriteFormatMap tag start count entries => some (writeFrame tag 2 start count entries)
  | .tableReadFormatMap tag start count => some (readFrame tag 2 start count)
  | .tableWriteZoneLayout tag start count entries => some (writeFrame tag 3 start count entries)
  | .tableReadZoneLayout tag start count => some (readFrame tag 3 start count)
  | .tableWriteLanes tag start count entries => some (writeFrame tag 4 start count entries)
  | .tableReadLanes tag start count => some (readFrame tag 4 start count)
  | .tableWriteDisposition tag start count entries => some (writeFrame tag 5 start count entries)
  | .tableReadDisposition tag start count => some (readFrame tag 5 start count)
  | .tableWritePacing tag start count entries => some (writeFrame tag 6 start count entries)
  | .tableReadPacing tag start count => some (readFrame tag 6 start count)
  | .tableWriteSampling tag start count entries => some (writeFrame tag 7 start count entries)
  | .tableReadSampling tag start count => some (readFrame tag 7 start count)
  | .tableWriteFaultSettings tag start count entries => some (writeFrame tag 8 start count entries)
  | .tableReadFaultSettings tag start count => some (readFrame tag 8 start count)
  | .tableWriteDieSettings tag start count entries => some (writeFrame tag 9 start count entries)
  | .tableReadDieSettings tag start count => some (readFrame tag 9 start count)
  | .tableWriteGaugeSettings tag start count entries => some (writeFrame tag 10 start count entries)
  | .tableReadGaugeSettings tag start count => some (readFrame tag 10 start count)
  | .tableWriteSpreaderSettings tag start count entries => some (writeFrame tag 11 start count entries)
  | .tableReadSpreaderSettings tag start count => some (readFrame tag 11 start count)
  | .tableWriteAccumulatorSettings tag start count entries => some (writeFrame tag 12 start count entries)
  | .tableReadAccumulatorSettings tag start count => some (readFrame tag 12 start count)
  | .tableReadPosition tag start count => some (readFrame tag 16 start count)
  | .tableReadLaneContent tag place count lane => some ⟨0x01, tag, 17 :: (place.bytes ++ [count, lane])⟩
  | .tableReadZoneState tag start count => some (readFrame tag 18 start count)
  | .tableReadDieStation tag start count => some (readFrame tag 19 start count)
  | .tableReadProfileState tag start count => some (readFrame tag 20 start count)
  | .tableReadCounters tag start count => some (readFrame tag 21 start count)
  | .lineRun tag => some ⟨0x03, tag, []⟩
  | .lineStop tag => some ⟨0x04, tag, []⟩
  | .jog tag => some ⟨0x05, tag, []⟩
  | .paceRestart tag => some ⟨0x06, tag, []⟩
  | .moveResolveMoved tag => some ⟨0x07, tag, [0]⟩
  | .moveResolveNotMoved tag outcome => some ⟨0x07, tag, [outcome]⟩
  | .pressStart tag => some ⟨0x08, tag, []⟩
  | .pressStop tag => some ⟨0x09, tag, []⟩
  | .dieRelease tag station => some ⟨0x0A, tag, [station]⟩
  | .dieKeep tag station => some ⟨0x0B, tag, [station]⟩
  | .dieReread tag station => some ⟨0x0C, tag, [station]⟩
  | .dieSwap tag station => some ⟨0x0D, tag, [station]⟩
  | .rodFind tag id => some ⟨0x0E, tag, id.bytes⟩
  | .rodMark tag id => some ⟨0x0F, tag, id.bytes⟩
  | .rodAdd tag count => some ⟨0x10, tag, count.bytes⟩
  | .rodRemoveReturn tag count => some ⟨0x11, tag, 0 :: count.bytes⟩
  | .rodRemoveSpill tag place count => some ⟨0x11, tag, place :: count.bytes⟩
  | .laneDeclare tag lane count => some ⟨0x12, tag, [lane, count]⟩
  | .returnDeclare tag count => some ⟨0x13, tag, count.bytes⟩
  | .stripRetry tag => some ⟨0x14, tag, []⟩
  | .stripDiscard tag => some ⟨0x15, tag, []⟩
  | .stripPause tag => some ⟨0x16, tag, []⟩
  | .stripResume tag => some ⟨0x17, tag, []⟩
  | .zoneAccept tag zone => some ⟨0x18, tag, [zone]⟩
  | .sampleNow tag => some ⟨0x19, tag, []⟩
  | .faultRead tag => some ⟨0x1A, tag, []⟩
  | .faultClear tag kinds => some ⟨0x1B, tag, kinds⟩
  | .batchNew tag => some ⟨0x1C, tag, []⟩
  | .trackForget tag => some ⟨0x1D, tag, []⟩
  | .status tag => some ⟨0x1E, tag, []⟩
  | .store tag => some ⟨0x1F, tag, []⟩
  | .restart tag => some ⟨0x20, tag, []⟩
  | .powerUp _ _ _ _ _ => none
  | .hostFrame _ => none
  | .frameGapTimeout => none
  | .frameSent => none
  | .stopOrder _ => none
  | .pitchTimerExpiry => none
  | .pressScrewPulse _ _ => none
  | .attemptRetry _ => none
  | .moveDone _ _ => none
  | .moveLimitExpiry => none
  | .shiftDoneReport _ => none
  | .standstillExpiry => none
  | .talliesHanded _ => none
  | .loadDone _ => none
  | .loadFailed _ => none
  | .loadLimitExpiry => none
  | .presenceEvent _ _ => none
  | .debounceExpiry _ => none
  | .clampEvent _ _ => none
  | .buttonEvent _ => none
  | .memoryReadReply _ _ _ => none
  | .memoryExchangeExpiry _ => none
  | .memoryWriteReply _ _ _ => none
  | .carriageQueryAnswer _ => none
  | .carriageQueryExpiry => none
  | .carriageDone _ => none
  | .carriageMoveExpiry => none
  | .pressStopOrder => none
  | .pressStarted => none
  | .pressHalted => none
  | .pressFaultReport => none
  | .pressAckExpiry => none
  | .periodicTimerExpiry => none
  | .readReply _ _ => none
  | .readLimitExpiry => none
  | .setReply _ _ => none
  | .setLimitExpiry => none
  | .settleTimerRunOut _ => none
  | .setpointRecomputeOrder _ => none
  | .gaugeResult _ _ _ => none
  | .gaugeFailReport _ => none
  | .gaugeLimitExpiry => none
  | .correctionResetOrder _ => none
  | .stripDone _ => none
  | .stripFaultReport _ => none
  | .stripLimitExpiry => none
  | .faultRaise _ _ => none
  | .storeWriteEnd _ => none
  | .storeLimitExpiry => none

end Sys2Proof
end

