-- ==== Sys2Proof/Machine/Bytes.lean ====
section
/-! DEFINITION. Byte coding (R199): numbers as little-endian bytes, entries as lists of fields, the CRC-16 of R187. -/

namespace Sys2Proof

/-- A number in one byte. -/
def u8 (n : Nat) : List Byte := [BitVec.ofNat 8 n]

/-- A number in two bytes, the low byte first. -/
def u16 (n : Nat) : List Byte := [BitVec.ofNat 8 n, BitVec.ofNat 8 (n / 256)]

/-- A number in four bytes, the low byte first. -/
def u32 (n : Nat) : List Byte := u16 n ++ u16 (n / 65536)

/-- A signed value in two bytes, two's complement. -/
def i16 (z : Int) : List Byte := u16 (z % 65536).toNat

/-- A flag: 0 for clear and 1 for set. -/
def flag (b : Bool) : List Byte := u8 (if b then 1 else 0)

/-- An item that may be absent: 0, or 1 and the value. -/
def optItem {α : Type} (item : α → List Byte) (x : Option α) : List Byte :=
  match x with
  | none => u8 0
  | some a => u8 1 ++ item a

/-- A list whose length varies: the number of its elements and the elements. -/
def listItem {α : Type} (item : α → List Byte) (xs : List α) : List Byte :=
  u8 xs.length ++ (xs.map item).flatten

/-- The number that little-endian bytes spell. -/
def leNat : List Byte → Nat
  | [] => 0
  | b :: bs => b.toNat + 256 * leNat bs

/-- One field of an entry layout: `count` values of `width` bytes, each refused with FIELD_RANGE unless `ok` holds. -/
structure FieldSpec where
  width : Nat
  count : Nat
  ok : Nat → Bool

/-- The values of `count` numbers of `width` bytes each. -/
def readValues (width : Nat) : Nat → List Byte → List Nat
  | 0, _ => []
  | n + 1, bytes => leNat (bytes.take width) :: readValues width n (bytes.drop width)

/-- The values of every field of an entry, in the order of its layout. -/
def readFields : List FieldSpec → List Byte → List (List Nat)
  | [], _ => []
  | f :: fs, bytes => readValues f.width f.count bytes :: readFields fs (bytes.drop (f.width * f.count))

/-- The size of an entry in bytes. -/
def entryBytes (specs : List FieldSpec) : Nat := (specs.map (fun f => f.width * f.count)).sum

/-- The fields of `n` entries one after another. -/
def readEntries (specs : List FieldSpec) : Nat → List Byte → List (List (List Nat))
  | 0, _ => []
  | n + 1, bytes => readFields specs (bytes.take (entryBytes specs)) :: readEntries specs n (bytes.drop (entryBytes specs))

/-- The first field out of range, in the order of the layout, for the tables whose rule does not order the fields too (R166,
log entry 25). -/
def badField? (specs : List FieldSpec) (values : List (List Nat)) : Option Nat :=
  (List.range specs.length).find? fun k =>
    match specs[k]?, values[k]? with
    | some f, some vs => !(vs.all f.ok)
    | _, _ => false

/-- The first entry and field out of range, entry by entry and within an entry field by field (R50, R58, R189). The
entry is named by its index in the table. -/
def badEntry? (specs : List FieldSpec) (start : Nat) (entries : List (List (List Nat))) : Option (Nat × Nat) :=
  (entries.zipIdx start).findSome? fun e => (badField? specs e.1).map fun f => (e.2, f)

/-- The single value of field `k` of an entry. -/
def field (values : List (List Nat)) (k : Nat) : Nat := (values.getD k []).getD 0 0

/-- The values of field `k` of an entry. -/
def fieldList (values : List (List Nat)) (k : Nat) : List Nat := values.getD k []

/-- One bit of the CRC-16 of R187: polynomial 0x1021, most significant bit first. -/
def crcBit (c : Half) : Half := if c.msb then (c <<< 1) ^^^ 0x1021 else c <<< 1

/-- One byte of the CRC-16. -/
def crcByte (c : Half) (b : Byte) : Half :=
  crcBit (crcBit (crcBit (crcBit (crcBit (crcBit (crcBit (crcBit (c ^^^ (b ++ (0 : Byte))))))))))

/-- The CRC-16 of R187: initial value 0xFFFF, no final inversion. -/
def crc16 (bytes : List Byte) : Half := bytes.foldl crcByte 0xFFFF

/-- The bytes of a frame on the host link (R187, R199). -/
def frameBytes (f : Frame) : List Byte :=
  let inner := u8 (f.body.length + 2) ++ [f.kind, f.tag] ++ f.body
  0xE7 :: (inner ++ (crc16 inner).bytes)

end Sys2Proof
end

