-- ==== Sys2Proof/Machine/Tables.lean ====
section
/-! DEFINITION. The 13 stored tables of R191: their entries, their defaults, the ranges of their fields and their byte
layouts (section 11.6). -/

namespace Sys2Proof.Machine

/-- One entry of the PROFILE table (R46). -/
structure Profile where
  m0 : Nat
  target : Nat
  tolerance : Nat
  eq : List Nat
  kbase : List Nat
  gain : Nat
  ac : Nat
  weight : Nat
  limit : Nat
  temp : List Nat
  hum : List Nat
  lane : Nat
  band : Nat
  purge : Nat
  deriving DecidableEq, Repr, Inhabited

/-- One entry of the FORMAT_MAP table (R57). -/
structure MapEntry where
  enabled : Bool
  profile : Nat
  deriving DecidableEq, Repr, Inhabited

/-- One entry of the ZONE_LAYOUT table (R88). -/
structure ZoneEntry where
  type : ZoneType
  last : Nat
  governing : Nat
  relax : Nat
  trimStep : Nat
  trimMax : Nat
  tempBand : Nat
  humBand : Nat
  edge : EdgeMode
  settle : Nat
  deriving DecidableEq, Repr, Inhabited

/-- One entry of the LANES table (R148, R149). -/
structure LaneEntry where
  capacity : Nat
  mode : LaneMode
  weight : Nat
  dest : Gate
  deriving DecidableEq, Repr, Inhabited

/-- The entry of the PACING table (R67). The period is in 0.1 s, the move limit in seconds. -/
structure PacingEntry where
  mode : PaceMode
  period : Nat
  pulses : Nat
  polarity : Edge
  moveLimit : Nat
  deriving DecidableEq, Repr, Inhabited

/-- The entry of the SAMPLING table (R95). -/
structure SamplingEntry where
  advanceOn : Bool
  period : Nat
  deriving DecidableEq, Repr, Inhabited

/-- One entry of the FAULT_SETTINGS table (R175). -/
structure FaultSetting where
  masked : Bool
  severity : Severity
  deriving DecidableEq, Repr, Inhabited

/-- The entry of the DIE_SETTINGS table (R114): milliseconds and seconds. -/
structure DieSettings where
  debounce : Nat
  carriageLimit : Nat
  deriving DecidableEq, Repr, Inhabited

/-- The entry of the GAUGE_SETTINGS table (R166). -/
structure GaugeSettings where
  position : Option Nat
  limit : Nat
  deriving DecidableEq, Repr, Inhabited

/-- The entry of the SPREADER_SETTINGS table (R136). -/
structure SpreaderSettings where
  loadLimit : Nat
  emptyFill : Bool
  deriving DecidableEq, Repr, Inhabited

/-- The entry of the ACCUMULATOR_SETTINGS table (R158). -/
structure AccSettings where
  stripLimit : Nat
  returnCap : Nat
  deriving DecidableEq, Repr, Inhabited

/-- The 13 stored tables (R191). The number of zones Z is the length of `zones` (R88). -/
structure Tables where
  length : Nat
  profiles : List Profile
  formatMap : List MapEntry
  zones : List ZoneEntry
  lanes : List LaneEntry
  dispositions : List Nat
  pacing : PacingEntry
  sampling : SamplingEntry
  faults : List FaultSetting
  die : DieSettings
  gauge : GaugeSettings
  spreader : SpreaderSettings
  acc : AccSettings
  deriving DecidableEq, Repr, Inhabited

/-- The default profile entry (R47). -/
def defaultProfile : Profile where
  m0 := 3000
  target := 1250
  tolerance := 50
  eq := [500, 700, 900, 1100, 1300, 1500, 1700, 1900, 2100, 2300, 2500]
  kbase := List.replicate 12 1200
  gain := 8
  ac := 15
  weight := 4
  limit := 2000
  temp := List.replicate 12 700
  hum := List.replicate 12 750
  lane := 0
  band := 100
  purge := 4

/-- A default zone entry, but for the fields in which R88's defaults differ from zone to zone. -/
def defaultZone (type : ZoneType) (last governing relax : Nat) : ZoneEntry :=
  ⟨type, last, governing, relax, 5, 50, 30, 50, .both, 300⟩

/-- The default severity of a kind (R173). -/
def defaultSeverity (k : FaultKind) : Severity :=
  match k with
  | .chainStall | .moduleMismatch | .dieSurpriseRemoval | .carriageTimeout | .pressDriveFault => .halt
  | .spreaderTimeout | .heaterFault => .hold
  | .chainLateDone | .pitchOverrun | .trackMismatch | .returnOverflow | .stripFault | .stripperTimeout
  | .zoneModuleLost | .climateDeviation | .rodStressed | .rodUnderdry | .gaugeDeviation | .gaugeTimeout
  | .dieUnreadable | .dieWritebackLost | .dieWear | .configDefaulted => .note

/-- The fault kinds in the order of their numbers (R173). -/
def allKinds : List FaultKind :=
  [.chainStall, .chainLateDone, .pitchOverrun, .trackMismatch, .spreaderTimeout, .returnOverflow, .stripFault,
   .stripperTimeout, .zoneModuleLost, .moduleMismatch, .heaterFault, .climateDeviation, .rodStressed, .rodUnderdry,
   .gaugeDeviation, .gaugeTimeout, .dieUnreadable, .dieSurpriseRemoval, .dieWritebackLost, .dieWear, .carriageTimeout,
   .pressDriveFault, .configDefaulted]

/-- The number of a kind (R173). -/
def kindNumber (k : FaultKind) : Nat := k.ctorIdx

/-- The stored tables' defaults (R1, R47, R57, R67, R88, R95, R114, R136, R148, R151, R158, R166, R174). -/
def defaultTables : Tables where
  length := 480
  profiles := List.replicate 8 defaultProfile
  formatMap := List.replicate 64 ⟨true, 0⟩
  zones := [defaultZone .pre 79 0 0, defaultZone .dry 159 80 0, defaultZone .dry 239 160 0,
    defaultZone .dry 319 240 0, defaultZone .relax 399 320 60, defaultZone .cool 479 400 0]
  lanes := [⟨120, .ratio, 4, .pack⟩, ⟨60, .ratio, 2, .pack⟩, ⟨30, .strict, 1, .rework⟩, ⟨30, .strict, 1, .rework⟩]
  dispositions := [3, 3, 2, 2, 2]
  pacing := ⟨.fixed, 600, 40, .rising, 12⟩
  sampling := ⟨true, 60⟩
  faults := allKinds.map fun k => ⟨false, defaultSeverity k⟩
  die := ⟨300, 40⟩
  gauge := ⟨none, 15⟩
  spreader := ⟨8, true⟩
  acc := ⟨20, 200⟩

/-- A field of one value within a range. -/
def ranged (width lo hi : Nat) : FieldSpec := ⟨width, 1, fun n => decide (lo ≤ n) && decide (n ≤ hi)⟩

/-- A field of `count` values within a range. -/
def rangedList (width count lo hi : Nat) : FieldSpec := ⟨width, count, fun n => decide (lo ≤ n) && decide (n ≤ hi)⟩

/-- A field whose values are never refused. -/
def unranged (width count : Nat) : FieldSpec := ⟨width, count, fun _ => true⟩

/-- TUNNEL (R1): the value's range. -/
def tunnelSpec : List FieldSpec := [ranged 2 32 1536]

/-- PROFILE (R46, R51, R52): setpoints are clamped, not refused, and so is an Ac of 0. -/
def profileSpec : List FieldSpec :=
  [ranged 2 0 4000, ranged 2 0 4000, ranged 2 0 500, rangedList 2 11 0 4000, rangedList 2 12 0 8191, ranged 1 0 64,
   ranged 2 0 500, ranged 1 1 16, ranged 2 1 65535, unranged 2 12, unranged 2 12, ranged 1 0 3, ranged 2 0 1000,
   unranged 1 1]

/-- FORMAT_MAP (R57, R58). -/
def formatMapSpec : List FieldSpec := [ranged 1 0 1, ranged 1 0 7]

/-- ZONE_LAYOUT (R88). -/
def zoneSpec : List FieldSpec :=
  [ranged 1 0 3, ranged 2 0 1535, ranged 2 0 1535, ranged 2 0 1000, ranged 1 0 50, ranged 1 0 100, ranged 1 0 200,
   ranged 2 0 300, ranged 1 0 2, ranged 2 0 1800]

/-- LANES (R148, R149). -/
def laneSpec : List FieldSpec := [ranged 1 0 240, ranged 1 0 1, ranged 1 1 127, ranged 1 0 1]

/-- DISPOSITION (R151). -/
def dispositionSpec : List FieldSpec := [ranged 1 0 3]

/-- PACING (R67): a period below 50 is clamped. -/
def pacingSpec : List FieldSpec := [ranged 1 0 1, ranged 2 0 36000, ranged 2 1 65535, ranged 1 0 1, ranged 1 2 60]

/-- SAMPLING (R95). -/
def samplingSpec : List FieldSpec := [ranged 1 0 1, ranged 2 5 600]

/-- FAULT_SETTINGS (R175). -/
def faultSpec : List FieldSpec := [ranged 1 0 1, ranged 1 0 2]

/-- DIE_SETTINGS (R114). -/
def dieSpec : List FieldSpec := [ranged 2 10 2560, ranged 1 5 120]

/-- GAUGE_SETTINGS (R166): a position up to 1535, or 0xFFFF for NONE. -/
def gaugeSpec : List FieldSpec :=
  [⟨2, 1, fun n => decide (n ≤ 1535) || decide (n = 0xFFFF)⟩, ranged 1 1 60]

/-- SPREADER_SETTINGS (R136). -/
def spreaderSpec : List FieldSpec := [ranged 1 1 30, ranged 1 0 1]

/-- ACCUMULATOR_SETTINGS (R158). -/
def accSpec : List FieldSpec := [ranged 1 2 60, ranged 2 0 1023]

/-- The zone type of a code (R199). -/
def zoneTypeOf (n : Nat) : ZoneType :=
  match n with
  | 0 => .pre
  | 1 => .dry
  | 2 => .relax
  | _ => .cool

/-- The edge mode of a code (R199). -/
def edgeModeOf (n : Nat) : EdgeMode :=
  match n with
  | 0 => .leave
  | 1 => .ret
  | _ => .both

/-- The severity of a code (R199). -/
def severityOf (n : Nat) : Severity :=
  match n with
  | 0 => .halt
  | 1 => .hold
  | _ => .note

/-- A profile entry from its fields, with R51's clamping. -/
def profileOf (v : List (List Nat)) : Profile where
  m0 := field v 0
  target := field v 1
  tolerance := field v 2
  eq := fieldList v 3
  kbase := fieldList v 4
  gain := field v 5
  ac := max 1 (field v 6)
  weight := field v 7
  limit := field v 8
  temp := (fieldList v 9).map (min 1200)
  hum := (fieldList v 10).map (min 1000)
  lane := field v 11
  band := field v 12
  purge := field v 13

/-- How many values of a profile entry R51 clamps. -/
def profileClamps (v : List (List Nat)) : Nat :=
  (fieldList v 9).countP (fun t => decide (1200 < t)) + (fieldList v 10).countP (fun h => decide (1000 < h))
    + (if field v 6 = 0 then 1 else 0)

/-- A format map entry from its fields. -/
def mapEntryOf (v : List (List Nat)) : MapEntry := ⟨decide (field v 0 = 0), field v 1⟩

/-- A zone entry from its fields. -/
def zoneEntryOf (v : List (List Nat)) : ZoneEntry :=
  ⟨zoneTypeOf (field v 0), field v 1, field v 2, field v 3, field v 4, field v 5, field v 6, field v 7,
   edgeModeOf (field v 8), field v 9⟩

/-- A lane entry from its fields. -/
def laneEntryOf (v : List (List Nat)) : LaneEntry :=
  ⟨field v 0, if field v 1 = 0 then .strict else .ratio, field v 2, if field v 3 = 0 then .pack else .rework⟩

/-- A pacing entry from its fields, with R67's clamping. -/
def pacingEntryOf (v : List (List Nat)) : PacingEntry :=
  ⟨if field v 0 = 0 then .fixed else .follow, max 50 (field v 1), field v 2,
   if field v 3 = 0 then .rising else .falling, field v 4⟩

/-- A sampling entry from its fields. -/
def samplingEntryOf (v : List (List Nat)) : SamplingEntry := ⟨decide (field v 0 = 0), field v 1⟩

/-- A fault setting from its fields. -/
def faultSettingOf (v : List (List Nat)) : FaultSetting := ⟨decide (field v 0 = 0), severityOf (field v 1)⟩

/-- The die settings from their fields. -/
def dieSettingsOf (v : List (List Nat)) : DieSettings := ⟨field v 0, field v 1⟩

/-- The gauge settings from their fields. -/
def gaugeSettingsOf (v : List (List Nat)) : GaugeSettings :=
  ⟨if field v 0 = 0xFFFF then none else some (field v 0), field v 1⟩

/-- The spreader settings from their fields. -/
def spreaderSettingsOf (v : List (List Nat)) : SpreaderSettings := ⟨field v 0, decide (field v 1 = 0)⟩

/-- The accumulator settings from their fields. -/
def accSettingsOf (v : List (List Nat)) : AccSettings := ⟨field v 0, field v 1⟩

/-- A profile entry's 110 bytes. -/
def Profile.bytes (p : Profile) : List Byte :=
  u16 p.m0 ++ u16 p.target ++ u16 p.tolerance ++ (p.eq.map u16).flatten ++ (p.kbase.map u16).flatten ++ u8 p.gain
    ++ u16 p.ac ++ u8 p.weight ++ u16 p.limit ++ (p.temp.map u16).flatten ++ (p.hum.map u16).flatten ++ u8 p.lane
    ++ u16 p.band ++ u8 p.purge

/-- A format map entry's 2 bytes. -/
def MapEntry.bytes (e : MapEntry) : List Byte := u8 (if e.enabled then 0 else 1) ++ u8 e.profile

/-- A zone entry's 15 bytes. -/
def ZoneEntry.bytes (z : ZoneEntry) : List Byte :=
  u8 z.type.ctorIdx ++ u16 z.last ++ u16 z.governing ++ u16 z.relax ++ u8 z.trimStep ++ u8 z.trimMax ++ u8 z.tempBand
    ++ u16 z.humBand ++ u8 z.edge.ctorIdx ++ u16 z.settle

/-- A lane entry's 4 bytes. -/
def LaneEntry.bytes (l : LaneEntry) : List Byte := u8 l.capacity ++ u8 l.mode.ctorIdx ++ u8 l.weight ++ u8 l.dest.ctorIdx

/-- The pacing entry's 7 bytes. -/
def PacingEntry.bytes (p : PacingEntry) : List Byte :=
  u8 p.mode.ctorIdx ++ u16 p.period ++ u16 p.pulses ++ u8 p.polarity.ctorIdx ++ u8 p.moveLimit

/-- The sampling entry's 3 bytes. -/
def SamplingEntry.bytes (e : SamplingEntry) : List Byte := u8 (if e.advanceOn then 0 else 1) ++ u16 e.period

/-- A fault setting's 2 bytes. -/
def FaultSetting.bytes (e : FaultSetting) : List Byte := u8 (if e.masked then 0 else 1) ++ u8 e.severity.ctorIdx

/-- The die settings' 3 bytes. -/
def DieSettings.bytes (e : DieSettings) : List Byte := u16 e.debounce ++ u8 e.carriageLimit

/-- The gauge settings' 3 bytes. -/
def GaugeSettings.bytes (e : GaugeSettings) : List Byte := u16 (e.position.getD 0xFFFF) ++ u8 e.limit

/-- The spreader settings' 2 bytes. -/
def SpreaderSettings.bytes (e : SpreaderSettings) : List Byte := u8 e.loadLimit ++ u8 (if e.emptyFill then 0 else 1)

/-- The accumulator settings' 3 bytes. -/
def AccSettings.bytes (e : AccSettings) : List Byte := u8 e.stripLimit ++ u16 e.returnCap

/-- The settings store's copy as bytes, over which its check is taken (R194): the tables in the order of their numbers,
each in its entry layout (log entry 9). -/
def Tables.bytes (t : Tables) : List Byte :=
  u16 t.length ++ (t.profiles.map Profile.bytes).flatten ++ (t.formatMap.map MapEntry.bytes).flatten
    ++ u8 t.zones.length ++ (t.zones.map ZoneEntry.bytes).flatten ++ (t.lanes.map LaneEntry.bytes).flatten
    ++ (t.dispositions.map u8).flatten ++ t.pacing.bytes ++ t.sampling.bytes
    ++ (t.faults.map FaultSetting.bytes).flatten ++ t.die.bytes ++ t.gauge.bytes ++ t.spreader.bytes ++ t.acc.bytes

end Sys2Proof.Machine
end

