-- ==== Sys2Proof/Machine/State.lean ====
section
/-! DEFINITION. The state of the part as plain data: every item the chapters give each block, the messages handed
between blocks and not yet taken, the messages sent on the station bus, and the queue of waiting commands. -/

namespace Sys2Proof.Machine

/-- Why the part stops. No rule of the spec stops it, so there is no reason: no meaning raises a fault. -/
inductive Fault where
  deriving DecidableEq, Repr

/-- Why a command has no meaning. -/
inductive Refusal where
  /-- Raised by `exec` for a row that has no meaning yet. Safe: the model stops where the part goes on. -/
  | notModelled (mnemonic : String)
  deriving DecidableEq, Repr

/-- A limit that counts: the moment it started and its length, in milliseconds. A stopped limit is an absent one. -/
structure Timer where
  start : Nat
  limit : Nat
  deriving DecidableEq, Repr, Inhabited

/-- A count of elapsed milliseconds that can stand still: what it has counted before `since`, and since when it counts. -/
structure Stopwatch where
  base : Nat
  since : Option Nat
  deriving DecidableEq, Repr, Inhabited

/-- A record's flags (R3). -/
structure Flags where
  purge : Bool := false
  stressed : Bool := false
  underdry : Bool := false
  estimated : Bool := false
  hostmark : Bool := false
  gauged : Bool := false
  deriving DecidableEq, Repr, Inhabited

/-- The fields that a TRACKED record holds and an UNTRACKED one never does (R3). -/
structure Product where
  batch : Nat
  format : Nat
  profile : Nat
  side : Side
  dieId : Nat
  holes : Nat
  moisture : Nat
  stress : Nat
  dwell : List Nat
  deriving DecidableEq, Repr, Inhabited

/-- A record's gauge part (R3). The deviation is the model's moisture less the measured one. -/
structure GaugePart where
  measured : Nat
  deviation : Int
  time : Nat
  deriving DecidableEq, Repr, Inhabited

/-- Where an exit part says that the rod went (R3). -/
inductive ExitLane where
  | lane (n : Nat)
  | returned
  | spill
  | none
  deriving DecidableEq, Repr, Inhabited

/-- A record's exit part (R3). -/
structure ExitPart where
  time : Nat
  disposition : Disposition
  lane : ExitLane
  deriving DecidableEq, Repr, Inhabited

/-- A record's close part (R3). -/
structure ClosePart where
  outcome : CloseOutcome
  time : Nat
  deriving DecidableEq, Repr, Inhabited

/-- A rod record (R3). The origin is TRACKED when `product` is present and UNTRACKED when it is absent. -/
structure Rod where
  id : Nat
  born : Nat
  flags : Flags
  product : Option Product
  gauge : Option GaugePart
  exit : Option ExitPart
  close : Option ClosePart
  deriving DecidableEq, Repr, Inhabited

/-- The content of a tunnel position (R2). -/
inductive Content where
  | loaded (rod : Rod)
  | empty
  | gap
  | unknown
  deriving DecidableEq, Repr, Inhabited

/-- The tunnel track (chapter 1). -/
structure Track where
  /-- The L positions, position 0 first (R2). -/
  positions : List Content
  /-- The last rod id assigned (R6). -/
  lastId : Nat
  /-- Whether the inventory is established (R16). -/
  established : Bool
  /-- The inventory count (R16, R17). -/
  inventory : Nat
  /-- The spill count (R18). -/
  spill : Nat
  /-- The update instant, a line-clock time (R20, R27). -/
  updateInstant : Nat
  /-- The second, counted from power-up without wrapping, at which the standstill timer last started from 0 (R20). -/
  standstillFrom : Nat
  deriving DecidableEq, Repr, Inhabited

/-- The move in flight or unresolved (R66). -/
structure Move where
  number : Nat
  reservation : Option Nat
  disposition : Option Disposition
  deriving DecidableEq, Repr, Inhabited

/-- The pacing settings in force (R68). -/
structure InForce where
  mode : PaceMode
  period : Nat
  pulses : Nat
  polarity : Edge
  deriving DecidableEq, Repr, Inhabited

/-- The pacing unit (chapter 4). -/
structure Pace where
  line : LineState
  cause : StopCause
  pacer : PacerState
  reason : Option DeferralReason
  due : Bool
  moveNumber : Nat
  kind : MoveKind
  /-- The move timer with the limit that its move started with. -/
  timer : Option Timer
  inFlight : Option Move
  lateWindow : Option Nat
  force : InForce
  /-- The pitch timer (R69). -/
  pitch : Stopwatch
  /-- The pulse counter (R70). -/
  pulses : Nat
  /-- The millisecond of the last counted edge, the reference of the 2 ms test (R70). -/
  lastEdge : Option Nat
  deriving DecidableEq, Repr, Inhabited

/-- A zone's reading (R91). -/
structure Reading where
  temp : Nat
  hum : Nat
  time : Nat
  deriving DecidableEq, Repr, Inhabited

/-- A zone's runtime state (R91). -/
structure ZoneRt where
  profile : Nat
  trim : Nat
  effTemp : Nat
  effHum : Nat
  reading : Option Reading
  valid : Bool
  identity : Option Nat
  hold : Bool
  settling : Bool
  misses : Nat
  output : OutputStatus
  tempOut : Bool
  humOut : Bool
  /-- The second, counted from power-up without wrapping, at which the settle timer started; none once it has run out. -/
  settleFrom : Option Nat
  tallies : Nat × Nat
  deriving DecidableEq, Repr, Inhabited

/-- What one zone's turn in a sample round gave (R97). -/
structure ZoneResult where
  zone : Nat
  outcome : ReadOutcome
  /-- The SET's outcome, DONE or not, if a SET was sent. -/
  set : Option Bool
  deriving DecidableEq, Repr, Inhabited

/-- The exchange of a round that is in flight: the zone's READ, or its SET after a READ with this outcome. -/
inductive RoundPhase where
  | read
  | set (outcome : ReadOutcome)
  deriving DecidableEq, Repr, Inhabited

/-- The sample round in flight (R97). -/
structure Round where
  trigger : Trigger
  start : Nat
  zone : Nat
  phase : RoundPhase
  number : Nat
  timer : Timer
  results : List ZoneResult
  deriving DecidableEq, Repr, Inhabited

/-- The zone unit (chapter 5): the runtime state of the 12 zone indices, and the round. -/
structure Climate where
  zones : List ZoneRt
  round : Option Round
  exchange : Nat
  /-- The millisecond at which the periodic timer last started from 0 (R95, R96). -/
  periodicFrom : Nat
  deriving DecidableEq, Repr, Inhabited

/-- A die record (R115) with the check it was read with. -/
structure DieRecord where
  id : Nat
  format : Nat
  holes : Nat
  wear : Nat
  limit : Nat
  check : Nat
  deriving DecidableEq, Repr, Inhabited

/-- A die memory exchange in flight (R116): a read, or a write of this wear. -/
structure DieExchange where
  write : Option Nat
  number : Nat
  timer : Timer
  deriving DecidableEq, Repr, Inhabited

/-- A die station (R113, R116). -/
structure Station where
  presence : Bool
  clamp : Bool
  state : StationState
  reason : Option RejectReason
  debounce : Option Timer
  copy : Option DieRecord
  wearAtRead : Option Nat
  wearReported : Bool
  asked : Bool
  exchange : Nat
  inFlight : Option DieExchange
  deriving DecidableEq, Repr, Inhabited

/-- The extrusion identity (R119), and the copy of it that a load holds (R139). -/
structure Identity where
  side : Side
  dieId : Nat
  format : Nat
  holes : Nat
  deriving DecidableEq, Repr, Inhabited

/-- The die carriage unit (chapter 6). -/
structure DieUnit where
  stationA : Station
  stationB : Station
  active : Option Side
  identity : Option Identity
  /-- The carriage position; none is UNKNOWN (R128). -/
  position : Option Side
  carriage : CarriageState
  /-- The target of the carriage move in flight, or of the one that was lost. -/
  target : Option Side
  /-- The query's limit or the carriage move's limit. -/
  carriageTimer : Option Timer
  press : PressState
  pressTimer : Option Timer
  deriving DecidableEq, Repr, Inhabited

/-- The staged slot with the staged record (R135). -/
inductive Slot where
  | none
  | loading
  | loaded (rod : Rod)
  | emptyStaged
  deriving DecidableEq, Repr, Inhabited

/-- The load in flight (R135). -/
structure Load where
  number : Nat
  timer : Timer
  identity : Identity
  deriving DecidableEq, Repr, Inhabited

/-- The spreader unit (chapter 7). -/
structure Spreader where
  slot : Slot
  loadNumber : Nat
  load : Option Load
  hold : Bool
  batch : Nat
  purge : Nat
  deriving DecidableEq, Repr, Inhabited

/-- A lane's runtime state (R148). -/
structure LaneRt where
  declared : Bool
  records : List Rod
  reservations : Nat
  credit : Nat
  deriving DecidableEq, Repr, Inhabited

/-- The strip slot while occupied (R159). -/
structure StripSlot where
  rod : Rod
  lane : Nat
  gate : Gate
  deriving DecidableEq, Repr, Inhabited

/-- The accumulator unit (chapter 8). -/
structure Accumulator where
  lanes : List LaneRt
  pointer : Nat
  stripper : StripperState
  slot : Option StripSlot
  number : Nat
  paused : Bool
  timer : Option Timer
  returnDeclared : Bool
  returnCount : Nat
  deriving DecidableEq, Repr, Inhabited

/-- The measurement in flight (R166). The gauge is MEASURING when there is one and IDLE when there is none. -/
structure Measurement where
  number : Nat
  rod : Nat
  born : Nat
  timer : Timer
  deriving DecidableEq, Repr, Inhabited

/-- The gauge unit (chapter 9). -/
structure Gauge where
  number : Nat
  inFlight : Option Measurement
  factors : List Nat
  deriving DecidableEq, Repr, Inhabited

/-- A kind's status and count in the fault log (R174); its mask and severity are the FAULT_SETTINGS table. -/
structure KindState where
  set : Bool
  count : Nat
  deriving DecidableEq, Repr, Inhabited

/-- The first-fault record (R177). -/
structure FirstFault where
  kind : FaultKind
  severity : Severity
  time : Nat
  context : Context
  deriving DecidableEq, Repr, Inhabited

/-- The fault log (chapter 10). -/
structure FaultLog where
  kinds : List KindState
  first : Option FirstFault
  deriving DecidableEq, Repr, Inhabited

/-- What a DIE_STATE notice says of one station (R127). -/
structure StationView where
  state : StationState
  reason : Option RejectReason
  asked : Bool
  copy : Option DieRecord
  wearAtRead : Option Nat
  deriving DecidableEq, Repr, Inhabited

/-- What a SAMPLE_ROUND notice says of one zone (R97). -/
structure ZoneView where
  result : ZoneResult
  valid : Bool
  profile : Nat
  trim : Nat
  deriving DecidableEq, Repr, Inhabited

/-- A notice on the notice queue (R190), with the items its rule lists. -/
inductive Notice where
  /-- ROD_OUT (R5). -/
  | rodOut (rod : Rod)
  /-- FAULT (R178). -/
  | fault (kind : FaultKind) (severity : Severity) (time : Nat) (context : Context) (count : Nat) (filled : Bool)
      (line : LineState) (cause : StopCause)
  /-- DIE_STATE (R127). -/
  | dieState (a b : StationView) (active position : Option Side) (carriage : CarriageState) (press : PressState)
      (event : DieEvent)
  /-- ZONE_MONITOR (R106). -/
  | zoneMonitor (zone : Nat) (monitor : Monitor) (transition : Transition) (reading setpoint band time : Nat)
  /-- LINE_STATE (R63). -/
  | lineState (event : LineEvent) (line : LineState) (cause : StopCause) (pacer : PacerState) (move : Nat)
      (established : Bool) (inventory : Nat)
  /-- SAMPLE_ROUND (R97). -/
  | sampleRound (trigger : Trigger) (start stop : Nat) (zones : List ZoneView)
  deriving DecidableEq, Repr, Inhabited

/-- A reply (R189). `holds` says that its request still holds a place in the request queue (R188). -/
structure Reply where
  kind : Byte
  tag : Byte
  status : Status
  detail : Half
  data : List Byte
  holds : Bool
  deriving DecidableEq, Repr, Inhabited

/-- How far a request held in the queue has come (R188): waiting to be served, being served (a STORE), or replied. -/
inductive Stage where
  | waiting | serving | answered
  deriving DecidableEq, Repr, Inhabited

/-- A request held in the request queue (R188). -/
structure Held where
  frame : Frame
  stage : Stage
  deriving DecidableEq, Repr, Inhabited

/-- What the transmitter sends: a reply, or a notice with its sequence number and the dropped-since count (R190). -/
inductive TxItem where
  | reply (r : Reply)
  | notice (n : Notice) (sequence dropped : Nat)
  deriving DecidableEq, Repr, Inhabited

/-- The frame being sent, and the millisecond at which its sending began. -/
structure Transmission where
  item : TxItem
  start : Nat
  deriving DecidableEq, Repr, Inhabited

/-- The settings store's write in flight (R195): what it writes, and its 3 s. -/
structure StoreWrite where
  tables : Tables
  timer : Timer
  deriving DecidableEq, Repr, Inhabited

/-- The copy in the settings store and its check (R194). -/
structure StoredCopy where
  tables : Tables
  check : Half
  deriving DecidableEq, Repr, Inhabited

/-- The link port (chapter 11). -/
structure Link where
  /-- The bytes of the partial frame from its length byte on while COLLECTING; none while HUNTING (R187). -/
  collecting : Option (List Byte)
  /-- The millisecond of the last byte taken. -/
  lastByte : Nat
  queue : List Held
  replies : List Reply
  /-- The QUEUE_FULL answer that waits unsent (R188). -/
  queueFull : Option Reply
  notices : List Notice
  droppedSince : Nat
  sequence : Nat
  tx : Option Transmission
  storeWrite : Option StoreWrite
  deriving DecidableEq, Repr, Inhabited

/-- A message one block has handed another that the other has not yet taken. -/
inductive Mail where
  /-- A raise, for the fault log (R173). -/
  | raise (kind : FaultKind) (context : Context)
  /-- A stop order, for the pacing unit (R65). -/
  | stop (cause : StopCause)
  /-- A press stop order, for the die carriage unit (R131). -/
  | pressStop
  /-- A report that may retry a deferred attempt, for the pacing unit (R75). -/
  | retry (report : PaceReport)
  /-- A shift reported done, for the pacing, zone and gauge units (R79). -/
  | shiftDone (late : Bool)
  /-- Tallies, for the zone unit (R40, R94). -/
  | tallies (pairs : List (Nat × Nat))
  /-- A setpoint recomputation, for the zone unit (R53). -/
  | recompute (profile : Nat)
  /-- A reset of a correction factor, for the gauge unit (R53). -/
  | reset (profile : Nat)
  deriving DecidableEq, Repr, Inhabited

/-- A message sent on the station bus. -/
inductive BusMessage where
  | advance (number : Nat)
  | zoneRead (zone number : Nat)
  | zoneSet (zone number temp hum : Nat)
  | load (number : Nat)
  | measure (number rod : Nat)
  | stripStart (number rod : Nat) (gate : Gate)
  | memoryRead (side : Side) (number : Nat)
  | memoryWrite (side : Side) (number wear check : Nat)
  | carriageQuery
  | carriageMove (target : Side)
  | pressStart
  | pressStop
  deriving DecidableEq, Repr, Inhabited

/-- The part without its queue of waiting commands. -/
structure Device where
  /-- Milliseconds since power-up. The line clock is its seconds, in 32 bits (R196). -/
  time : Nat
  /-- The tables in use (R191). -/
  tables : Tables
  /-- The settings store's copy; none when its check cannot match (never written, cut off, lost: R194, R195). -/
  stored : Option StoredCopy
  track : Track
  pace : Pace
  climate : Climate
  die : DieUnit
  spread : Spreader
  acc : Accumulator
  gauge : Gauge
  log : FaultLog
  link : Link
  /-- The 25 counts of the COUNTERS table, in index order (R192). -/
  counts : List Nat
  /-- Messages handed and not yet taken, the oldest first. -/
  mail : List Mail
  /-- Every message sent on the station bus since power-up, the oldest first (the model's own record). -/
  bus : List BusMessage
  deriving DecidableEq, Repr, Inhabited

/-- The machine: the part, and the commands that wait, first in, first out. -/
structure State where
  dev : Device
  pending : List Instr
  deriving DecidableEq, Repr, Inhabited

/-- A zone's runtime state at power-up (R91), with profile 0's default setpoints (R47, R93). -/
def ZoneRt.reset : ZoneRt where
  profile := 0
  trim := 0
  effTemp := 700
  effHum := 750
  reading := none
  valid := false
  identity := none
  hold := false
  settling := true
  misses := 0
  output := .ok
  tempOut := false
  humOut := false
  settleFrom := some 0
  tallies := (0, 0)

/-- A die station at power-up with its presence input off and its clamp open (R116). -/
def Station.reset : Station where
  presence := false
  clamp := false
  state := .empty
  reason := none
  debounce := none
  copy := none
  wearAtRead := none
  wearReported := false
  asked := false
  exchange := 0
  inFlight := none

/-- The part right after power-up with a settings store that was never written (R194, R196): every item at its power-up
value, and what R196 sets going. The LINE_STATE notice of R196 has gone to the free transmitter; CONFIG_DEFAULTED is
raised and not yet taken by the log; the press drive was sent STOP, the carriage queried, and zone 0 of the POWER_UP round
read. -/
def Device.reset : Device where
  time := 0
  tables := defaultTables
  stored := none
  track :=
    { positions := List.replicate 480 .unknown, lastId := 0, established := false, inventory := 0, spill := 0,
      updateInstant := 0, standstillFrom := 0 }
  pace :=
    { line := .stopped, cause := .none, pacer := .idle, reason := none, due := false, moveNumber := 0, kind := .paced,
      timer := none, inFlight := none, lateWindow := none,
      force := { mode := .fixed, period := 600, pulses := 40, polarity := .rising },
      pitch := { base := 0, since := none }, pulses := 0, lastEdge := none }
  climate :=
    { zones := List.replicate 12 ZoneRt.reset,
      round := some ⟨.powerUp, 0, 0, .read, 1, ⟨0, 250⟩, []⟩,
      exchange := 1, periodicFrom := 0 }
  die :=
    { stationA := Station.reset, stationB := Station.reset, active := none, identity := none, position := none,
      carriage := .querying, target := none, carriageTimer := some { start := 0, limit := 2000 }, press := .stopped,
      pressTimer := some { start := 0, limit := 10000 } }
  spread := { slot := .none, loadNumber := 0, load := none, hold := false, batch := 0, purge := 0 }
  acc :=
    { lanes := [⟨false, [], 0, 4⟩, ⟨false, [], 0, 2⟩, ⟨false, [], 0, 1⟩, ⟨false, [], 0, 1⟩], pointer := 0,
      stripper := .idle, slot := none, number := 0, paused := false, timer := none, returnDeclared := false,
      returnCount := 0 }
  gauge := { number := 0, inFlight := none, factors := List.replicate 8 256 }
  log := { kinds := List.replicate 23 ⟨false, 0⟩, first := none }
  link :=
    { collecting := none, lastByte := 0, queue := [], replies := [], queueFull := none, notices := [],
      droppedSince := 0, sequence := 1,
      tx := some { item := .notice (.lineState .powerUp .stopped .none .idle 0 false 0) 0 0, start := 0 },
      storeWrite := none }
  counts := List.replicate 25 0
  mail := [.raise .configDefaulted {}]
  bus := [.pressStop, .carriageQuery, .zoneRead 0 1]

/-- The machine right after reset, with no command waiting. -/
def State.reset : State where
  dev := Device.reset
  pending := []

end Sys2Proof.Machine
end

