-- ==== Sys2Proof/Machine/Ops.lean ====
section
/-! DEFINITION. The operations that every block shares: the clock and limits, the counts, handing a message to another
block, placing a notice, sending on the station bus, and serving a request. -/

namespace Sys2Proof.Machine

/-- 2³², the size of a 32-bit count. -/
def size32 : Nat := 4294967296

/-- Whole seconds since power-up. -/
def Device.sec (d : Device) : Nat := d.time / 1000

/-- The line clock: seconds since power-up, a 32-bit count (R196, log entry 6). -/
def Device.clock (d : Device) : Nat := d.sec % size32

/-- The moment at which a limit is reached. -/
def Timer.deadline (t : Timer) : Nat := t.start + t.limit

/-- A limit has not passed: an answer is taken within it up to the moment at which it is reached (log entry 34). -/
def Device.within (d : Device) (t : Timer) : Bool := decide (d.time ≤ t.deadline)

/-- A limit of `ms` milliseconds that starts now. -/
def Device.timer (d : Device) (ms : Nat) : Timer := ⟨d.time, ms⟩

/-- The whole seconds left of a limit; how a second begun is counted is open (`Config.roundsUp`). -/
def Device.secondsLeft (d : Device) (t : Timer) : Nat :=
  let ms := t.deadline - d.time
  ms / 1000 + (if ms % 1000 ≠ 0 ∧ Config.roundsUp ms then 1 else 0)

/-- What a stopwatch shows now, in milliseconds. -/
def Device.watch (d : Device) (w : Stopwatch) : Nat :=
  match w.since with
  | none => w.base
  | some t => w.base + (d.time - t)

/-- The moment at which a limit is reached, taken as an event: if the limit counts, the time up to it passes and `act`
follows; a limit that does not count has no expiry (log entry 4). -/
def expire (deadline : Option Nat) (act : Device → Device) (d : Device) : Device :=
  match deadline with
  | none => d
  | some t => act { d with time := max d.time t }

/-- The counts of the COUNTERS table in the order of their indices (R192). -/
inductive Count where
  | framesGood | framesBad | framesTimedOut | noticesDropped | advancesPaced | jogs | pitchOverruns | deferrals
  | loadsDone | loadFails | lateLoads | gapsEntered | exited0 | exited1 | exited2 | exited3 | stripsDone | stripFaults
  | lateDones | sampleRounds | sampleOverruns | readMisses | gauged | gaugeSkipped | gaugeLate
  deriving DecidableEq, Repr, Inhabited

/-- The index of a count (R192). -/
def Count.index (c : Count) : Nat := c.ctorIdx

/-- The count of rods exited into a lane (R192). -/
def exitedCount (lane : Nat) : Count :=
  match lane with
  | 0 => .exited0
  | 1 => .exited1
  | 2 => .exited2
  | _ => .exited3

/-- Adds one to a 32-bit count that wraps (R192). -/
def Device.bump (c : Count) (d : Device) : Device :=
  { d with counts := d.counts.modify c.index fun n => (n + 1) % size32 }

/-- Hands a message to another block. -/
def Device.post (m : Mail) (d : Device) : Device := { d with mail := d.mail ++ [m] }

/-- Raises a fault kind: the raise reaches the fault log as an event of the log's own (R173). -/
def Device.raise (k : FaultKind) (c : Context) (d : Device) : Device := d.post (.raise k c)

/-- Takes a handed message out of the mail. -/
def Device.take (m : Mail) (d : Device) : Device := { d with mail := d.mail.erase m }

/-- Sends a message on the station bus. -/
def Device.send (m : BusMessage) (d : Device) : Device := { d with bus := d.bus ++ [m] }

/-- The notice queue's size (R190). -/
def maxNotices : Nat := 32

/-- Places a notice on the notice queue, or drops and counts it (R190). -/
def Device.notify (n : Notice) (d : Device) : Device :=
  if d.link.notices.length < maxNotices then
    { d with link := { d.link with notices := d.link.notices ++ [n] } }
  else
    { d.bump .noticesDropped with link := { d.link with droppedSince := min 65535 (d.link.droppedSince + 1) } }

/-- Places a LINE_STATE notice with the items of R63 as they stand. -/
def Device.notifyLine (e : LineEvent) (d : Device) : Device :=
  d.notify (.lineState e d.pace.line d.pace.cause d.pace.pacer d.pace.moveNumber d.track.established
    (if d.track.established then d.track.inventory else 0))

/-- The transmitter, when free, takes the reply at the head of the reply line, or the oldest notice if no reply waits
(R190). -/
def Device.pump (d : Device) : Device :=
  match d.link.tx with
  | some _ => d
  | none =>
    match d.link.queueFull with
    | some r => { d with link := { d.link with tx := some ⟨.reply r, d.time⟩, queueFull := none } }
    | none =>
      match d.link.replies with
      | r :: rs => { d with link := { d.link with tx := some ⟨.reply r, d.time⟩, replies := rs } }
      | [] =>
        match d.link.notices with
        | [] => d
        | n :: ns =>
          { d with link := { d.link with
              tx := some ⟨.notice n d.link.sequence d.link.droppedSince, d.time⟩
              notices := ns
              droppedSince := 0
              sequence := (d.link.sequence + 1) % 256 } }

/-- One command's effect on the part, at whose end a free transmitter begins its next frame; the queue of waiting
commands is left as it is. -/
def run (act : Device → Device) (s : State) : Host.Outcome State Fault Refusal :=
  .next { s with dev := (act s.dev).pump }

/-- An owner's answer to a request: the status, the detail and the data of its reply (R189). -/
structure Answer where
  status : Status
  detail : Half
  data : List Byte
  deriving DecidableEq, Repr, Inhabited

/-- A detail of two bytes. -/
def detailOf (first second : Nat) : Half := halfOf (BitVec.ofNat 8 first) (BitVec.ofNat 8 second)

/-- ACCEPTED without data. -/
def accepted : Answer := ⟨.accepted, 0, []⟩

/-- ACCEPTED with data. -/
def acceptedWith (data : List Byte) : Answer := ⟨.accepted, 0, data⟩

/-- ACCEPTED_CLAMPED with the number of values clamped (R189). -/
def acceptedClamped (n : Nat) : Answer := ⟨.acceptedClamped, BitVec.ofNat 16 n, []⟩

/-- WRONG_STATE with a reason, and in the second byte the kind number or the case (R199). -/
def wrongState (r : Reason) (second : Nat := 0) : Answer := ⟨.wrongState, detailOf r.ctorIdx second, []⟩

/-- INDEX_RANGE. -/
def indexRange : Answer := ⟨.indexRange, 0, []⟩

/-- FIELD_RANGE naming an entry and a field (R189). -/
def fieldRange (entry fld : Nat) : Answer := ⟨.fieldRange, detailOf entry fld, []⟩

/-- FIELD_RANGE of a request that writes no table: its detail is open (`Config.plainRangeDetail`). -/
def plainFieldRange (kind : Byte) : Answer := ⟨.fieldRange, Config.plainRangeDetail kind, []⟩

/-- TABLE_CONFLICT naming an entry and a field (R189). -/
def tableConflict (entry fld : Nat) : Answer := ⟨.tableConflict, detailOf entry fld, []⟩

/-- LENGTH_ERROR. -/
def lengthError : Answer := ⟨.lengthError, 0, []⟩

/-- The request queue's size (R188). -/
def maxRequests : Nat := 4

/-- Whether a mail is one of the two orders that an accepted profile write hands its neighbours. The write's reply is sent
after both have been handed, and a request queued behind it meets them done (R53). -/
def Mail.isProfileOrder (m : Mail) : Bool :=
  match m with
  | .recompute _ | .reset _ => true
  | .raise _ _ | .stop _ | .pressStop | .retry _ | .shiftDone _ | .tallies _ => false

/-- The oldest request not yet replied, if the link port may serve it now: nothing is being served (R188), and no order of
a profile write is on its way (R53). -/
def Device.nextRequest (d : Device) : Option Frame :=
  if d.mail.any Mail.isProfileOrder then none
  else
    match d.link.queue.find? fun h => decide (h.stage ≠ .answered) with
    | some h => if h.stage = .waiting then some h.frame else none
    | none => none

/-- The queue with the oldest request not yet replied at a new stage. -/
def setStage (stage : Stage) : List Held → List Held
  | [] => []
  | h :: hs => if h.stage = .answered then h :: setStage stage hs else { h with stage := stage } :: hs

/-- The link port builds the reply of the request being served, and the reply joins the reply line (R189). -/
def Device.reply (f : Frame) (a : Answer) (d : Device) : Device :=
  { d with link := { d.link with
      queue := setStage .answered d.link.queue
      replies := d.link.replies ++ [⟨f.kind, f.tag, a.status, a.detail, a.data, true⟩] } }

/-- A good frame goes to the request queue (R188): it joins the tail, or is answered QUEUE_FULL, or is discarded while a
QUEUE_FULL answer still waits. -/
def Device.receive (f : Frame) (d : Device) : Device :=
  let d := d.bump .framesGood
  if d.link.queue.length < maxRequests then
    { d with link := { d.link with queue := d.link.queue ++ [⟨f, .waiting⟩] } }
  else if d.link.queueFull.isNone then
    { d with link := { d.link with queueFull := some ⟨f.kind, f.tag, .queueFull, 0, [], false⟩ } }
  else d

/-- Serves the request of frame `f`: its owner acts and answers, and the reply is built at once; an owner that gives no
answer yet (STORE) leaves the request being served. -/
def Device.serve (f : Frame) (own : Device → Device × Option Answer) (d : Device) : Device :=
  let r := own d
  match r.2 with
  | some a => r.1.reply f a
  | none => { r.1 with link := { r.1.link with queue := setStage .serving r.1.link.queue } }

/-- A request command. If its frame is the one the link port may serve now, it is served; otherwise the command is the
arrival of that frame, whole and checked, and it is served in the same step if its turn has then come (log entry 3). -/
def Device.request (f : Frame) (own : Device → Device × Option Answer) (d : Device) : Device :=
  let d := if d.nextRequest = some f then d else d.receive f
  if d.nextRequest = some f then d.serve f own else d

/-- The frame of a request command. -/
def frameOf (i : Instr) : Frame := i.frame?.getD ⟨0, 0, []⟩

/-- A request command whose owner answers at once. A command whose operands do not have their layout's length is answered
LENGTH_ERROR and does not reach the owner (R189). -/
def Device.ask (i : Instr) (own : Device → Device × Answer) (d : Device) : Device :=
  d.request (frameOf i) fun d =>
    if (frameOf i).request?.isSome then
      let r := own d
      (r.1, some r.2)
    else (d, some lengthError)

/-- The station a request's byte names, 0 for A and 1 for B (section 11.6). -/
def sideOf (b : Byte) : Option Side :=
  if b = 0 then some .a else if b = 1 then some .b else none

/-- Lines of a table read (R191): the entries from the start index that fit in a reply body of 250 bytes, which begins
with the reply's 4 bytes, the number of entries carried and `extra` bytes. -/
def fitEntries (room : Nat) : List (List Byte) → List (List Byte)
  | [] => []
  | e :: es => if e.length ≤ room then e :: fitEntries (room - e.length) es else []

/-- The data of a table read's reply (R191, R199): the number of entries carried, the bytes that stand before the entries,
and the entries. That the number comes first also where such bytes stand (the Z of ZONE_LAYOUT, the lane's items of
LANE_CONTENT) is the model's choice (log entry 17). -/
def readData (before : List Byte) (entries : List (List Byte)) : List Byte :=
  let carried := fitEntries (maxBody - 5 - before.length) entries
  u8 carried.length ++ before ++ carried.flatten

/-- The entries a read names, from the start index on. -/
def named {α : Type} (xs : List α) (start count : Nat) : List α := (xs.drop start).take count

/-- A read of a table with a fixed number of entries: INDEX_RANGE unless the count is at least 1 and the entries named
exist; otherwise the entries named as they stand. -/
def readTable {α : Type} (before : List Byte) (bytes : α → List Byte) (xs : List α) (start count : Nat) : Answer :=
  if 1 ≤ count ∧ start + count ≤ xs.length then acceptedWith (readData before ((named xs start count).map bytes))
  else indexRange

/-- A list with `new` in place of the entries from `start` on. -/
def replaceAt {α : Type} (xs : List α) (start : Nat) (new : List α) : List α :=
  xs.take start ++ new ++ xs.drop (start + new.length)

end Sys2Proof.Machine
end

