-- ==== Sys2Proof/Machine/Layout.lean ====
section
/-! DEFINITION. The byte layouts of rod reports, notices, read-only tables and frames sent (R199, section 11.6). -/

namespace Sys2Proof.Machine

/-- A line-clock time or another 4-byte count. -/
def timeBytes (t : Nat) : List Byte := u32 t

/-- A record's flags byte (section 11.6). -/
def Flags.code (f : Flags) : Nat :=
  (if f.purge then 1 else 0) + (if f.stressed then 2 else 0) + (if f.underdry then 4 else 0)
    + (if f.estimated then 8 else 0) + (if f.hostmark then 16 else 0) + (if f.gauged then 32 else 0)

/-- The code of an exit part's lane: 0 to 3, 4 RETURN, 5 SPILL, 6 NONE (section 11.6). -/
def ExitLane.code (l : ExitLane) : Nat :=
  match l with
  | .lane n => n
  | .returned => 4
  | .spill => 5
  | .none => 6

/-- The TRACKED fields of a rod report. -/
def Product.bytes (p : Product) : List Byte :=
  u16 p.batch ++ u8 p.format ++ u8 p.profile ++ u8 p.side.ctorIdx ++ u32 p.dieId ++ u16 p.holes ++ u16 p.moisture
    ++ u16 p.stress ++ listItem u32 p.dwell

/-- The gauge part of a rod report. -/
def GaugePart.bytes (g : GaugePart) : List Byte := u16 g.measured ++ i16 g.deviation ++ timeBytes g.time

/-- The exit part of a rod report. -/
def ExitPart.bytes (e : ExitPart) : List Byte := timeBytes e.time ++ u8 e.disposition.ctorIdx ++ u8 e.lane.code

/-- The close part of a rod report. -/
def ClosePart.bytes (c : ClosePart) : List Byte := u8 c.outcome.ctorIdx ++ timeBytes c.time

/-- The bytes of a part that may be absent. -/
def partBytes {α : Type} (item : α → List Byte) (x : Option α) : List Byte := (x.map item).getD []

/-- The parts byte of a rod report. -/
def Rod.parts (r : Rod) : Nat :=
  (if r.product.isSome then 1 else 0) + (if r.gauge.isSome then 2 else 0) + (if r.exit.isSome then 4 else 0)
    + (if r.close.isSome then 8 else 0)

/-- A rod report (section 11.6). -/
def Rod.bytes (r : Rod) : List Byte :=
  u16 r.id ++ u8 r.parts ++ u8 r.flags.code ++ timeBytes r.born ++ partBytes Product.bytes r.product
    ++ partBytes GaugePart.bytes r.gauge ++ partBytes ExitPart.bytes r.exit ++ partBytes ClosePart.bytes r.close

/-- A POSITION entry (section 11.6). -/
def Content.bytes (c : Content) : List Byte :=
  match c with
  | .loaded r => u8 0 ++ r.bytes
  | .empty => u8 1
  | .gap => u8 2
  | .unknown => u8 3

/-- A context: the byte of presence bits and the items present (R199). -/
def contextBytes (c : Context) : List Byte :=
  u8 ((if c.zone.isSome then 1 else 0) + (if c.station.isSome then 2 else 0) + (if c.lane.isSome then 4 else 0)
      + (if c.rod.isSome then 8 else 0) + (if c.move.isSome then 16 else 0) + (if c.strip.isSome then 32 else 0)
      + (if c.measurement.isSome then 64 else 0))
    ++ partBytes u8 c.zone ++ partBytes (fun s : Side => u8 s.ctorIdx) c.station ++ partBytes u8 c.lane
    ++ partBytes u16 c.rod ++ partBytes u8 c.move ++ partBytes u8 c.strip ++ partBytes u8 c.measurement

/-- A station that may be none: A, B or NONE, or A, B or UNKNOWN, coded 0, 1, 2 (R199). -/
def sideCode (s : Option Side) : Nat :=
  match s with
  | some .a => 0
  | some .b => 1
  | none => 2

/-- The two stations' items of a DIE_STATE notice, item by item in R127's order. -/
def stationViewBytes (a b : StationView) : List Byte :=
  let item (f : StationView → List Byte) := f a ++ f b
  let record (f : DieRecord → List Byte) := item fun v => optItem f v.copy
  item (fun v => u8 v.state.ctorIdx) ++ item (fun v => optItem (fun r : RejectReason => u8 r.ctorIdx) v.reason)
    ++ item (fun v => flag v.asked) ++ record (fun c => u32 c.id) ++ record (fun c => u8 c.format)
    ++ record (fun c => u16 c.holes) ++ record (fun c => u32 c.wear) ++ item (fun v => optItem u32 v.wearAtRead)

/-- A zone's items in a SAMPLE_ROUND notice (R97). -/
def ZoneView.bytes (z : ZoneView) : List Byte :=
  u8 z.result.outcome.ctorIdx ++ optItem (fun ok : Bool => u8 (if ok then 0 else 1)) z.result.set
    ++ u8 (if z.valid then 0 else 1) ++ u8 z.profile ++ u8 z.trim

/-- The kind of a notice's frame (section 11.6). -/
def Notice.kind (n : Notice) : Byte :=
  match n with
  | .rodOut _ => 0x81
  | .fault _ _ _ _ _ _ _ _ => 0x82
  | .dieState _ _ _ _ _ _ _ => 0x83
  | .zoneMonitor _ _ _ _ _ _ _ => 0x84
  | .lineState _ _ _ _ _ _ _ => 0x85
  | .sampleRound _ _ _ _ => 0x86

/-- A notice's body after the dropped-since count (section 11.6): the items in the order its rule lists them. -/
def Notice.bytes (n : Notice) : List Byte :=
  match n with
  | .rodOut r => r.bytes
  | .fault kind severity time context count filled line cause =>
    u8 (kindNumber kind) ++ u8 severity.ctorIdx ++ timeBytes time ++ contextBytes context ++ u8 count ++ flag filled
      ++ u8 line.ctorIdx ++ u8 cause.ctorIdx
  | .dieState a b active position carriage press event =>
    stationViewBytes a b ++ u8 (sideCode active) ++ u8 (sideCode position) ++ u8 carriage.ctorIdx ++ u8 press.ctorIdx
      ++ u8 event.ctorIdx
  | .zoneMonitor zone monitor transition reading setpoint band time =>
    u8 zone ++ u8 monitor.ctorIdx ++ u8 transition.ctorIdx ++ u16 reading ++ u16 setpoint
      ++ (match monitor with
          | .temperature => u8 band
          | .humidity => u16 band)
      ++ timeBytes time
  | .lineState event line cause pacer move established inventory =>
    u8 event.ctorIdx ++ u8 line.ctorIdx ++ u8 cause.ctorIdx ++ u8 pacer.ctorIdx ++ u8 move ++ flag established
      ++ u32 inventory
  | .sampleRound trigger start stop zones =>
    u8 trigger.ctorIdx ++ timeBytes start ++ timeBytes stop ++ listItem ZoneView.bytes zones

/-- A reply's body (section 11.6). -/
def Reply.body (r : Reply) : List Byte := [r.kind, BitVec.ofNat 8 r.status.ctorIdx] ++ r.detail.bytes ++ r.data

/-- The items of a message sent on the station bus, coded as R199 codes items: a number takes its width, a station or a gate
one byte, and each follows in the order in which its rule lists them (R76, R97, R118, R122, R128, R131, R139, R159, R167).
The equipment that a message goes to is no item of it (log entry 27). -/
def BusMessage.items (m : BusMessage) : List Byte :=
  match m with
  | .advance number => u8 number
  | .zoneRead _ number => u8 number
  | .zoneSet _ number temp hum => u8 number ++ u16 temp ++ u16 hum
  | .load number => u8 number
  | .measure number rod => u8 number ++ u16 rod
  | .stripStart number rod gate => u8 number ++ u16 rod ++ u8 gate.ctorIdx
  | .memoryRead _ number => u8 number
  | .memoryWrite _ number wear check => u8 number ++ u32 wear ++ u16 check
  | .carriageQuery => []
  | .carriageMove target => u8 target.ctorIdx
  | .pressStart => []
  | .pressStop => []

/-- The exit observation of a move-done message: the flag that a rod passed the exit sensors, and the flag that it carried
strands (section 4.6). -/
def sightingItems (x : Sighting) : List Byte :=
  match x with
  | .noRod => flag false ++ flag false
  | .bare => flag true ++ flag false
  | .strands => flag true ++ flag true

/-- The items of a zone module's READ reply after its exchange number (R97). -/
def moduleItems (r : ModuleReply) : List Byte :=
  r.temp.bytes ++ r.hum.bytes ++ u32 r.moduleId.toNat ++ u8 r.output.ctorIdx ++ r.heldTemp.bytes ++ r.heldHum.bytes

/-- The items of a message that the field equipment sends on the station bus, coded as R199 codes items, in the order in
which its rule lists them (R78, R97, R103, R118, R122, R128, R130, R131, R139, R159, R167). The equipment it comes from,
and whether it is an answer or an error, is no item of it; a carriage message that names neither station is coded 2 here,
as UNKNOWN is (log entry 27). The bytes that answer MEMORY_READ come before the number they carry, as R118 names them (log
entry 27). A command that is no such message has none. -/
def busItems? (i : Instr) : Option (List Byte) :=
  match i with
  | .moveDone number seen => some (number :: sightingItems seen)
  | .loadDone number | .loadFailed number => some [number]
  | .memoryReadReply _ number bytes => some (bytes.getD [] ++ [number])
  | .memoryWriteReply _ number _ => some [number]
  | .carriageQueryAnswer station | .carriageDone station => some (u8 (sideCode station))
  | .pressStarted | .pressHalted | .pressFaultReport => some []
  | .readReply number reply => some (number :: moduleItems reply)
  | .setReply number _ => some [number]
  | .gaugeResult number rod value => some (number :: (rod.bytes ++ value.bytes))
  | .gaugeFailReport number => some [number]
  | .stripDone number | .stripFaultReport number => some [number]
  | .powerUp _ _ _ _ _ | .hostFrame _ | .frameGapTimeout | .frameSent | .unknownRequest _ _ _
  | .tableWriteNotWritten _ _ _ _ _ _ | .tableWriteTunnel _ _ _ _ | .tableReadTunnel _ _ _
  | .tableWriteProfile _ _ _ _ | .tableReadProfile _ _ _ | .tableWriteFormatMap _ _ _ _ | .tableReadFormatMap _ _ _
  | .tableWriteZoneLayout _ _ _ _ | .tableReadZoneLayout _ _ _ | .tableWriteLanes _ _ _ _ | .tableReadLanes _ _ _
  | .tableWriteDisposition _ _ _ _ | .tableReadDisposition _ _ _ | .tableWritePacing _ _ _ _
  | .tableReadPacing _ _ _ | .tableWriteSampling _ _ _ _ | .tableReadSampling _ _ _
  | .tableWriteFaultSettings _ _ _ _ | .tableReadFaultSettings _ _ _ | .tableWriteDieSettings _ _ _ _
  | .tableReadDieSettings _ _ _ | .tableWriteGaugeSettings _ _ _ _ | .tableReadGaugeSettings _ _ _
  | .tableWriteSpreaderSettings _ _ _ _ | .tableReadSpreaderSettings _ _ _ | .tableWriteAccumulatorSettings _ _ _ _
  | .tableReadAccumulatorSettings _ _ _ | .tableReadPosition _ _ _ | .tableReadLaneContent _ _ _ _
  | .tableReadZoneState _ _ _ | .tableReadDieStation _ _ _ | .tableReadProfileState _ _ _
  | .tableReadCounters _ _ _ | .lineRun _ | .lineStop _ | .stopOrder _ | .jog _ | .paceRestart _
  | .moveResolveMoved _ | .moveResolveNotMoved _ _ | .pitchTimerExpiry | .pressScrewPulse _ _ | .attemptRetry _
  | .moveLimitExpiry | .shiftDoneReport _ | .standstillExpiry | .talliesHanded _ | .rodFind _ _ | .rodMark _ _
  | .trackForget _ | .loadLimitExpiry | .batchNew _ | .presenceEvent _ _ | .debounceExpiry _ | .clampEvent _ _
  | .buttonEvent _ | .memoryExchangeExpiry _ | .dieRelease _ _ | .dieKeep _ _ | .dieReread _ _ | .dieSwap _ _
  | .carriageQueryExpiry | .carriageMoveExpiry | .pressStart _ | .pressStop _ | .pressStopOrder | .pressAckExpiry
  | .periodicTimerExpiry | .sampleNow _ | .readLimitExpiry | .setLimitExpiry | .settleTimerRunOut _
  | .setpointRecomputeOrder _ | .zoneAccept _ _ | .gaugeLimitExpiry | .correctionResetOrder _ | .stripLimitExpiry
  | .stripRetry _ | .stripDiscard _ | .stripPause _ | .stripResume _ | .laneDeclare _ _ _ | .returnDeclare _ _
  | .rodAdd _ _ | .rodRemoveReturn _ _ | .rodRemoveSpill _ _ _ | .faultRaise _ _ | .faultRead _ | .faultClear _ _
  | .status _ | .store _ | .storeWriteEnd _ | .storeLimitExpiry | .restart _ => none

/-- The frame the transmitter sends (R189, R190). -/
def TxItem.frame (t : TxItem) : Frame :=
  match t with
  | .reply r => ⟨0x80, r.tag, r.body⟩
  | .notice n sequence dropped => ⟨n.kind, BitVec.ofNat 8 sequence, u16 dropped ++ n.bytes⟩

/-- How long a frame takes on the line, in milliseconds begun: 10 bits a byte at 230 400 baud (R187, log entry 5). -/
def TxItem.airtime (t : TxItem) : Nat := ((frameBytes t.frame).length * 10000 + 230399) / 230400

/-- When the frame being sent is finished. -/
def Transmission.done (t : Transmission) : Nat := t.start + t.item.airtime

/-- Whether a zone's settle timer is still counting (R107). -/
def Device.settleCounting (d : Device) (z : Nat) : Bool :=
  match (d.climate.zones.getD z default).settleFrom, d.tables.zones[z]? with
  | some t, some e => decide (d.sec < t + e.settle)
  | _, _ => false

/-- The seconds of settle left, or 0 if the timer has run out (R112). -/
def Device.settleLeft (d : Device) (z : Nat) : Nat :=
  match (d.climate.zones.getD z default).settleFrom, d.tables.zones[z]? with
  | some t, some e => t + e.settle - d.sec
  | _, _ => 0

/-- A ZONE_STATE entry (R112). -/
def zoneStateBytes (d : Device) (z : Nat) : List Byte :=
  let rt := d.climate.zones.getD z default
  u8 rt.profile ++ u8 rt.trim ++ u16 rt.effTemp ++ u16 rt.effHum
    ++ optItem (fun r : Reading => u16 r.temp ++ u16 r.hum ++ timeBytes r.time) rt.reading
    ++ u8 (if rt.valid then 0 else 1) ++ optItem u32 rt.identity ++ flag rt.hold ++ flag rt.settling ++ u8 rt.misses
    ++ u8 rt.output.ctorIdx ++ u8 (if rt.tempOut then 1 else 0) ++ u8 (if rt.humOut then 1 else 0)
    ++ u16 (d.settleLeft z) ++ u16 rt.tallies.1 ++ u16 rt.tallies.2

/-- The bytes of a die record that precede its check (R115). -/
def DieRecord.body (r : DieRecord) : List Byte :=
  u32 r.id ++ u8 r.format ++ u16 r.holes ++ u32 r.wear ++ u32 r.limit

/-- The check over a die record: the sum of the bytes before it, modulo 65536 (R115). -/
def DieRecord.sum (r : DieRecord) : Nat := (r.body.map BitVec.toNat).sum % 65536

/-- A working copy's items: the die record as read, its check among them, with the wear as counted since (R115, R116). The
check is computed again at write-back only (R115, R122, log entry 36). -/
def DieRecord.bytes (r : DieRecord) : List Byte := r.body ++ u16 r.check

/-- A DIE_STATION entry (R116): every item of the station but its timers and exchange number, and the shared items. Of an
exchange in flight it says whether it is a read or a write; its number is the exchange number, which R116 excepts. The
seconds of debounce left are one byte, and 0 while the timer is stopped (log entry 17). -/
def dieStationBytes (d : Device) (s : Station) : List Byte :=
  u8 s.state.ctorIdx ++ optItem (fun r : RejectReason => u8 r.ctorIdx) s.reason
    ++ optItem DieRecord.bytes s.copy ++ optItem u32 s.wearAtRead ++ flag s.wearReported
    ++ flag s.asked ++ optItem (fun e : DieExchange => u8 (if e.write.isSome then 1 else 0)) s.inFlight
    ++ u8 ((s.debounce.map d.secondsLeft).getD 0) ++ u8 (sideCode d.die.position) ++ u8 d.die.carriage.ctorIdx
    ++ u8 (sideCode d.die.active) ++ u8 d.die.press.ctorIdx

end Sys2Proof.Machine
end

