-- ==== Sys2Proof/Machine/Drying.lean ====
section
/-! DEFINITION. The drying model: the update (R26 to R40), the exit check (R41), and STANDSTILL_EXPIRY (R20). -/

namespace Sys2Proof.Machine

/-- The climate an update takes for a zone, and whether it stands in for a reading that is not valid (R29). -/
structure Air where
  temp : Nat
  hum : Nat
  estimated : Bool
  deriving DecidableEq, Repr, Inhabited

/-- The runtime state of a zone index. -/
def Device.zone (d : Device) (z : Nat) : ZoneRt := d.climate.zones.getD z default

/-- A profile of the table in use. -/
def Device.profile (d : Device) (p : Nat) : Profile := d.tables.profiles.getD p default

/-- The zone whose span contains a position (R28, R88). -/
def zoneOf (zones : List ZoneEntry) (position : Nat) : Nat := zones.findIdx fun z => decide (position ≤ z.last)

/-- The climate of a zone at an update (R29): its reading if valid, its effective setpoints if not, each capped. -/
def Device.air (d : Device) (z : Nat) : Air :=
  let rt := d.zone z
  match rt.valid, rt.reading with
  | true, some r => ⟨min 1200 r.temp, min 1000 r.hum, false⟩
  | _, _ => ⟨min 1200 rt.effTemp, min 1000 rt.effHum, true⟩

/-- The equilibrium moisture Me (R30): the one quotient that is truncated toward zero. -/
def equilibrium (eq : List Nat) (hum : Nat) : Nat :=
  let i := hum / 100
  let f := hum % 100
  if 10 ≤ i then eq.getD 10 0
  else ((eq.getD i 0 : Int) + (((eq.getD (i + 1) 0 : Int) - (eq.getD i 0 : Int)) * (f : Int)).tdiv 100).toNat

/-- The temperature factor F (R31). -/
def tempFactor (gain temp : Nat) : Nat :=
  (max 256 (min 4096 ((1024 : Int) + (gain : Int) * ((temp : Int) - 600)))).toNat

/-- The corrected rate K (R32). -/
def dryRate (kbase factor correction : Nat) : Nat := kbase * factor / 1024 * correction / 256

/-- The moisture loss ΔM (R33). A difference of 0 or below is 0 here, and so is its loss. -/
def moistureLoss (moisture equilibrium rate dt : Nat) : Nat :=
  let diff := moisture - equilibrium
  min diff (diff * rate * dt / 16777216)

/-- The excess E over the allowance A (R35). -/
def excess (ac dt loss : Nat) : Nat := loss - ac * dt / 60

/-- The stress after the excess is added (R36) and, in a RELAX zone, relaxed (R37). -/
def newStress (type : ZoneType) (relax weight dt stress excess : Nat) : Nat :=
  let added := min 65535 (stress + excess * weight)
  match type with
  | .relax => added - relax * dt / 60
  | .pre | .dry | .cool => added

/-- A dwell entry after an interval (R39). -/
def addDwell (dt dwell : Nat) : Nat := min (size32 - 1) (dwell + dt)

/-- The correction factor that an update uses for a profile (R32): the gauge unit's, or 256 while the reset that an accepted
write of the profile has ordered is on its way to the gauge unit (R43, R53, log entry 33). -/
def Device.correction (d : Device) (p : Nat) : Nat :=
  if Mail.reset p ∈ d.mail then 256 else d.gauge.factors.getD p 0

/-- One rod's stages (R28 to R39): its new product fields and its excess. -/
def dryProduct (d : Device) (dt z : Nat) (x : Product) : Product × Nat :=
  let p := d.profile x.profile
  let e := d.tables.zones.getD z default
  let a := d.air z
  let rate := dryRate (p.kbase.getD z 0) (tempFactor p.gain a.temp) (d.correction x.profile)
  let loss := moistureLoss x.moisture (equilibrium p.eq a.hum) rate dt
  let ex := excess p.ac dt loss
  ({ x with
      moisture := x.moisture - loss
      stress := newStress e.type e.relax p.weight dt x.stress ex
      dwell := x.dwell.modify z (addDwell dt) }, ex)

/-- One rod's update at a position: its record, and its excess (R28 to R39). A record gains ESTIMATED where the climate
stands in for a reading (R29), and STRESSED where its stress has reached its profile's limit (R38). -/
def dryRod (d : Device) (dt z : Nat) (r : Rod) : Rod × Nat :=
  match r.product with
  | none => (r, 0)
  | some x =>
    let y := dryProduct d dt z x
    ({ r with
        product := some y.1
        flags := { r.flags with
          estimated := r.flags.estimated || (d.air z).estimated
          stressed := r.flags.stressed || decide ((d.profile x.profile).limit ≤ y.1.stress) } }, y.2)

/-- What an update makes of one position: its content, the zone of a loaded rod, whether its excess is above 0, and the
rod that gains STRESSED. -/
structure DryOut where
  content : Content
  zone : Option Nat
  exceeds : Bool
  stressed : Option Nat
  deriving DecidableEq, Repr, Inhabited

/-- One position's update. -/
def dryPosition (d : Device) (dt : Nat) (p : Content × Nat) : DryOut :=
  match p.1 with
  | .loaded r =>
    let z := zoneOf d.tables.zones p.2
    let y := dryRod d dt z r
    ⟨.loaded y.1, some z, decide (0 < y.2), if y.1.flags.stressed ∧ r.flags.stressed = false then some r.id else none⟩
  | .empty => ⟨.empty, none, false, none⟩
  | .gap => ⟨.gap, none, false, none⟩
  | .unknown => ⟨.unknown, none, false, none⟩

/-- The update's interval Δt (R27): the line-clock time since the update instant, capped at 600. -/
def Device.interval (d : Device) : Nat :=
  min 600 ((d.clock + size32 - d.track.updateInstant) % size32)

/-- The per-zone tallies n, e (R40). -/
def talliesOf (zones : Nat) (outs : List DryOut) : List (Nat × Nat) :=
  (List.range zones).map fun z =>
    (outs.countP (fun o => decide (o.zone = some z)), outs.countP (fun o => decide (o.zone = some z) && o.exceeds))

/-- Raises ROD_STRESSED for each rod named, in order (R38). -/
def raiseStressed (ids : List Nat) (d : Device) : Device :=
  ids.foldl (fun d id => d.raise .rodStressed { rod := some id }) d

/-- The update (R26, R27): the standstill timer restarts; with Δt above 0 the update instant becomes now, every loaded
record is brought forward, and the tallies are handed to the zone unit. -/
def update (d : Device) : Device :=
  let dt := d.interval
  let outs := d.track.positions.zipIdx.map (dryPosition d dt)
  let restarted := { d with track := { d.track with standstillFrom := d.sec } }
  if dt = 0 then restarted
  else
    (raiseStressed (outs.filterMap DryOut.stressed)
      { restarted with track := { restarted.track with
          updateInstant := d.clock
          positions := outs.map DryOut.content } }).post (.tallies (talliesOf d.tables.zones.length outs))

/-- The content of position L−1. -/
def Device.exitContent (d : Device) : Content := d.track.positions.getLast?.getD .unknown

/-- Whether a record's moisture is above its profile's target plus tolerance (R41). -/
def Device.overMoist (d : Device) (r : Rod) : Bool :=
  match r.product with
  | none => false
  | some x => decide ((d.profile x.profile).target + (d.profile x.profile).tolerance < x.moisture)

/-- The exit check of the rod at position L−1 (R41). -/
def exitCheck (d : Device) : Device :=
  match d.exitContent with
  | .loaded r =>
    if d.overMoist r ∧ r.flags.underdry = false then
      { d with track := { d.track with
          positions := d.track.positions.dropLast ++ [Content.loaded { r with flags := { r.flags with underdry := true } }] } }.raise
        .rodUnderdry { rod := some r.id }
    else d
  | .empty | .gap | .unknown => d

/-- When the standstill timer reaches 600 s (R20). -/
def Device.standstillDeadline (d : Device) : Nat := (d.track.standstillFrom + 600) * 1000

/-- STANDSTILL_EXPIRY (R20): an update without a shift. -/
def execStandstillExpiry (s : State) : Host.Outcome State Fault Refusal :=
  run (fun d => expire (some d.standstillDeadline) update d) s

end Sys2Proof.Machine
end

