-- ==== Sys2Proof/Machine/Records.lean ====
section
/-! DEFINITION. Live rod records: their holders (R4), the rod-id allocator (R6), closing (R5), the inventory count and
spill (R17, R18). -/

namespace Sys2Proof.Machine

/-- The rod at a position, if it is LOADED. -/
def Content.rod? (c : Content) : Option Rod :=
  match c with
  | .loaded r => some r
  | .empty | .gap | .unknown => none

/-- The staged record, held in LOADED only (R135). -/
def Slot.rod? (s : Slot) : Option Rod :=
  match s with
  | .loaded r => some r
  | .none | .loading | .emptyStaged => Option.none

/-- Every live record, holder by holder: the staged slot, the positions, the lanes, the strip slot (R4). -/
def Device.liveRods (d : Device) : List Rod :=
  d.spread.slot.rod?.toList ++ d.track.positions.filterMap Content.rod? ++ (d.acc.lanes.map LaneRt.records).flatten
    ++ (d.acc.slot.map StripSlot.rod).toList

/-- The ids that live records hold. -/
def Device.liveIds (d : Device) : List Nat := d.liveRods.map Rod.id

/-- The value after a rod id, cyclically through 1 to 65535 (R6). -/
def nextId (id : Nat) : Nat := id % 65535 + 1

/-- The first value after `last` that is not among `live`; `n` values beside the last one are tried, which is enough for
`n` live records. -/
def firstFree (live : List Nat) : Nat → Nat → Nat
  | 0, last => nextId last
  | n + 1, last => if nextId last ∈ live then firstFree live n (nextId last) else nextId last

/-- The id the allocator would assign (R6). -/
def Device.freeId (d : Device) : Nat := firstFree d.liveIds d.liveIds.length d.track.lastId

/-- The allocator assigns an id and holds it as the last one assigned (R6). -/
def Device.assignId (d : Device) : Device := { d with track := { d.track with lastId := d.freeId } }

/-- Closes a record that has left its holder: the close part is added and a ROD_OUT notice carries it (R5). -/
def Device.closeRod (outcome : CloseOutcome) (r : Rod) (d : Device) : Device :=
  d.notify (.rodOut { r with close := some ⟨outcome, d.clock⟩ })

/-- Adds rods to the inventory count while it is established (R17). That the 32-bit count wraps is the model's choice (log
entry 37). -/
def Device.inventoryAdd (n : Nat) (d : Device) : Device :=
  if d.track.established then { d with track := { d.track with inventory := (d.track.inventory + n) % size32 } } else d

/-- Takes rods from the inventory count while it is established (R17): a 32-bit difference, which wraps (log entry 37). -/
def Device.inventorySub (n : Nat) (d : Device) : Device :=
  if d.track.established then
    { d with track := { d.track with inventory := (d.track.inventory + size32 - n % size32) % size32 } }
  else d

/-- One rod goes to spill (R18). That the 32-bit count wraps is the model's choice (log entry 37). -/
def Device.spillRod (d : Device) : Device :=
  { d with track := { d.track with spill := (d.track.spill + 1) % size32 } }

/-- A new UNTRACKED record under an id, born now (R15, R154). -/
def Device.untracked (d : Device) (id : Nat) (exit : Option ExitPart) : Rod :=
  ⟨id, d.clock, {}, none, none, exit, none⟩

/-- A position holds a rod (LOADED or EMPTY). -/
def Content.holdsRod (c : Content) : Bool :=
  match c with
  | .loaded _ | .empty => true
  | .gap | .unknown => false

/-- The sum of R16: the rods of every place the part accounts for. -/
def Device.rodSum (d : Device) : Nat :=
  d.track.positions.countP Content.holdsRod + (d.acc.lanes.map fun l => l.records.length).sum
    + (if d.acc.slot.isSome then 1 else 0) + (if d.spread.slot = .none then 0 else 1) + d.acc.returnCount + d.track.spill

/-- The three conditions of R16. -/
def Device.complete (d : Device) : Bool :=
  !(d.track.positions.any fun c => decide (c = .unknown)) && d.acc.lanes.all LaneRt.declared && d.acc.returnDeclared

/-- The test for establishment of the inventory (R16). The sum is held in 32 bits (log entry 37). -/
def Device.establish (d : Device) : Device :=
  if d.track.established = false ∧ d.complete then
    { d with track := { d.track with established := true, inventory := d.rodSum % size32 } }.notifyLine
      .inventoryEstablished
  else d

end Sys2Proof.Machine
end

