-- ==== Sys2Proof/Machine/Fill.lean ====
section
/-! DEFINITION. The spreader unit's fill decision (R137), the chain hold (R138) and the start of a load (R139). -/

namespace Sys2Proof.Machine

/-- The accumulator unit's grant of one empty rod lowers the return buffer count (R137, R163). -/
def Device.drawRod (d : Device) : Device := { d with acc := { d.acc with returnCount := d.acc.returnCount - 1 } }

/-- A load starts (R139). -/
def Device.startLoad (identity : Identity) (d : Device) : Device :=
  let n := (d.spread.loadNumber + 1) % 256
  { d with spread := { d.spread with
      slot := .loading
      loadNumber := n
      load := some ⟨n, d.timer (d.tables.spreader.loadLimit * 1000), identity⟩ } }.send (.load n)

/-- The decision of R137 for a slot of NONE with the chain hold clear. -/
def Device.decideFill (d : Device) : Device :=
  if d.die.press = .running ∧ d.die.active.isSome then
    match d.die.identity with
    | some identity => if 0 < d.acc.returnCount then d.drawRod.startLoad identity else d
    | none => d
  else if d.tables.spreader.emptyFill ∧ 0 < d.acc.returnCount then
    { d.drawRod with spread := { d.spread with slot := .emptyStaged } }
  else d

/-- A fill decision is made while the slot is NONE and the chain hold is clear (R137). -/
def Device.fill (d : Device) : Device :=
  if d.spread.slot = .none ∧ d.spread.hold = false then d.decideFill else d

/-- The chain hold is set (R138). -/
def Device.setHold (d : Device) : Device := { d with spread := { d.spread with hold := true } }

/-- The chain hold, if set, is cleared, and a fill decision follows (R137, R138). -/
def Device.clearHold (d : Device) : Device :=
  if d.spread.hold then { d with spread := { d.spread with hold := false } }.fill else d

end Sys2Proof.Machine
end

