-- ==== Sys2Proof/Machine/Lanes.lean ====
section
/-! DEFINITION. The accumulator unit's shared operations: room and reservations (R148, R152), dispositions (R150), the
arbiter (R156, R157), the strip's start (R159), and the return of an empty rod (R163). -/

namespace Sys2Proof.Machine

/-- A lane's runtime state. -/
def Device.lane (d : Device) (l : Nat) : LaneRt := d.acc.lanes.getD l default

/-- A lane's settings. -/
def Device.laneEntry (d : Device) (l : Nat) : LaneEntry := d.tables.lanes.getD l default

/-- The lanes with one lane changed. -/
def Device.modifyLane (l : Nat) (f : LaneRt → LaneRt) (d : Device) : Device :=
  { d with acc := { d.acc with lanes := d.acc.lanes.modify l f } }

/-- A lane's record count plus reservations. -/
def LaneRt.load (l : LaneRt) : Nat := l.records.length + l.reservations

/-- A lane has room when it is declared and its record count plus reservations is below its capacity (R148). -/
def Device.hasRoom (d : Device) (l : Nat) : Bool :=
  (d.lane l).declared && decide ((d.lane l).load < (d.laneEntry l).capacity)

/-- A record's disposition (R150). -/
def dispositionOf (r : Rod) : Disposition :=
  if r.flags.purge then .purge
  else if r.product.isNone then .untracked
  else if r.flags.hostmark then .hostmark
  else if r.flags.stressed then .stressed
  else if r.flags.underdry then .underdry
  else .normal

/-- The lane of a record's disposition (R150, R151). -/
def Device.laneFor (d : Device) (disp : Disposition) (r : Rod) : Nat :=
  match disp with
  | .normal =>
    match r.product with
    | some x => (d.profile x.profile).lane
    | none => 0
  | .purge | .untracked | .hostmark | .stressed | .underdry => d.tables.dispositions.getD disp.ctorIdx 0

/-- A reservation is granted (R152). -/
def LaneRt.reserve (l : LaneRt) : LaneRt := { l with reservations := l.reservations + 1 }

/-- A reservation is released (R152). -/
def LaneRt.release (l : LaneRt) : LaneRt := { l with reservations := l.reservations - 1 }

/-- A record joins the tail of a lane, consuming a reservation if it has one (R153). -/
def LaneRt.join (reserved : Bool) (r : Rod) (l : LaneRt) : LaneRt :=
  { l with records := l.records ++ [r], reservations := if reserved then l.reservations - 1 else l.reservations }

/-- A record joins a lane, and that lane's count of rods exited rises (R153). -/
def Device.joinLane (reserved : Bool) (lane : Nat) (r : Rod) (d : Device) : Device :=
  (d.modifyLane lane (LaneRt.join reserved r)).bump (exitedCount lane)

/-- A lane that holds a record and that R156 may serve. -/
def Device.laneReady (d : Device) (l : Nat) : Bool := (d.lane l).declared && !(d.lane l).records.isEmpty

/-- A candidate of the ratio choice (R157). -/
def Device.candidate (d : Device) (l : Nat) : Bool :=
  decide ((d.laneEntry l).mode = .ratio) && d.laneReady l && decide (0 < (d.lane l).credit)

/-- The four lanes cyclically from the round pointer (R157). -/
def Device.cycle (d : Device) : List Nat := (List.range 4).map fun k => (d.acc.pointer + k) % 4

/-- Every RATIO lane's credit is set to its weight (R157). -/
def Device.refill (d : Device) : Device :=
  { d with acc := { d.acc with
      lanes := (d.acc.lanes.zipIdx).map fun p =>
        if (d.laneEntry p.2).mode = .ratio then { p.1 with credit := (d.laneEntry p.2).weight } else p.1 } }

/-- The chosen lane's credit falls by one, and the pointer moves past it if the credit reaches 0 (R157). -/
def Device.charge (l : Nat) (d : Device) : Device :=
  let credit := (d.lane l).credit - 1
  let d := d.modifyLane l fun x => { x with credit := credit }
  { d with acc := { d.acc with pointer := if credit = 0 then (l + 1) % 4 else l } }

/-- The ratio choice (R157): the lane chosen, with the credits and the pointer after it. -/
def Device.ratioChoice (d : Device) : Option (Nat × Device) :=
  match d.cycle.find? d.candidate with
  | some l => some (l, d.charge l)
  | none =>
    if (List.range 4).any fun l => decide ((d.laneEntry l).mode = .ratio) && d.laneReady l then
      let r := d.refill
      (r.cycle.find? r.candidate).map fun l => (l, r.charge l)
    else none

/-- The lane the arbiter chooses (R156): the lowest-numbered STRICT lane that holds a record, or else the ratio choice. -/
def Device.chooseLane (d : Device) : Option (Nat × Device) :=
  match (List.range 4).find? fun l => decide ((d.laneEntry l).mode = .strict) && d.laneReady l with
  | some l => some (l, d)
  | none => d.ratioChoice

/-- STRIP_START is sent with a new strip number for the slot's rod and gate, and the strip limit starts (R159, R161). -/
def Device.startStrip (slot : StripSlot) (d : Device) : Device :=
  let n := (d.acc.number + 1) % 256
  { d with acc := { d.acc with
      slot := some slot
      number := n
      stripper := .stripping
      timer := some (d.timer (d.tables.acc.stripLimit * 1000)) } }.send (.stripStart n slot.rod.id slot.gate)

/-- The grant of a lane's head record (R156). -/
def Device.grantFrom (l : Nat) (d : Device) : Option Device :=
  match (d.lane l).records with
  | [] => none
  | r :: rs => some ((d.modifyLane l fun x => { x with records := rs }).startStrip ⟨r, l, (d.laneEntry l).dest⟩)

/-- The arbiter's grant, if R156 makes one. -/
def Device.grant (d : Device) : Option Device :=
  if d.acc.stripper = .idle ∧ d.acc.paused = false then
    match d.chooseLane with
    | some c => c.2.grantFrom c.1
    | none => none
  else none

/-- The end of an event at the accumulator unit: the arbiter may grant (R156), and an event that left some lane with more
room sends one free-place report (R152). -/
def Device.accEnd (freed : Bool) (d : Device) : Device :=
  match d.grant with
  | some e => e.post (.retry .freePlace)
  | none => if freed then d.post (.retry .freePlace) else d

/-- An empty rod reaches the return buffer: it joins, and the spreader unit is told that the count rose; or it goes to
spill and RETURN_OVERFLOW is raised (R14, R163). -/
def Device.returnRod (context : Context) (d : Device) : Device :=
  if d.acc.returnDeclared ∧ d.acc.returnCount < d.tables.acc.returnCap then
    { d with acc := { d.acc with returnCount := d.acc.returnCount + 1 } }.fill
  else d.spillRod.raise .returnOverflow context

end Sys2Proof.Machine
end

