-- ==== Sys2Proof/Machine/Track.lean ====
section
/-! DEFINITION. The tunnel track: the shift and exit reconciliation (R7 to R15), and the requests on records (R21 to R24). -/

namespace Sys2Proof.Machine

/-- A shift order (section 1.4). -/
structure ShiftOrder where
  move : Nat
  seen : Option Sighting
  reservation : Option Nat
  disposition : Option Disposition
  deriving DecidableEq, Repr, Inhabited

/-- A record with its exit part added, of the time now (R8). -/
def Device.withExit (d : Device) (disp : Disposition) (lane : ExitLane) (r : Rod) : Rod :=
  { r with exit := some ⟨d.clock, disp, lane⟩ }

/-- The context of a raise at a shift that names only the move. -/
def moveContext (move : Nat) : Context := { move := some move }

/-- TRACK_MISMATCH's context: the move number, and the exit record's id or 0 (R10). -/
def mismatchContext (move rod : Nat) : Context := { move := some move, rod := some rod }

/-- A record without a reservation goes to a lane if it has room, and otherwise to spill, closed DISCARDED (R11, R15,
R153). -/
def Device.dischargeFree (disp : Disposition) (lane : Nat) (r : Rod) (d : Device) : Device :=
  if d.hasRoom lane then d.joinLane false lane (d.withExit disp (.lane lane) r)
  else d.spillRod.closeRod .discarded (d.withExit disp .spill r)

/-- A rod seen with strands where the track held no record: a new UNTRACKED record (R15). -/
def Device.dischargeUntracked (d : Device) : Device :=
  let r := d.untracked d.freeId none
  d.assignId.dischargeFree .untracked (d.tables.dispositions.getD Disposition.untracked.ctorIdx 0) r

/-- A reservation that the shift order carries is released (R11). -/
def Device.releaseReservation (lane : Option Nat) (d : Device) : Device :=
  match lane with
  | some l => d.modifyLane l LaneRt.release
  | none => d

/-- A LOADED exit content (R11). -/
def Device.reconcileLoaded (o : ShiftOrder) (r : Rod) (d : Device) : Device :=
  let disp := o.disposition.getD (dispositionOf r)
  match o.seen.getD .strands with
  | .strands =>
    match o.reservation with
    | some l => d.joinLane true l (d.withExit disp (.lane l) r)
    | none => d.dischargeFree disp (d.laneFor disp r) r
  | .bare =>
    (((d.closeRod .lost (d.withExit disp .returned r)).returnRod (moveContext o.move)).releaseReservation
      o.reservation).raise .trackMismatch (mismatchContext o.move r.id)
  | .noRod =>
    (((d.closeRod .lost (d.withExit disp .none r)).releaseReservation o.reservation).raise .trackMismatch
      (mismatchContext o.move r.id)).inventorySub 1

/-- An EMPTY exit content (R12). -/
def Device.reconcileEmpty (o : ShiftOrder) (d : Device) : Device :=
  match o.seen.getD .bare with
  | .bare => d.returnRod (moveContext o.move)
  | .strands => d.dischargeUntracked.raise .trackMismatch (mismatchContext o.move 0)
  | .noRod => (d.inventorySub 1).raise .trackMismatch (mismatchContext o.move 0)

/-- A GAP exit content (R13). -/
def Device.reconcileGap (o : ShiftOrder) (d : Device) : Device :=
  match o.seen.getD .noRod with
  | .noRod => d
  | .bare =>
    ((d.returnRod (moveContext o.move)).inventoryAdd 1).raise .trackMismatch (mismatchContext o.move 0)
  | .strands => (d.dischargeUntracked.inventoryAdd 1).raise .trackMismatch (mismatchContext o.move 0)

/-- An UNKNOWN exit content (R14). -/
def Device.reconcileUnknown (o : ShiftOrder) (d : Device) : Device :=
  match o.seen.getD .noRod with
  | .noRod => d
  | .bare => d.returnRod (moveContext o.move)
  | .strands => d.dischargeUntracked

/-- Exit reconciliation (R9 to R15). An absent observation is taken as the one that matches the content (R9). -/
def Device.reconcile (o : ShiftOrder) (c : Content) (d : Device) : Device :=
  match c with
  | .loaded r => d.reconcileLoaded o r
  | .empty => d.reconcileEmpty o
  | .gap => d.reconcileGap o
  | .unknown => d.reconcileUnknown o

/-- Whether reconciliation releases a reservation: a LOADED content whose rod is not seen with its strands (R11). -/
def releases (o : ShiftOrder) (c : Content) : Bool :=
  match c with
  | .loaded _ => o.reservation.isSome && decide (o.seen.getD .strands ≠ .strands)
  | .empty | .gap | .unknown => false

/-- A record entering position 0 keeps its dwell list if it has Z entries, and has Z zero entries otherwise (R7). -/
def freshDwell (zones : Nat) (r : Rod) : Rod :=
  { r with product := r.product.map fun x =>
      if x.dwell.length = zones then x else { x with dwell := List.replicate zones 0 } }

/-- What the staged slot gives position 0 (R7, R144). -/
def Slot.delivery (zones : Nat) (s : Slot) : Content :=
  match s with
  | .loaded r => .loaded (freshDwell zones r)
  | .emptyStaged => .empty
  | .none | .loading => .gap

/-- The slot after its hand-over: NONE, but for a load in flight, which stays (R144). -/
def Slot.afterDelivery (s : Slot) : Slot :=
  match s with
  | .loading => .loading
  | .none | .loaded _ | .emptyStaged => .none

/-- The positions move on by one and the slot's content enters position 0; the spreader unit clears its chain hold and
decides its slot (R7, R144). That the fill decision is made here, before exit reconciliation, is the model's choice (log
entry 12). -/
def Device.advance (d : Device) : Device :=
  let entry := d.spread.slot.delivery d.tables.zones.length
  let moved := { d with
    track := { d.track with positions := entry :: d.track.positions.dropLast }
    spread := { d.spread with slot := d.spread.slot.afterDelivery, hold := false } }
  (if entry = .gap then moved.bump .gapsEntered else moved).fill

/-- A shift order at the tunnel track (R7): the shift, exit reconciliation, the end of the accumulator unit's event, and
the test for establishment (R16). -/
def Device.shift (o : ShiftOrder) (d : Device) : Device :=
  ((d.advance.reconcile o d.exitContent).accEnd (releases o d.exitContent)).establish

/-- The holder of a live record as ROD_FIND reports it (R21). -/
inductive Holder where
  | staged
  | position (n : Nat)
  | lane (n place : Nat)
  | strip
  | notLive
  deriving DecidableEq, Repr, Inhabited

/-- Where in a list of contents the record of an id stands. -/
def findPosition (id : Nat) (positions : List Content) : Option (Rod × Nat) :=
  positions.zipIdx.findSome? fun p =>
    match p.1.rod? with
    | some r => if r.id = id then some (r, p.2) else none
    | none => none

/-- Where in a lane the record of an id stands. -/
def findInLane (id : Nat) (records : List Rod) : Option (Rod × Nat) :=
  records.zipIdx.find? fun p => decide (p.1.id = id)

/-- The search in the holders after the staged slot: the positions, the lanes, the strip slot (R4). -/
def Device.findBeyond (d : Device) (id : Nat) : Option (Rod × Holder) :=
  match findPosition id d.track.positions with
  | some q => some (q.1, .position q.2)
  | none =>
    match d.acc.lanes.zipIdx.findSome? fun l => (findInLane id l.1.records).map fun q => (q.1, Holder.lane l.2 q.2) with
    | some found => some found
    | none =>
      match d.acc.slot with
      | some slot => if slot.rod.id = id then some (slot.rod, .strip) else none
      | none => none

/-- The search by rod id (R4). -/
def Device.findRod (d : Device) (id : Nat) : Option (Rod × Holder) :=
  match d.spread.slot.rod? with
  | some r => if r.id = id then some (r, .staged) else d.findBeyond id
  | none => d.findBeyond id

/-- The code of a holder (R199): the order in which R21 lists them. -/
def Holder.bytes (h : Holder) : List Byte :=
  match h with
  | .staged => u8 0 ++ u8 0 ++ u8 0 ++ u8 0
  | .position n => u8 1 ++ (u8 1 ++ u16 n) ++ u8 0 ++ u8 0
  | .lane n place => u8 2 ++ u8 0 ++ (u8 1 ++ u8 n) ++ (u8 1 ++ u8 place)
  | .strip => u8 3 ++ u8 0 ++ u8 0 ++ u8 0
  | .notLive => u8 4 ++ u8 0 ++ u8 0 ++ u8 0

/-- ROD_FIND at the tunnel track (R21). -/
def rodFind (id : Nat) (d : Device) : Device × Answer :=
  if id = 0 then (d, plainFieldRange 0x0E)
  else
    match d.findRod id with
    | some (r, h) => (d, acceptedWith (h.bytes ++ (u8 1 ++ r.bytes)))
    | none => (d, acceptedWith (Holder.notLive.bytes ++ u8 0))

/-- A record with HOSTMARK added. -/
def Rod.marked (r : Rod) : Rod := { r with flags := { r.flags with hostmark := true } }

/-- A position's record with HOSTMARK added, if it is the record of this id. -/
def Content.marked (id : Nat) (c : Content) : Content :=
  match c with
  | .loaded r => if r.id = id then .loaded r.marked else .loaded r
  | .empty => .empty
  | .gap => .gap
  | .unknown => .unknown

/-- ROD_MARK at the tunnel track (R22). -/
def rodMark (id : Nat) (d : Device) : Device × Answer :=
  if id = 0 then (d, plainFieldRange 0x0F)
  else
    match d.findRod id with
    | some (r, .staged) => ({ d with spread := { d.spread with slot := .loaded r.marked } }, accepted)
    | some (_, .position _) =>
      ({ d with track := { d.track with positions := d.track.positions.map (Content.marked id) } }, accepted)
    | some (_, .lane _ _) | some (_, .strip) | some (_, .notLive) | none => (d, wrongState .none)

/-- Closes records one after another (R24). -/
def Device.closeAll (outcome : CloseOutcome) (rods : List Rod) (d : Device) : Device :=
  rods.foldl (fun d r => d.closeRod outcome r) d

/-- The inventory becomes unestablished; a LINE_STATE notice reports the change (R19). -/
def Device.unestablish (d : Device) : Device :=
  if d.track.established then
    { d with track := { d.track with established := false, inventory := 0 } }.notifyLine .inventoryLost
  else d

/-- TRACK_FORGET at the tunnel track (R23, R24). -/
def trackForget (d : Device) : Device × Answer :=
  if d.pace.line = .stopped ∧ d.pace.pacer = .idle then
    let closed := d.closeAll .lost (d.track.positions.filterMap Content.rod?)
    ({ closed with track := { closed.track with positions := closed.track.positions.map fun _ => .unknown } }.unestablish,
      accepted)
  else (d, wrongState .none)

/-- ROD_FIND (R21). -/
def execRodFind (tag : Byte) (id : Half) (s : State) : Host.Outcome State Fault Refusal :=
  run (fun d => d.ask (.rodFind tag id) (rodFind id.toNat)) s

/-- ROD_MARK (R22). -/
def execRodMark (tag : Byte) (id : Half) (s : State) : Host.Outcome State Fault Refusal :=
  run (fun d => d.ask (.rodMark tag id) (rodMark id.toNat)) s

/-- TRACK_FORGET (R24). -/
def execTrackForget (tag : Byte) (s : State) : Host.Outcome State Fault Refusal :=
  run (fun d => d.ask (.trackForget tag) trackForget) s

end Sys2Proof.Machine
end

