-- ==== Sys2Proof/Machine/Faults.lean ====
section
/-! DEFINITION. The fault log (chapter 10): a raise (R176 to R180), the tests of R182, FAULT_READ and FAULT_CLEAR. -/

namespace Sys2Proof.Machine

/-- A kind's mask and severity (R175). -/
def Device.faultSetting (d : Device) (k : FaultKind) : FaultSetting := d.tables.faults.getD (kindNumber k) default

/-- A kind's status and count (R174). -/
def Device.kindState (d : Device) (k : FaultKind) : KindState := d.log.kinds.getD (kindNumber k) default

/-- A raise adds one to the kind's count, which stays at 255 (R174). -/
def Device.countRaise (k : FaultKind) (d : Device) : Device :=
  { d with log := { d.log with kinds := d.log.kinds.modify (kindNumber k) fun x => { x with count := min 255 (x.count + 1) } } }

/-- An unmasked raise sets the kind's status (R176). -/
def Device.setStatus (k : FaultKind) (d : Device) : Device :=
  { d with log := { d.log with kinds := d.log.kinds.modify (kindNumber k) fun x => { x with set := true } } }

/-- An unmasked raise fills an empty first-fault record (R177). -/
def Device.fillFirst (k : FaultKind) (c : Context) (d : Device) : Device :=
  match d.log.first with
  | some _ => d
  | none =>
    { d with log := { d.log with first := some ⟨k, (d.faultSetting k).severity, d.clock, c⟩ } }

/-- The FAULT notice of a raise (R178). -/
def Device.faultNotice (k : FaultKind) (c : Context) (filled : Bool) (d : Device) : Device :=
  d.notify (.fault k (d.faultSetting k).severity d.clock c (d.kindState k).count filled d.pace.line d.pace.cause)

/-- The action of a severity (R179, R180): the stop orders handed, in order. -/
def Device.faultAction (s : Severity) (d : Device) : Device :=
  match s with
  | .halt => (d.post (.stop .haltFault)).post .pressStop
  | .hold => d.post (.stop .holdFault)
  | .note => d

/-- The log takes a raise (R176). -/
def Device.takeRaise (k : FaultKind) (c : Context) (d : Device) : Device :=
  let counted := d.countRaise k
  if (d.faultSetting k).masked then counted
  else
    (((counted.setStatus k).fillFirst k c).faultNotice k c d.log.first.isNone).faultAction (d.faultSetting k).severity

/-- Whether a kind is unmasked, set and of one of these severities. -/
def Device.stops (d : Device) (severities : List Severity) (k : FaultKind) : Bool :=
  !(d.faultSetting k).masked && decide ((d.faultSetting k).severity ∈ severities) && (d.kindState k).set

/-- The stop fault test: the lowest-numbered kind for which it holds (R182). -/
def Device.stopFault (d : Device) : Option FaultKind := allKinds.find? (d.stops [.halt, .hold])

/-- The halt fault test: the lowest-numbered kind for which it holds (R182). -/
def Device.haltFault (d : Device) : Option FaultKind := allKinds.find? (d.stops [.halt])

/-- The first-fault record in FAULT_READ's reply. -/
def FirstFault.bytes (f : FirstFault) : List Byte :=
  u8 (kindNumber f.kind) ++ u8 f.severity.ctorIdx ++ timeBytes f.time ++ contextBytes f.context

/-- The result of a test, with the kind it names. -/
def testBytes (t : Option FaultKind) : List Byte := flag t.isSome ++ optItem (fun k => u8 (kindNumber k)) t

/-- FAULT_READ at the log (R183). -/
def faultRead (d : Device) : Device × Answer :=
  (d, acceptedWith (
    (allKinds.map fun k =>
      flag (d.kindState k).set ++ u8 (d.kindState k).count ++ (d.faultSetting k).bytes).flatten
    ++ optItem FirstFault.bytes d.log.first ++ testBytes d.stopFault ++ testBytes d.haltFault))

/-- The kind numbers a FAULT_CLEAR names: every kind for the one byte 0xFF (R184, section 11.6). -/
def clearNumbers (kinds : List Byte) : List Nat :=
  if kinds = [0xFF] then List.range 23 else kinds.map BitVec.toNat

/-- The log with the named kinds cleared, and the first-fault record emptied if it holds one of them (R184). -/
def Device.clearKinds (numbers : List Nat) (d : Device) : Device :=
  { d with log := {
      kinds := d.log.kinds.zipIdx.map fun p => if p.2 ∈ numbers then ⟨false, 0⟩ else p.1
      first := match d.log.first with
        | some f => if kindNumber f.kind ∈ numbers then none else some f
        | none => none } }

/-- FAULT_CLEAR at the log (R184). Its reply gives the status and the count of each kind, kind by kind (log entry 17). -/
def faultClear (kinds : List Byte) (d : Device) : Device × Answer :=
  match (clearNumbers kinds).zipIdx.find? fun p => decide (22 < p.1) with
  | some p => (d, ⟨.fieldRange, halfOf (Config.clearDetail p.2 (BitVec.ofNat 8 p.1)) 0, []⟩)
  | none =>
    let cleared := d.clearKinds (clearNumbers kinds)
    (cleared, acceptedWith ((allKinds.map fun k =>
      flag (cleared.kindState k).set ++ u8 (cleared.kindState k).count).flatten))

/-- FAULT_RAISE (R176): the log takes a raise handed to it. -/
def execFaultRaise (kind : FaultKind) (context : Context) (s : State) : Host.Outcome State Fault Refusal :=
  run (fun d => (d.take (.raise kind context)).takeRaise kind context) s

/-- FAULT_READ (R183). -/
def execFaultRead (tag : Byte) (s : State) : Host.Outcome State Fault Refusal :=
  run (fun d => d.ask (.faultRead tag) faultRead) s

/-- FAULT_CLEAR (R184). -/
def execFaultClear (tag : Byte) (kinds : List Byte) (s : State) : Host.Outcome State Fault Refusal :=
  run (fun d => d.ask (.faultClear tag kinds) (faultClear kinds)) s

end Sys2Proof.Machine
end

