-- ==== Sys2Proof/Machine/Pacing.lean ====
section
/-! DEFINITION. The pacing unit (chapter 4): the line state, dues, the advance attempt, chain moves and their resolution. -/

namespace Sys2Proof.Machine

/-- The written pacing settings come into force (R68). -/
def Device.bringIntoForce (d : Device) : Device :=
  let p := d.tables.pacing
  { d with pace := { d.pace with force := ⟨p.mode, p.period, p.pulses, p.polarity⟩ } }

/-- The pitch timer and the pulse counter are set to 0, and the one that the mode in force uses starts (R64, R69, R70). -/
def Device.startInterval (d : Device) : Device :=
  { d with pace := { d.pace with
      pitch := ⟨0, if d.pace.force.mode = .fixed then some d.time else none⟩
      pulses := 0 } }

/-- No edge is held as the 2 ms reference (R68, R70, R71). -/
def Device.clearReference (d : Device) : Device := { d with pace := { d.pace with lastEdge := none } }

/-- A stop order (R65). That its LINE_STATE notice shows the pacer as the order leaves it is the model's choice (log entry
11). -/
def Device.stopLine (cause : StopCause) (d : Device) : Device :=
  let p := d.pace
  let stopped := { d with pace := { p with
    line := .stopped
    cause := if p.line = .running then cause else p.cause
    due := false
    pitch := ⟨d.watch p.pitch, none⟩
    pacer := match p.pacer with
      | .idle | .waiting | .deferred => .idle
      | .moving => .moving
      | .unresolved => .unresolved
    reason := none } }
  if p.line = .running then stopped.notifyLine .lineChange else stopped

/-- An attempt's end: a move started, or none for a reason. -/
inductive AttemptEnd where
  | started
  | ended (reason : DeferralReason)
  deriving DecidableEq, Repr, Inhabited

/-- The move starts (R76). -/
def Device.startMove (kind : MoveKind) (reservation : Option Nat) (disposition : Option Disposition) (d : Device) :
    Device :=
  let n := (d.pace.moveNumber + 1) % 256
  ({ d with pace := { d.pace with
      moveNumber := n
      lateWindow := none
      inFlight := some ⟨n, reservation, disposition⟩
      kind := kind
      timer := some (d.timer (d.tables.pacing.moveLimit * 1000))
      pacer := .moving
      reason := none } }.send (.advance n)).bump
    (match kind with
      | .paced => .advancesPaced
      | .jog => .jogs)

/-- The disposition and the reservation of an attempt that has run its update and exit check (R74). -/
def Device.reserveAndMove (kind : MoveKind) (d : Device) : Device × AttemptEnd :=
  match d.exitContent with
  | .loaded r =>
    let disp := dispositionOf r
    let l := d.laneFor disp r
    if d.hasRoom l then ((d.modifyLane l LaneRt.reserve).startMove kind (some l) (some disp), .started)
    else (d, .ended .laneFull)
  | .empty | .gap | .unknown => (d.startMove kind none none, .started)

/-- An advance attempt up to its move or its end without one (R73, R74, R76). -/
def Device.attempt (kind : MoveKind) (d : Device) : Device × AttemptEnd :=
  if d.spread.slot = .loading then (d, .ended .loadInFlight)
  else (exitCheck (update d.setHold)).reserveAndMove kind

/-- The pacer is DEFERRED with a reason, and the deferrals count rises (R73, R74). -/
def Device.deferPace (reason : DeferralReason) (d : Device) : Device :=
  { d with pace := { d.pace with pacer := .deferred, reason := some reason } }.bump .deferrals

/-- An advance attempt of kind PACED (R72, R73, R74). The spreader unit is told of an attempt that set its chain hold and
ended without a move (R138). -/
def Device.pacedAttempt (d : Device) : Device :=
  match d.attempt .paced with
  | (e, .started) => e
  | (e, .ended .loadInFlight) => e.deferPace .loadInFlight
  | (e, .ended .laneFull) => (e.deferPace .laneFull).clearHold

/-- A due that is lost (R72). -/
def Device.loseDue (d : Device) : Device :=
  (d.bump .pitchOverruns).raise .pitchOverrun (moveContext d.pace.moveNumber)

/-- A due (R72). -/
def Device.due (d : Device) : Device :=
  match d.pace.pacer with
  | .waiting => d.pacedAttempt
  | .moving | .unresolved =>
    if d.pace.due then d.loseDue else { d with pace := { d.pace with due := true } }
  | .deferred => d.loseDue
  | .idle => d

/-- The pacer without a pitch owed: WAITING if the line is RUNNING, IDLE if it is STOPPED. -/
def Device.rest (d : Device) : Device :=
  { d with pace := { d.pace with pacer := if d.pace.line = .running then .waiting else .idle, reason := none } }

/-- The pacer proceeds after a move has ended (R79, R84). -/
def Device.proceed (d : Device) : Device :=
  if d.pace.due then { d.rest with pace := { d.rest.pace with due := false } }.pacedAttempt else d.rest

/-- The move in flight becomes none, and its limit stops. The pacer is MOVING, with no move in flight, until the shift
has been reported done (log entry 11). -/
def Device.endMove (d : Device) : Device :=
  { d with pace := { d.pace with inFlight := none, timer := none, pacer := .moving } }

/-- A shift order is handed to the tunnel track, which reports the shift done (R78, R83, R85, R86). The spreader unit
takes the hand-over of its slot before the report that the move has ended (R138, log entry 12). -/
def Device.shiftAndReport (o : ShiftOrder) (late : Bool) (d : Device) : Device :=
  (d.shift o).clearHold.post (.shiftDone late)

/-- The shift order of a move that ended (R78, R83, R85). -/
def Move.order (m : Move) (seen : Option Sighting) : ShiftOrder := ⟨m.number, seen, m.reservation, m.disposition⟩

/-- A move-done message that fits no move (R80). -/
def Device.ignoreDone (d : Device) : Device := d.bump .lateDones

/-- A move-done message in IDLE, WAITING or DEFERRED: a late done (R86), or counted and ignored (R80). -/
def Device.lateDone (n : Nat) (seen : Sighting) (d : Device) : Device :=
  if d.pace.lateWindow = some n then
    ({ d with pace := { d.pace with lateWindow := none } }.raise .chainLateDone (moveContext n)).shiftAndReport
      ⟨n, some seen, none, none⟩ true
  else d.ignoreDone

/-- A move-done message (R78, R80, R85, R86). -/
def Device.moveDone (n : Nat) (seen : Sighting) (d : Device) : Device :=
  match d.pace.pacer with
  | .moving =>
    match d.pace.inFlight with
    | some m => if m.number = n then d.endMove.shiftAndReport (m.order (some seen)) false else d.ignoreDone
    | none => d.ignoreDone
  | .unresolved =>
    match d.pace.inFlight with
    | some m =>
      if m.number = n then
        (d.endMove.notifyLine .unresolvedLeave).shiftAndReport (m.order (some seen)) false
      else d.ignoreDone
    | none => d.ignoreDone
  | .idle | .waiting | .deferred => d.lateDone n seen

/-- The moment at which the move in flight reaches its limit; it counts while the pacer is MOVING (R82). -/
def Device.moveDeadline (d : Device) : Option Nat :=
  if d.pace.pacer = .moving then d.pace.timer.map Timer.deadline else none

/-- The move limit is reached (R82). -/
def Device.moveExpired (d : Device) : Device :=
  ({ d with pace := { d.pace with pacer := .unresolved, timer := none } }.raise .chainStall
    (moveContext ((d.pace.inFlight.map Move.number).getD d.pace.moveNumber))).notifyLine .unresolvedEnter

/-- The moment at which the pitch timer reaches the period in force, while it counts (R69). -/
def Device.pitchDeadline (d : Device) : Option Nat :=
  if d.pace.line = .running ∧ d.pace.force.mode = .fixed then
    d.pace.pitch.since.map fun t => t + (d.pace.force.period * 100 - d.pace.pitch.base)
  else none

/-- The written settings come into force at a due, and the next interval starts from 0 (R68, R69, R70). A change of mode
to FOLLOW leaves no edge as the reference (R70). -/
def Device.nextInterval (d : Device) : Device :=
  let e := d.bringIntoForce.startInterval
  if d.pace.force.mode = .fixed ∧ e.pace.force.mode = .follow then e.clearReference else e

/-- The pitch timer reaches the period (R69). -/
def Device.pitchExpired (d : Device) : Device := d.nextInterval.due

/-- An edge that comes less than 2 ms after the previous counted edge (R70). -/
def Device.tooSoon (d : Device) : Bool :=
  match d.pace.lastEdge with
  | some t => decide (d.time < t + 2)
  | none => false

/-- An edge of the press screw pulse input (R70). -/
def Device.pulse (edge : Edge) (d : Device) : Device :=
  if d.pace.line = .running ∧ d.pace.force.mode = .follow ∧ edge = d.pace.force.polarity ∧ d.tooSoon = false then
    let counted := { d with pace := { d.pace with lastEdge := some d.time, pulses := d.pace.pulses + 1 } }
    if d.pace.force.pulses ≤ counted.pace.pulses then counted.nextInterval.due else counted
  else d

/-- Whether a report retries the deferral held (R75). -/
def retries (report : PaceReport) (reason : Option DeferralReason) : Bool :=
  match report, reason with
  | .loadOutcome, some .loadInFlight => true
  | .freePlace, some .laneFull => true
  | .lateShift, _ => true
  | _, _ => false

/-- A report at the pacing unit (R75). -/
def Device.retry (report : PaceReport) (d : Device) : Device :=
  if d.pace.pacer = .deferred ∧ retries report d.pace.reason then d.pacedAttempt else d

/-- Some lane, or the return buffer, has not been declared (R64). -/
def Device.undeclared (d : Device) : Bool := !(d.acc.lanes.all LaneRt.declared) || !d.acc.returnDeclared

/-- LINE_RUN at the pacing unit (R64). That its LINE_STATE notice shows an IDLE pacer as WAITING already is the model's choice
(log entry 11). -/
def lineRun (d : Device) : Device × Answer :=
  if d.pace.line = .running then (d, wrongState .alreadyRunning)
  else if d.undeclared then (d, wrongState .undeclared)
  else
    match d.stopFault with
    | some k => (d, wrongState .faultSet (kindNumber k))
    | none =>
      if d.pace.pacer = .unresolved then (d, wrongState .unresolved)
      else
        let e := { d with pace := { d.pace with line := .running, cause := .none } }.bringIntoForce.startInterval.clearReference
        let e := if d.pace.pacer = .idle then { e with pace := { e.pace with pacer := .waiting } } else e
        (e.notifyLine .lineChange, accepted)

/-- LINE_STOP at the pacing unit (R65): a stop order with cause REQUEST, taken by the unit that serves the request. -/
def lineStop (d : Device) : Device × Answer := (d.stopLine .request, accepted)

/-- PACE_RESTART at the pacing unit (R71). -/
def paceRestart (d : Device) : Device × Answer :=
  (if d.pace.line = .running then d.bringIntoForce.startInterval.clearReference else d, accepted)

/-- JOG at the pacing unit (R81). -/
def jog (d : Device) : Device × Answer :=
  if d.pace.pacer = .moving ∨ d.pace.pacer = .unresolved ∨ d.pace.pacer = .deferred then (d, wrongState .none)
  else
    match d.haltFault with
    | some k => (d, wrongState .faultSet (kindNumber k))
    | none =>
      match d.attempt .jog with
      | (e, .started) => (e, accepted)
      | (e, .ended .loadInFlight) => (e, wrongState .loadInFlight)
      | (e, .ended .laneFull) => (e.clearHold, wrongState .laneFull)

/-- MOVE_RESOLVE with outcome MOVED at the pacing unit (R83). -/
def moveResolveMoved (d : Device) : Device × Answer :=
  if d.pace.pacer = .unresolved then
    match d.pace.inFlight with
    | some m => ((d.endMove.notifyLine .unresolvedLeave).shiftAndReport (m.order none) false, accepted)
    | none => (d, wrongState .none)
  else (d, wrongState .none)

/-- The unresolved move is resolved as not moved (R84). The free place of a released reservation reaches a pacer that is not
DEFERRED and retries nothing (R84), so no report is posted (log entry 19). -/
def Device.notMoved (m : Move) (d : Device) : Device :=
  (({ (d.releaseReservation m.reservation).endMove with
      pace := { (d.releaseReservation m.reservation).endMove.pace with lateWindow := some m.number } }.rest.notifyLine
    .unresolvedLeave).clearHold).proceed

/-- MOVE_RESOLVE with another outcome than MOVED at the pacing unit (R83, R84). That an outcome that names neither choice is
refused with FIELD_RANGE in every pacer state, and not with WRONG_STATE in the others than UNRESOLVED, is the model's
choice (log entry 25). -/
def moveResolveNotMoved (outcome : Byte) (d : Device) : Device × Answer :=
  if outcome = 1 then
    if d.pace.pacer = .unresolved then
      match d.pace.inFlight with
      | some m => (d.notMoved m, accepted)
      | none => (d, wrongState .none)
    else (d, wrongState .none)
  else (d, plainFieldRange 0x07)

/-- LINE_RUN (R64). -/
def execLineRun (tag : Byte) (s : State) : Host.Outcome State Fault Refusal :=
  run (fun d => d.ask (.lineRun tag) lineRun) s

/-- LINE_STOP (R65). -/
def execLineStop (tag : Byte) (s : State) : Host.Outcome State Fault Refusal :=
  run (fun d => d.ask (.lineStop tag) lineStop) s

/-- STOP_ORDER (R65): the pacing unit takes a stop order handed to it. -/
def execStopOrder (cause : StopCause) (s : State) : Host.Outcome State Fault Refusal :=
  run (fun d => (d.take (.stop cause)).stopLine cause) s

/-- JOG (R81). -/
def execJog (tag : Byte) (s : State) : Host.Outcome State Fault Refusal :=
  run (fun d => d.ask (.jog tag) jog) s

/-- PACE_RESTART (R71). -/
def execPaceRestart (tag : Byte) (s : State) : Host.Outcome State Fault Refusal :=
  run (fun d => d.ask (.paceRestart tag) paceRestart) s

/-- MOVE_RESOLVE_MOVED (R83). -/
def execMoveResolveMoved (tag : Byte) (s : State) : Host.Outcome State Fault Refusal :=
  run (fun d => d.ask (.moveResolveMoved tag) moveResolveMoved) s

/-- MOVE_RESOLVE_NOT_MOVED (R84). -/
def execMoveResolveNotMoved (tag outcome : Byte) (s : State) : Host.Outcome State Fault Refusal :=
  run (fun d => d.ask (.moveResolveNotMoved tag outcome) (moveResolveNotMoved outcome)) s

/-- PITCH_TIMER_EXPIRY (R69). -/
def execPitchTimerExpiry (s : State) : Host.Outcome State Fault Refusal :=
  run (fun d => expire d.pitchDeadline Device.pitchExpired d) s

/-- PRESS_SCREW_PULSE (R70): the edge comes after `wait` ms. -/
def execPressScrewPulse (edge : Edge) (wait : Nat) (s : State) : Host.Outcome State Fault Refusal :=
  run (fun d => { d with time := d.time + wait }.pulse edge) s

/-- ATTEMPT_RETRY (R75): the pacing unit takes a report handed to it. -/
def execAttemptRetry (report : PaceReport) (s : State) : Host.Outcome State Fault Refusal :=
  run (fun d => (d.take (.retry report)).retry report) s

/-- MOVE_DONE (R78, R80, R85, R86). -/
def execMoveDone (number : Byte) (seen : Sighting) (s : State) : Host.Outcome State Fault Refusal :=
  run (fun d => d.moveDone number.toNat seen) s

/-- MOVE_LIMIT_EXPIRY (R82). -/
def execMoveLimitExpiry (s : State) : Host.Outcome State Fault Refusal :=
  run (fun d => expire d.moveDeadline Device.moveExpired d) s

end Sys2Proof.Machine
end

