-- ==== Sys2Proof/Machine/Die.lean ====
section
/-! DEFINITION. The die carriage unit (chapter 6): the stations, the carriage and the press. -/

namespace Sys2Proof.Machine

/-- A station of the unit. -/
def DieUnit.station (u : DieUnit) (side : Side) : Station :=
  match side with
  | .a => u.stationA
  | .b => u.stationB

/-- The unit with one station changed. -/
def DieUnit.modify (u : DieUnit) (side : Side) (f : Station → Station) : DieUnit :=
  match side with
  | .a => { u with stationA := f u.stationA }
  | .b => { u with stationB := f u.stationB }

/-- A station. -/
def Device.station (d : Device) (side : Side) : Station := d.die.station side

/-- The part with one station changed. -/
def Device.modifyStation (side : Side) (f : Station → Station) (d : Device) : Device :=
  { d with die := d.die.modify side f }

/-- A station's indicator (R127). -/
def Station.indicator (s : Station) : Indicator :=
  if s.state = .rejected ∨ s.asked then .blink
  else if s.state = .released then .on
  else .off

/-- What a DIE_STATE notice says of a station (R127). -/
def Station.view (s : Station) : StationView := ⟨s.state, s.reason, s.asked, s.copy, s.wearAtRead⟩

/-- Places a DIE_STATE notice (R127). -/
def Device.notifyDie (e : DieEvent) (d : Device) : Device :=
  d.notify (.dieState d.die.stationA.view d.die.stationB.view d.die.active d.die.position d.die.carriage d.die.press e)

/-- Whether an event changed a station's state or flag, or the carriage position or state (R127). -/
def dieChanged (u v : DieUnit) : Bool :=
  decide (u.stationA.state ≠ v.stationA.state) || decide (u.stationB.state ≠ v.stationB.state)
    || decide (u.stationA.asked ≠ v.stationA.asked) || decide (u.stationB.asked ≠ v.stationB.asked)
    || decide (u.position ≠ v.position) || decide (u.carriage ≠ v.carriage)

/-- What a DIE_STATE notice names as the event that caused it (R127): the change of the carriage position, or else of the
carriage state, or else of a station's state, or else of a flag (log entry 14). -/
def dieEventOf (u v : DieUnit) : DieEvent :=
  if u.position ≠ v.position then .carriagePosition
  else if u.carriage ≠ v.carriage then .carriageState
  else if u.stationA.state ≠ v.stationA.state ∨ u.stationB.state ≠ v.stationB.state then .stationState
  else .stationFlag

/-- An event of the unit, with the one DIE_STATE notice that reports its changes of the stations and the carriage (R127, log
entry 14). -/
def dieEvent (act : Device → Device) (d : Device) : Device :=
  let r := act d
  if dieChanged d.die r.die then r.notifyDie (dieEventOf d.die r.die) else r

/-- A change of the press state: a DIE_STATE notice, and the spreader unit is told, which may fill its slot at RUNNING
(R131, R137). -/
def Device.setPress (p : PressState) (d : Device) : Device :=
  let changed := { d with die := { d.die with press := p } }
  if d.die.press = p then changed
  else
    let told := changed.notifyDie .pressState
    if p = .running then told.fill else told

/-- The press acknowledgement limit, 10 s (R131). -/
def pressLimit : Nat := 10000

/-- The press acknowledgement limit starts. -/
def Device.startPressLimit (d : Device) : Device :=
  { d with die := { d.die with pressTimer := some (d.timer pressLimit) } }

/-- The press acknowledgement limit stops. -/
def Device.stopPressLimit (d : Device) : Device := { d with die := { d.die with pressTimer := none } }

/-- A stop order at the press (R131). -/
def Device.stopPress (d : Device) : Device :=
  match d.die.press with
  | .starting | .running => ((d.send .pressStop).startPressLimit).setPress .stopping
  | .stopped | .stopping => d

/-- The press goes to STOPPED with PRESS_DRIVE_FAULT, and its limit stops (R131). -/
def Device.pressFault (d : Device) : Device := (d.stopPressLimit.setPress .stopped).raise .pressDriveFault {}

/-- A station leaves ACTIVE: the pointer becomes NONE and a running press is stopped (R125). The station's next state is
its caller's. -/
def Device.leaveActive (d : Device) : Device := { d with die := { d.die with active := none } }.stopPress

/-- A station entering EMPTY or SEATED (R117). -/
def Station.clear (s : StationState) (x : Station) : Station :=
  { x with state := s, reason := none, debounce := none, copy := none, wearAtRead := none, wearReported := false,
           asked := false, inFlight := none }

/-- The limit of a die memory exchange, 500 ms (R118, R122). -/
def memoryLimit : Nat := 500

/-- A station enters READING and its read starts (R118). -/
def Device.startRead (side : Side) (d : Device) : Device :=
  let n := ((d.station side).exchange + 1) % 256
  (d.modifyStation side fun x =>
    { x with state := .reading, reason := none, exchange := n, inFlight := some ⟨none, n, d.timer memoryLimit⟩ }).send
    (.memoryRead side n)

/-- A station enters WRITING and its write-back starts (R122). -/
def Device.startWrite (side : Side) (copy : DieRecord) (d : Device) : Device :=
  let n := ((d.station side).exchange + 1) % 256
  (d.modifyStation side fun x =>
    { x with state := .writing, exchange := n, inFlight := some ⟨some copy.wear, n, d.timer memoryLimit⟩ }).send
    (.memoryWrite side n copy.wear copy.sum)

/-- The context of a raise that names a station. -/
def stationContext (side : Side) : Context := { station := some side }

/-- DIE_WEAR is raised once for a working copy whose wear is at or above its service limit (R119, R126). -/
def Device.reportWear (side : Side) (d : Device) : Device :=
  match (d.station side).copy with
  | some c =>
    if c.limit ≤ c.wear ∧ (d.station side).wearReported = false then
      (d.modifyStation side fun x => { x with wearReported := true }).raise .dieWear (stationContext side)
    else d
  | none => d

/-- A carriage completion that activated a station, at the spreader unit: the batch number rises and purge remaining
becomes the purge count of the new die's profile (R145, R146). -/
def Device.newBatch (format : Nat) (d : Device) : Device :=
  { d with spread := { d.spread with
      batch := (d.spread.batch + 1) % 65536
      purge := (d.profile ((d.tables.formatMap.getD format default).profile)).purge } }

/-- A READY station at the carriage becomes ACTIVE if no station is (R119): the pointer, the extrusion identity, DIE_WEAR,
and the spreader unit's part. -/
def Device.activate (byCarriage : Bool) (side : Side) (d : Device) : Device :=
  if (d.station side).state = .ready ∧ d.die.carriage = .idle ∧ d.die.position = some side ∧ d.die.active = none then
    match (d.station side).copy with
    | some c =>
      let named := d.modifyStation side fun x => { x with state := .active }
      let named := { named with die := { named.die with
        active := some side, identity := some ⟨side, c.id, c.format, c.holes⟩ } }
      let worn := named.reportWear side
      (if byCarriage then worn.newBatch c.format else worn).fill
    | none => d
  else d

/-- A station goes to REJECTED and DIE_UNREADABLE is raised (R118). -/
def Device.reject (side : Side) (reason : RejectReason) (d : Device) : Device :=
  (d.modifyStation side fun x => { x with state := .rejected, reason := some reason, inFlight := none }).raise
    .dieUnreadable (stationContext side)

/-- The die record in 17 bytes, if its check and fields pass (R115, section 11.6). -/
def dieRecordOf (bytes : List Byte) : Option DieRecord :=
  let r : DieRecord :=
    ⟨leNat (bytes.take 4), leNat ((bytes.drop 4).take 1), leNat ((bytes.drop 5).take 2), leNat ((bytes.drop 7).take 4),
     leNat ((bytes.drop 11).take 4), leNat (bytes.drop 15)⟩
  if bytes.length = 17 ∧ r.check = ((bytes.take 15).map BitVec.toNat).sum % 65536 ∧ r.format ≤ 63
      ∧ 1 ≤ r.holes ∧ r.holes ≤ 2000 then some r
  else none

/-- The bytes of a read in flight are taken (R118). -/
def Device.readRecord (side : Side) (bytes : List Byte) (d : Device) : Device :=
  match dieRecordOf bytes with
  | none => d.reject side .checkFailed
  | some r =>
    if (d.tables.formatMap.getD r.format default).enabled then
      (d.modifyStation side fun x =>
        { x with state := .ready, reason := none, copy := some r, wearAtRead := some r.wear, wearReported := false,
                 inFlight := none }).activate false side
    else d.reject side .formatUnmapped

/-- The exchange in flight at a station that an answer of this number answers, if it is a read or a write as asked. -/
def Station.answers (x : Station) (write : Bool) (number : Nat) : Option DieExchange :=
  match x.inFlight with
  | some e => if e.number = number ∧ e.write.isSome = write then some e else none
  | none => none

/-- An answer to a MEMORY_READ (R118). -/
def Device.memoryReadReply (side : Side) (number : Nat) (bytes : Option (List Byte)) (d : Device) : Device :=
  match (d.station side).answers false number with
  | none => d
  | some _ =>
    match bytes with
    | some b => d.readRecord side b
    | none => d.reject side .readFailed

/-- The write in flight ended without reaching the die (R122). -/
def Device.writeLost (side : Side) (d : Device) : Device :=
  (d.modifyStation side fun x => { x with state := .released, inFlight := none }).raise .dieWritebackLost
    (stationContext side)

/-- An answer to a MEMORY_WRITE (R122). -/
def Device.memoryWriteReply (side : Side) (number : Nat) (ok : Bool) (d : Device) : Device :=
  match (d.station side).answers true number with
  | none => d
  | some e =>
    if ok then d.modifyStation side fun x => { x with state := .released, wearAtRead := e.write, inFlight := none }
    else d.writeLost side

/-- The moment at which the exchange in flight at a station reaches its limit. -/
def Device.memoryDeadline (d : Device) (side : Side) : Option Nat :=
  (d.station side).inFlight.map fun e => e.timer.deadline

/-- The limit of the exchange in flight is reached (R118, R122). -/
def Device.memoryExpired (side : Side) (d : Device) : Device :=
  match (d.station side).inFlight with
  | some ⟨none, _, _⟩ => d.reject side .readFailed
  | some ⟨some _, _, _⟩ => d.writeLost side
  | none => d

/-- Whether a surprise removal loses unwritten wear (R124). -/
def Station.losesWear (x : Station) : Bool :=
  match x.state with
  | .writing => true
  | .ready | .active =>
    match x.copy with
    | some c => decide (x.wearAtRead ≠ some c.wear)
    | none => false
  | .empty | .settling | .seated | .reading | .rejected | .released => false

/-- A surprise removal (R124): the exchange is abandoned, an ACTIVE station leaves ACTIVE, the faults are raised, and the
station goes to EMPTY or SEATED. The DIE_STATE notice of a press that it stops is placed when the station leaves ACTIVE, with
the pointer NONE and the station not yet in its next state (log entry 14). -/
def Device.surprise (side : Side) (dest : StationState) (d : Device) : Device :=
  let x := d.station side
  let left := if x.state = .active then d.leaveActive else d
  let raised := left.raise .dieSurpriseRemoval (stationContext side)
  let lost := if x.losesWear then raised.raise .dieWritebackLost (stationContext side) else raised
  lost.modifyStation side (Station.clear dest)

/-- A presence event (R117, R123, R124). A report of the value already held is no change and no event (R113). -/
def Device.presenceEvent (side : Side) (on : Bool) (d : Device) : Device :=
  if (d.station side).presence = on then d
  else
    let held := d.modifyStation side fun x => { x with presence := on }
    match (d.station side).state, on with
    | .empty, true =>
      held.modifyStation side fun x => { x with state := .settling, debounce := some (d.timer d.tables.die.debounce) }
    | .empty, false => held
    | .settling, true => held
    | .settling, false | .seated, false | .rejected, false | .released, false =>
      held.modifyStation side (Station.clear .empty)
    | .seated, true | .rejected, true | .released, true => held
    | .reading, false | .ready, false | .active, false | .writing, false => held.surprise side .empty
    | .reading, true | .ready, true | .active, true | .writing, true => held

/-- The moment at which a station's debounce timer reaches its time. -/
def Device.debounceDeadline (d : Device) (side : Side) : Option Nat := (d.station side).debounce.map Timer.deadline

/-- The debounce timer reaches the debounce time (R117). -/
def Device.debounceExpired (side : Side) (d : Device) : Device :=
  let seated := d.modifyStation side (Station.clear .seated)
  if (d.station side).clamp then seated.startRead side else seated

/-- A clamp event (R117, R123, R124). -/
def Device.clampEvent (side : Side) (closed : Bool) (d : Device) : Device :=
  if (d.station side).clamp = closed then d
  else
    let held := d.modifyStation side fun x => { x with clamp := closed }
    match (d.station side).state, closed with
    | .seated, true => held.startRead side
    | .seated, false => held
    | .empty, _ | .settling, _ => held
    | .rejected, false | .released, false => held.modifyStation side (Station.clear .seated)
    | .rejected, true | .released, true => held
    | .reading, false | .ready, false | .active, false | .writing, false => held.surprise side .seated
    | .reading, true | .ready, true | .active, true | .writing, true => held

/-- A button event (R120). -/
def Device.buttonEvent (side : Side) (d : Device) : Device :=
  if (d.station side).state = .ready ∨ (d.station side).state = .active then
    d.modifyStation side fun x => { x with asked := true }
  else d

/-- A released station writes back its wear, or is RELEASED at once (R121, R122). -/
def Device.writeBack (side : Side) (d : Device) : Device :=
  match (d.station side).copy with
  | some c =>
    if (d.station side).wearAtRead = some c.wear then d.modifyStation side fun x => { x with state := .released }
    else d.startWrite side c
  | none => d.modifyStation side fun x => { x with state := .released }

/-- An accepted DIE_RELEASE (R121). -/
def Device.release (side : Side) (d : Device) : Device :=
  let kept := d.modifyStation side fun x => { x with asked := false }
  (if (d.station side).state = .active then kept.leaveActive.post (.stop .dieRelease) else kept).writeBack side

/-- A request that names a station, at the die carriage unit. -/
def withSide (kind station : Byte) (act : Side → Device → Device × Answer) (d : Device) : Device × Answer :=
  match sideOf station with
  | none => (d, plainFieldRange kind)
  | some side => act side d

/-- DIE_RELEASE at the unit (R121). -/
def dieRelease (station : Byte) : Device → Device × Answer :=
  withSide 0x0A station fun side d =>
    if (d.station side).asked = false then (d, wrongState .notAsked)
    else if (d.station side).state = .active ∧ d.die.press ≠ .stopped then (d, wrongState .pressNotStopped)
    else (dieEvent (Device.release side) d, accepted)

/-- DIE_KEEP at the unit (R120). -/
def dieKeep (station : Byte) : Device → Device × Answer :=
  withSide 0x0B station fun side d =>
    if (d.station side).asked then
      (dieEvent (Device.modifyStation side fun x => { x with asked := false }) d, accepted)
    else (d, wrongState .none)

/-- DIE_REREAD at the unit (R123). -/
def dieReread (station : Byte) : Device → Device × Answer :=
  withSide 0x0C station fun side d =>
    if (d.station side).state = .rejected ∨ (d.station side).state = .released then
      (dieEvent (Device.startRead side) d, accepted)
    else (d, wrongState .none)

/-- A carriage move starts (R128). -/
def Device.startCarriage (target : Side) (d : Device) : Device :=
  let left :=
    match d.die.active with
    | some side => d.leaveActive.modifyStation side fun x => { x with state := .ready }
    | none => d
  { left with die := { left.die with
      carriage := .moving
      target := some target
      carriageTimer := some (left.timer (left.tables.die.carriageLimit * 1000)) } }.send (.carriageMove target)

/-- DIE_SWAP at the unit (R129). -/
def dieSwap (station : Byte) : Device → Device × Answer :=
  withSide 0x0D station fun side d =>
    if d.die.press ≠ .stopped then (d, wrongState .pressNotStopped)
    else if d.die.carriage = .querying ∨ d.die.carriage = .moving then (d, wrongState .carriageBusy)
    else if (d.station side).state ≠ .ready then (d, wrongState .targetNotReady)
    else if d.die.carriage = .idle ∧ d.die.position = some side then (d, wrongState .inPosition)
    else (dieEvent (Device.startCarriage side) d, accepted)

/-- The carriage stands at a station with no move in flight. -/
def Device.carriageAt (side : Side) (d : Device) : Device :=
  { d with die := { d.die with position := some side, carriage := .idle, carriageTimer := none } }

/-- The carriage query ends without an answer that names a station (R128). -/
def Device.queryFailed (d : Device) : Device :=
  { d with die := { d.die with carriage := .idle, carriageTimer := none } }.raise .carriageTimeout {}

/-- The carriage query's limit has not passed. -/
def Device.queryOpen (d : Device) : Bool :=
  match d.die.carriageTimer with
  | some t => d.within t
  | none => true

/-- The answer to the carriage query, taken within its limit (R128); a later one is ignored, as one in any other carriage
state is (log entry 34). -/
def Device.queryAnswer (station : Option Side) (d : Device) : Device :=
  if d.die.carriage = .querying ∧ d.queryOpen then
    match station with
    | some side => (d.carriageAt side).activate false side
    | none => d.queryFailed
  else d

/-- The carriage move ends without a completion (R130). -/
def Device.carriageLost (d : Device) : Device :=
  { d with die := { d.die with position := none, carriage := .lost, carriageTimer := none } }.raise .carriageTimeout
    { station := d.die.target }

/-- A done message of the carriage drive (R130). -/
def Device.carriageDone (station : Option Side) (d : Device) : Device :=
  match d.die.carriage, station with
  | .moving, some side | .lost, some side => (d.carriageAt side).activate true side
  | .moving, none => d.carriageLost
  | .lost, none => d
  | .idle, _ | .querying, _ => d

/-- The moment at which the carriage query reaches its limit. -/
def Device.queryDeadline (d : Device) : Option Nat :=
  if d.die.carriage = .querying then d.die.carriageTimer.map Timer.deadline else none

/-- The moment at which the carriage move reaches its limit. -/
def Device.carriageDeadline (d : Device) : Option Nat :=
  if d.die.carriage = .moving then d.die.carriageTimer.map Timer.deadline else none

/-- PRESS_START at the unit (R132). -/
def pressStart (d : Device) : Device × Answer :=
  if d.die.press ≠ .stopped then (d, wrongState .pressNotStopped)
  else if d.die.active = none then (d, wrongState .noActiveDie)
  else
    match d.haltFault with
    | some k => (d, wrongState .faultSet (kindNumber k))
    | none => (((d.send .pressStart).startPressLimit).setPress .starting, accepted)

/-- PRESS_STOP at the unit (R131). -/
def pressStop (d : Device) : Device × Answer := (d.stopPress, accepted)

/-- STARTED (R131). -/
def Device.pressStarted (d : Device) : Device :=
  if d.die.press = .starting then d.stopPressLimit.setPress .running else d

/-- HALTED (R131). -/
def Device.pressHalted (d : Device) : Device :=
  match d.die.press with
  | .stopped => d.stopPressLimit
  | .stopping => d.stopPressLimit.setPress .stopped
  | .starting | .running => d

/-- The moment at which the press acknowledgement limit is reached. -/
def Device.pressDeadline (d : Device) : Option Nat := d.die.pressTimer.map Timer.deadline

/-- A load completion with strands adds one to the wear of the active station's working copy (R126). -/
def Device.countWear (d : Device) : Device :=
  match d.die.active with
  | some side =>
    (d.modifyStation side fun x =>
      { x with copy := x.copy.map fun c => { c with wear := min (size32 - 1) (c.wear + 1) } }).reportWear side
  | none => d

/-- PRESENCE_EVENT (R117, R123, R124). -/
def execPresenceEvent (side : Side) (on : Bool) (s : State) : Host.Outcome State Fault Refusal :=
  run (dieEvent (Device.presenceEvent side on)) s

/-- DEBOUNCE_EXPIRY (R117). -/
def execDebounceExpiry (side : Side) (s : State) : Host.Outcome State Fault Refusal :=
  run (fun d => expire (d.debounceDeadline side) (dieEvent (Device.debounceExpired side)) d) s

/-- CLAMP_EVENT (R117, R123, R124). -/
def execClampEvent (side : Side) (closed : Bool) (s : State) : Host.Outcome State Fault Refusal :=
  run (dieEvent (Device.clampEvent side closed)) s

/-- BUTTON_EVENT (R120). -/
def execButtonEvent (side : Side) (s : State) : Host.Outcome State Fault Refusal :=
  run (dieEvent (Device.buttonEvent side)) s

/-- MEMORY_READ_REPLY (R118). -/
def execMemoryReadReply (side : Side) (number : Byte) (bytes : Option (List Byte)) (s : State) :
    Host.Outcome State Fault Refusal :=
  run (dieEvent (Device.memoryReadReply side number.toNat bytes)) s

/-- MEMORY_EXCHANGE_EXPIRY (R118, R122). -/
def execMemoryExchangeExpiry (side : Side) (s : State) : Host.Outcome State Fault Refusal :=
  run (fun d => expire (d.memoryDeadline side) (dieEvent (Device.memoryExpired side)) d) s

/-- MEMORY_WRITE_REPLY (R122). -/
def execMemoryWriteReply (side : Side) (number : Byte) (ok : Bool) (s : State) : Host.Outcome State Fault Refusal :=
  run (dieEvent (Device.memoryWriteReply side number.toNat ok)) s

/-- DIE_RELEASE (R121). -/
def execDieRelease (tag station : Byte) (s : State) : Host.Outcome State Fault Refusal :=
  run (fun d => d.ask (.dieRelease tag station) (dieRelease station)) s

/-- DIE_KEEP (R120). -/
def execDieKeep (tag station : Byte) (s : State) : Host.Outcome State Fault Refusal :=
  run (fun d => d.ask (.dieKeep tag station) (dieKeep station)) s

/-- DIE_REREAD (R123). -/
def execDieReread (tag station : Byte) (s : State) : Host.Outcome State Fault Refusal :=
  run (fun d => d.ask (.dieReread tag station) (dieReread station)) s

/-- DIE_SWAP (R129). -/
def execDieSwap (tag station : Byte) (s : State) : Host.Outcome State Fault Refusal :=
  run (fun d => d.ask (.dieSwap tag station) (dieSwap station)) s

/-- CARRIAGE_QUERY_ANSWER (R128). -/
def execCarriageQueryAnswer (station : Option Side) (s : State) : Host.Outcome State Fault Refusal :=
  run (dieEvent (Device.queryAnswer station)) s

/-- CARRIAGE_QUERY_EXPIRY (R128). -/
def execCarriageQueryExpiry (s : State) : Host.Outcome State Fault Refusal :=
  run (fun d => expire d.queryDeadline (dieEvent Device.queryFailed) d) s

/-- CARRIAGE_DONE (R130). -/
def execCarriageDone (station : Option Side) (s : State) : Host.Outcome State Fault Refusal :=
  run (dieEvent (Device.carriageDone station)) s

/-- CARRIAGE_MOVE_EXPIRY (R130). -/
def execCarriageMoveExpiry (s : State) : Host.Outcome State Fault Refusal :=
  run (fun d => expire d.carriageDeadline (dieEvent Device.carriageLost) d) s

/-- PRESS_START (R132). -/
def execPressStart (tag : Byte) (s : State) : Host.Outcome State Fault Refusal :=
  run (fun d => d.ask (.pressStart tag) pressStart) s

/-- PRESS_STOP (R131). -/
def execPressStop (tag : Byte) (s : State) : Host.Outcome State Fault Refusal :=
  run (fun d => d.ask (.pressStop tag) pressStop) s

/-- PRESS_STOP_ORDER (R131): the die carriage unit takes a press stop order handed to it. -/
def execPressStopOrder (s : State) : Host.Outcome State Fault Refusal :=
  run (fun d => (d.take .pressStop).stopPress) s

/-- PRESS_STARTED (R131). -/
def execPressStarted (s : State) : Host.Outcome State Fault Refusal :=
  run (fun d => d.pressStarted) s

/-- PRESS_HALTED (R131). -/
def execPressHalted (s : State) : Host.Outcome State Fault Refusal :=
  run (fun d => d.pressHalted) s

/-- PRESS_FAULT_REPORT (R131). -/
def execPressFaultReport (s : State) : Host.Outcome State Fault Refusal :=
  run (fun d => d.pressFault) s

/-- PRESS_ACK_EXPIRY (R131). -/
def execPressAckExpiry (s : State) : Host.Outcome State Fault Refusal :=
  run (fun d => expire d.pressDeadline Device.pressFault d) s

end Sys2Proof.Machine
end

