-- ==== Sys2Proof/Machine/Zone.lean ====
section
/-! DEFINITION. The zone unit (chapter 5): adoption, setpoints, trim, sample rounds, climate monitors, settle timers. -/

namespace Sys2Proof.Machine

/-- The part with the runtime state of one zone index changed. -/
def Device.modifyZone (z : Nat) (f : ZoneRt → ZoneRt) (d : Device) : Device :=
  { d with climate := { d.climate with zones := d.climate.zones.modify z f } }

/-- A zone's effective setpoints from its active profile and its trim (R93). -/
def Device.setpoints (d : Device) (z : Nat) (rt : ZoneRt) : ZoneRt :=
  let p := d.profile rt.profile
  { rt with effTemp := p.temp.getD z 0, effHum := min 1000 (p.hum.getD z 0 + rt.trim) }

/-- A zone's effective setpoints are recomputed (R93). -/
def Device.recompute (z : Nat) (d : Device) : Device := d.modifyZone z (d.setpoints z)

/-- A zone's settle timer starts from 0 (R107). -/
def Device.startSettle (z : Nat) (d : Device) : Device := d.modifyZone z fun rt => { rt with settleFrom := some d.sec }

/-- A zone's trim is set (R90, R92, R94). -/
def Device.setTrim (trim z : Nat) (d : Device) : Device := d.modifyZone z fun rt => { rt with trim := trim }

/-- The zones of the layout in order. -/
def Device.zoneIndices (d : Device) : List Nat := List.range d.tables.zones.length

/-- The context of a raise that names a zone. -/
def zoneContext (z : Nat) : Context := { zone := some z }

/-- The profile of the rod at a zone's governing position, if that position is LOADED (R92). -/
def Device.governing (d : Device) (z : Nat) : Option Nat :=
  match d.tables.zones[z]? with
  | none => none
  | some e =>
    match d.track.positions[e.governing]? with
    | some (.loaded r) => r.product.map Product.profile
    | some .empty | some .gap | some .unknown | none => none

/-- A zone adopts a profile (R92). -/
def Device.adopt (profile z : Nat) (d : Device) : Device :=
  (((d.modifyZone z fun rt => { rt with profile := profile, trim := 0 }).recompute z).startSettle z)

/-- One zone's governing position is examined after a shift (R92). -/
def Device.examineZone (d : Device) (z : Nat) : Device :=
  match d.governing z with
  | some p => if (d.zone z).profile = p then d else d.adopt p z
  | none => d

/-- The governing positions are examined in zone order (R92). -/
def Device.adoptions (d : Device) : Device := d.zoneIndices.foldl Device.examineZone d

/-- The reply limit of a READ or a SET, 250 ms (R97). -/
def replyLimit : Nat := 250

/-- The exchange number rises by one (R97). -/
def Device.nextExchange (d : Device) : Nat := (d.climate.exchange + 1) % 256

/-- READ is sent to a zone's module, in a round with these results (R97). -/
def Device.sendRead (r : Round) (z : Nat) (results : List ZoneResult) (d : Device) : Device :=
  let n := d.nextExchange
  { d with climate := { d.climate with
      exchange := n
      round := some { r with zone := z, phase := .read, number := n, timer := d.timer replyLimit, results := results } } }.send
    (.zoneRead z n)

/-- A round starts, and the periodic timer starts again from 0 (R96). -/
def Device.startRound (trigger : Trigger) (d : Device) : Device :=
  { d with climate := { d.climate with periodicFrom := d.time } }.sendRead
    ⟨trigger, d.clock, 0, .read, 0, d.timer replyLimit, []⟩ 0 []

/-- A PERIODIC or ADVANCE trigger (R96): it starts a round, or is discarded and counted. -/
def Device.trigger (t : Trigger) (d : Device) : Device :=
  if d.climate.round.isSome then d.bump .sampleOverruns else d.startRound t

/-- What the SAMPLE_ROUND notice says of a zone, as it stands at the end of the round (R97). -/
def Device.zoneView (d : Device) (r : ZoneResult) : ZoneView :=
  let rt := d.zone r.zone
  ⟨r, rt.valid, rt.profile, rt.trim⟩

/-- The round ends (R97). -/
def Device.endRound (r : Round) (results : List ZoneResult) (d : Device) : Device :=
  ({ d with climate := { d.climate with round := none } }.bump .sampleRounds).notify
    (.sampleRound r.trigger r.start d.clock (results.map d.zoneView))

/-- A zone's READ, and its SET if one followed, have ended: the round goes on to the next index below Z as Z stands now, or
ends (R97, R111). -/
def Device.nextZone (r : Round) (outcome : ReadOutcome) (set : Option Bool) (d : Device) : Device :=
  let results := r.results ++ [⟨r.zone, outcome, set⟩]
  if r.zone + 1 < d.tables.zones.length then d.sendRead r (r.zone + 1) results else d.endRound r results

/-- SET is sent to the zone's module with its effective setpoints (R97). -/
def Device.sendSet (r : Round) (outcome : ReadOutcome) (d : Device) : Device :=
  let n := d.nextExchange
  let rt := d.zone r.zone
  { d with climate := { d.climate with
      exchange := n
      round := some { r with phase := .set outcome, number := n, timer := d.timer replyLimit } } }.send
    (.zoneSet r.zone n rt.effTemp rt.effHum)

/-- The output status of a reading or a settling reply (R104). -/
def Device.takeOutput (z : Nat) (status : OutputStatus) (d : Device) : Device :=
  let taken := d.modifyZone z fun rt => { rt with output := status }
  if (d.zone z).output = .ok ∧ status = .fault then taken.raise .heaterFault (zoneContext z) else taken

/-- The difference of two values without sign. -/
def gap (a b : Nat) : Nat := (a - b) + (b - a)

/-- A monitor's state after a judged reading (R105). -/
def judged (out : Bool) (band difference : Nat) : Bool :=
  if out then decide (band / 2 < difference) else decide (band < difference)

/-- Whether an edge mode tells the host of a transition (R106). -/
def tells (edge : EdgeMode) (t : Transition) : Bool :=
  match edge, t with
  | .leave, .leave => true
  | .leave, .ret => false
  | .ret, .leave => false
  | .ret, .ret => true
  | .both, _ => true

/-- The host is told of a transition (R106). -/
def Device.tellMonitor (z : Nat) (e : ZoneEntry) (m : Monitor) (t : Transition) (reading setpoint band : Nat)
    (d : Device) : Device :=
  if tells e.edge t then
    let told := d.notify (.zoneMonitor z m t reading setpoint band d.clock)
    match t with
    | .leave => told.raise .climateDeviation (zoneContext z)
    | .ret => told
  else d

/-- A monitor is evaluated at a reading (R105, R108). -/
def Device.evaluate (z : Nat) (e : ZoneEntry) (m : Monitor) (reading : Nat) (d : Device) : Device :=
  let rt := d.zone z
  match m with
  | .temperature =>
    if e.tempBand = 0 then d
    else
      let out := judged rt.tempOut e.tempBand (gap reading rt.effTemp)
      if out = rt.tempOut then d
      else (d.modifyZone z fun x => { x with tempOut := out }).tellMonitor z e .temperature
        (if out then .leave else .ret) reading rt.effTemp e.tempBand
  | .humidity =>
    if e.humBand = 0 then d
    else
      let out := judged rt.humOut e.humBand (gap reading rt.effHum)
      if out = rt.humOut then d
      else (d.modifyZone z fun x => { x with humOut := out }).tellMonitor z e .humidity
        (if out then .leave else .ret) reading rt.effHum e.humBand

/-- Both monitors are evaluated, temperature first, unless the settle timer still counts (R105). A zone whose entry a layout
write in mid-round has taken away has no bands and no settle time, and none of its monitors is judged: R111 does not say
what its reading meets (log entry 35). -/
def Device.monitors (z temp hum : Nat) (d : Device) : Device :=
  match d.tables.zones[z]? with
  | none => d
  | some e =>
    if d.settleCounting z then d
    else (d.evaluate z e .temperature temp).evaluate z e .humidity hum

/-- A mismatch is entered (R101). -/
def Device.mismatch (z : Nat) (d : Device) : Device :=
  (d.modifyZone z fun rt => { rt with valid := false, hold := true }).raise .moduleMismatch (zoneContext z)

/-- A settling reply (R100). -/
def Device.settlingReply (z : Nat) (r : ModuleReply) (d : Device) : Device :=
  (d.modifyZone z fun rt =>
    { rt with identity := some (rt.identity.getD r.moduleId.toNat), settling := false }).takeOutput z r.output

/-- A reading (R98). -/
def Device.takeReading (z : Nat) (r : ModuleReply) (d : Device) : Device :=
  ((d.modifyZone z fun rt =>
    { rt with reading := some ⟨r.temp.toNat, r.hum.toNat, d.clock⟩, valid := true }).takeOutput z r.output).monitors z
    r.temp.toNat r.hum.toNat

/-- A READ reply at its zone (R98): the zone after it, and the READ's outcome. -/
def Device.takeReply (z : Nat) (r : ModuleReply) (d : Device) : Device × ReadOutcome :=
  let rt := d.zone z
  let heard := d.modifyZone z fun x => { x with misses := 0 }
  if rt.hold then (heard, .mismatch)
  else if rt.identity.isSome ∧ rt.identity ≠ some r.moduleId.toNat then (heard.mismatch z, .mismatch)
  else if rt.settling then (heard.settlingReply z r, .settling)
  else (heard.takeReading z r, .reading)

/-- Whether a SET follows a reply (R97). -/
def Device.needsSet (d : Device) (z : Nat) (r : ModuleReply) (outcome : ReadOutcome) : Bool :=
  match outcome with
  | .reading | .settling =>
    decide (r.heldTemp.toNat ≠ (d.zone z).effTemp) || decide (r.heldHum.toNat ≠ (d.zone z).effHum)
  | .miss | .mismatch => false

/-- A READ reply (R97, R98). One that carries another number, or that comes after the READ's limit, is ignored. -/
def Device.readReply (number : Nat) (reply : ModuleReply) (d : Device) : Device :=
  match d.climate.round with
  | none => d
  | some r =>
    if r.phase = .read ∧ r.number = number ∧ d.within r.timer then
      let t := d.takeReply r.zone reply
      if t.1.needsSet r.zone reply t.2 then t.1.sendSet r t.2 else t.1.nextZone r t.2 none
    else d

/-- A miss at its zone (R99). -/
def Device.miss (z : Nat) (d : Device) : Device :=
  let rt := d.zone z
  let counted := (d.bump .readMisses).modifyZone z fun x => { x with misses := min 3 (x.misses + 1) }
  if rt.valid ∧ rt.misses = 2 then
    (counted.modifyZone z fun x => { x with valid := false, settling := true }).raise .zoneModuleLost (zoneContext z)
  else counted

/-- The moment at which the READ in flight reaches its limit. -/
def Device.readDeadline (d : Device) : Option Nat :=
  match d.climate.round with
  | some r => if r.phase = .read then some r.timer.deadline else none
  | none => none

/-- The READ's limit expires (R99). -/
def Device.readExpired (d : Device) : Device :=
  match d.climate.round with
  | some r => (d.miss r.zone).nextZone r .miss none
  | none => d

/-- The SET in flight ends (R103). -/
def Device.endSet (ok : Bool) (d : Device) : Device :=
  match d.climate.round with
  | none => d
  | some r =>
    match r.phase with
    | .read => d
    | .set outcome => d.nextZone r outcome (some ok)

/-- An answer to a SET (R103). One that carries another number, or that comes after the SET's limit, is ignored. -/
def Device.setReply (number : Nat) (ok : Bool) (d : Device) : Device :=
  match d.climate.round with
  | none => d
  | some r => if r.number = number ∧ d.within r.timer then d.endSet ok else d

/-- The moment at which the SET in flight reaches its limit. -/
def Device.setDeadline (d : Device) : Option Nat :=
  match d.climate.round with
  | some r => if r.phase = .read then none else some r.timer.deadline
  | none => none

/-- The moment at which the periodic timer expires (R95, R96). -/
def Device.periodicDeadline (d : Device) : Nat := d.climate.periodicFrom + d.tables.sampling.period * 1000

/-- The periodic timer expires, restarts from 0, and its trigger is taken (R96). -/
def Device.periodicExpired (d : Device) : Device :=
  { d with climate := { d.climate with periodicFrom := d.time } }.trigger .periodic

/-- SAMPLE_NOW at the zone unit (R96). -/
def sampleNow (d : Device) : Device × Answer :=
  if d.climate.round.isSome then (d, wrongState .none) else (d.startRound .request, accepted)

/-- The moment at which a zone's settle timer runs out (R107). -/
def Device.settleDeadline (d : Device) (z : Nat) : Option Nat :=
  match (d.zone z).settleFrom, d.tables.zones[z]? with
  | some t, some e => some ((t + e.settle) * 1000)
  | _, _ => none

/-- A zone's settle timer runs out (R107). -/
def Device.settleExpired (z : Nat) (d : Device) : Device := d.modifyZone z fun rt => { rt with settleFrom := none }

/-- One zone's part of an order to recompute (R53). -/
def recomputeFor (profile : Nat) (d : Device) (z : Nat) : Device :=
  if (d.zone z).profile = profile then (d.recompute z).startSettle z else d

/-- An order to recompute the setpoints of the zones whose active profile was written (R53). -/
def Device.recomputeProfile (profile : Nat) (d : Device) : Device := d.zoneIndices.foldl (recomputeFor profile) d

/-- The trim after a pair of tallies (R94). -/
def trimmed (e : ZoneEntry) (pair : Nat × Nat) (trim : Nat) : Nat :=
  if 0 < pair.1 ∧ pair.1 < 2 * pair.2 then min e.trimMax (trim + e.trimStep)
  else if pair.2 = 0 then trim - e.trimStep
  else trim

/-- One zone takes its pair of tallies (R94). -/
def takeTally (d : Device) (p : (Nat × Nat) × Nat) : Device :=
  match d.tables.zones[p.2]? with
  | none => d
  | some e =>
    let held := d.modifyZone p.2 fun rt => { rt with tallies := p.1 }
    match e.type with
    | .pre | .dry =>
      let trim := trimmed e p.1 (d.zone p.2).trim
      if trim = (d.zone p.2).trim then held else (held.setTrim trim p.2).recompute p.2
    | .relax | .cool => held

/-- The zone unit takes a set of tallies (R94). -/
def Device.takeTallies (pairs : List (Nat × Nat)) (d : Device) : Device := pairs.zipIdx.foldl takeTally d

/-- ZONE_ACCEPT for one zone (R102). -/
def Device.acceptZone (d : Device) (z : Nat) : Device :=
  (d.modifyZone z fun rt =>
    { rt with identity := none, hold := false, settling := true, misses := 0, valid := false }).startSettle z

/-- ZONE_ACCEPT at the zone unit (R102); the byte 0xFF is ALL (section 11.6). -/
def zoneAccept (zone : Byte) (d : Device) : Device × Answer :=
  if zone = 0xFF then (d.zoneIndices.foldl Device.acceptZone d, accepted)
  else if zone.toNat < d.tables.zones.length then (d.acceptZone zone.toNat, accepted)
  else (d, indexRange)

/-- PERIODIC_TIMER_EXPIRY (R96). -/
def execPeriodicTimerExpiry (s : State) : Host.Outcome State Fault Refusal :=
  run (fun d => expire (some d.periodicDeadline) Device.periodicExpired d) s

/-- SAMPLE_NOW (R96). -/
def execSampleNow (tag : Byte) (s : State) : Host.Outcome State Fault Refusal :=
  run (fun d => d.ask (.sampleNow tag) sampleNow) s

/-- READ_REPLY (R98). -/
def execReadReply (number : Byte) (reply : ModuleReply) (s : State) : Host.Outcome State Fault Refusal :=
  run (fun d => d.readReply number.toNat reply) s

/-- READ_LIMIT_EXPIRY (R99). -/
def execReadLimitExpiry (s : State) : Host.Outcome State Fault Refusal :=
  run (fun d => expire d.readDeadline Device.readExpired d) s

/-- SET_REPLY (R103). -/
def execSetReply (number : Byte) (ok : Bool) (s : State) : Host.Outcome State Fault Refusal :=
  run (fun d => d.setReply number.toNat ok) s

/-- SET_LIMIT_EXPIRY (R103). -/
def execSetLimitExpiry (s : State) : Host.Outcome State Fault Refusal :=
  run (fun d => expire d.setDeadline (Device.endSet false) d) s

/-- SETTLE_TIMER_RUN_OUT (R107). -/
def execSettleTimerRunOut (zone : Nat) (s : State) : Host.Outcome State Fault Refusal :=
  run (fun d => expire (d.settleDeadline zone) (Device.settleExpired zone) d) s

/-- SETPOINT_RECOMPUTE_ORDER (R53): the zone unit takes an order handed to it. -/
def execSetpointRecomputeOrder (profile : Nat) (s : State) : Host.Outcome State Fault Refusal :=
  run (fun d => (d.take (.recompute profile)).recomputeProfile profile) s

/-- TALLIES_HANDED (R94): the zone unit takes the tallies handed to it. -/
def execTalliesHanded (pairs : List (Nat × Nat)) (s : State) : Host.Outcome State Fault Refusal :=
  run (fun d => (d.take (.tallies pairs)).takeTallies pairs) s

/-- ZONE_ACCEPT (R102). -/
def execZoneAccept (tag zone : Byte) (s : State) : Host.Outcome State Fault Refusal :=
  run (fun d => d.ask (.zoneAccept tag zone) (zoneAccept zone)) s

end Sys2Proof.Machine
end

