-- ==== Sys2Proof/Machine/Spreader.lean ====
section
/-! DEFINITION. The spreader unit's load outcomes (R140 to R142) and batches (R145). The fill decision stands in Fill, the
delivery into the tunnel in Track. -/

namespace Sys2Proof.Machine

/-- The load in flight that an answer with this number answers (R140 to R142). -/
def Device.loadAnswered (d : Device) (number : Nat) : Option Load :=
  match d.spread.load with
  | some l => if l.number = number ∧ d.spread.slot = .loading then some l else none
  | none => none

/-- An answer that fits no load in flight (R142). -/
def Device.lateLoad (d : Device) : Device := d.bump .lateLoads

/-- The record that a completed load creates, under the id assigned (R140). -/
def Device.loadedRod (d : Device) (identity : Identity) : Rod :=
  let p := (d.tables.formatMap.getD identity.format default).profile
  { id := d.freeId
    born := d.clock
    flags := { purge := decide (0 < d.spread.purge) }
    product := some
      { batch := d.spread.batch
        format := identity.format
        profile := p
        side := identity.side
        dieId := identity.dieId
        holes := identity.holes
        moisture := (d.profile p).m0
        stress := 0
        dwell := List.replicate d.tables.zones.length 0 }
    gauge := none
    exit := none
    close := none }

/-- A load completes: the record stands in the slot, purge remaining falls for a PURGE record, the die's wear rises, and the
pacing unit is told the outcome (R126, R140, R146). -/
def Device.completeLoad (l : Load) (d : Device) : Device :=
  let rod := d.loadedRod l.identity
  let created := d.assignId
  let staged := { created with spread := { created.spread with
    slot := .loaded rod
    load := none
    purge := created.spread.purge - 1 } }
  ((staged.bump .loadsDone).countWear).post (.retry .loadOutcome)

/-- A load-done message (R140, R142). -/
def Device.loadDone (number : Nat) (d : Device) : Device :=
  match d.loadAnswered number with
  | some l => d.completeLoad l
  | none => d.lateLoad

/-- The load ends without strands, and the slot holds the empty rod (R141, R142). -/
def Device.endLoad (d : Device) : Device :=
  { d with spread := { d.spread with slot := .emptyStaged, load := none } }

/-- A load-failed message (R141, R142). -/
def Device.loadFailed (number : Nat) (d : Device) : Device :=
  match d.loadAnswered number with
  | some _ => (d.endLoad.bump .loadFails).post (.retry .loadOutcome)
  | none => d.lateLoad

/-- The moment at which the load in flight reaches its limit. -/
def Device.loadDeadline (d : Device) : Option Nat := d.spread.load.map fun l => l.timer.deadline

/-- The load limit expires (R142). -/
def Device.loadExpired (d : Device) : Device :=
  match d.spread.load with
  | some l => (d.endLoad.raise .spreaderTimeout (stationContext l.identity.side)).post (.retry .loadOutcome)
  | none => d

/-- BATCH_NEW at the spreader unit (R145). -/
def batchNew (d : Device) : Device × Answer :=
  let n := (d.spread.batch + 1) % 65536
  ({ d with spread := { d.spread with batch := n } }, acceptedWith (u16 n))

/-- LOAD_DONE (R140). -/
def execLoadDone (number : Byte) (s : State) : Host.Outcome State Fault Refusal :=
  run (fun d => d.loadDone number.toNat) s

/-- LOAD_FAILED (R141). -/
def execLoadFailed (number : Byte) (s : State) : Host.Outcome State Fault Refusal :=
  run (fun d => d.loadFailed number.toNat) s

/-- LOAD_LIMIT_EXPIRY (R142). -/
def execLoadLimitExpiry (s : State) : Host.Outcome State Fault Refusal :=
  run (fun d => expire d.loadDeadline Device.loadExpired d) s

/-- BATCH_NEW (R145). -/
def execBatchNew (tag : Byte) (s : State) : Host.Outcome State Fault Refusal :=
  run (fun d => d.ask (.batchNew tag) batchNew) s

end Sys2Proof.Machine
end

