-- ==== Sys2Proof/Machine/Gauge.lean ====
section
/-! DEFINITION. The gauge unit (chapter 9): examination, results, and the correction factors. -/

namespace Sys2Proof.Machine

/-- The record at the gauge position, if that position is LOADED (R167). -/
def Device.gaugeRod (d : Device) : Option Rod :=
  match d.tables.gauge.position with
  | none => none
  | some p =>
    match d.track.positions[p]? with
    | some c => c.rod?
    | none => none

/-- MEASURE is sent for a rod (R167). -/
def Device.measure (r : Rod) (d : Device) : Device :=
  let n := (d.gauge.number + 1) % 256
  { d with gauge := { d.gauge with
      number := n
      inFlight := some ⟨n, r.id, r.born, d.timer (d.tables.gauge.limit * 1000)⟩ } }.send (.measure n r.id)

/-- The gauge position is examined after a shift (R167). -/
def Device.examineGauge (d : Device) : Device :=
  match d.gaugeRod with
  | none => d
  | some r =>
    if r.flags.gauged then d
    else if d.gauge.inFlight.isSome then d.bump .gaugeSkipped
    else d.measure r

/-- The gauge is IDLE with no measurement in flight (R168). -/
def Device.endMeasurement (d : Device) : Device := { d with gauge := { d.gauge with inFlight := none } }

/-- A result that no live record takes, or that answers no measurement in flight (R168, R169). -/
def Device.lateResult (d : Device) : Device := d.bump .gaugeLate

/-- A content's record changed. -/
def Content.mapRod (f : Rod → Rod) (c : Content) : Content :=
  match c with
  | .loaded r => .loaded (f r)
  | .empty => .empty
  | .gap => .gap
  | .unknown => .unknown

/-- A change made to the record of an id wherever it stands beyond the staged slot (R4, R169). -/
def Device.mapBeyond (id : Nat) (f : Rod → Rod) (d : Device) : Device :=
  let g (r : Rod) : Rod := if r.id = id then f r else r
  { d with
    track := { d.track with positions := d.track.positions.map (Content.mapRod g) }
    acc := { d.acc with
      lanes := d.acc.lanes.map fun l => { l with records := l.records.map g }
      slot := d.acc.slot.map fun s => { s with rod := g s.rod } } }

/-- A record that takes a measured value (R169). -/
def Rod.gauged (measured : Nat) (deviation : Int) (time : Nat) (r : Rod) : Rod :=
  { r with
    flags := { r.flags with gauged := true }
    product := r.product.map fun x => { x with moisture := measured }
    gauge := some ⟨measured, deviation, time⟩ }

/-- A correction factor after a deviation (R170). -/
def corrected (band : Nat) (deviation : Int) (c : Nat) : Nat :=
  if ((band / 2 : Nat) : Int) < deviation then min 512 (c + 4)
  else if deviation < -((band / 2 : Nat) : Int) then max 128 (c - 4)
  else c

/-- A profile's correction factor is changed. -/
def Device.modifyFactor (p : Nat) (f : Nat → Nat) (d : Device) : Device :=
  { d with gauge := { d.gauge with factors := d.gauge.factors.modify p f } }

/-- GAUGE_DEVIATION, for a deviation above a band that is not 0 (R169). -/
def Device.checkBand (band rod : Nat) (deviation : Int) (d : Device) : Device :=
  if band ≠ 0 ∧ band < deviation.natAbs then d.raise .gaugeDeviation { rod := some rod } else d

/-- A result is applied to the record of the rod measured (R169, R170). -/
def Device.applyResult (r : Rod) (x : Product) (value : Nat) (d : Device) : Device :=
  let measured := min 4000 value
  let deviation : Int := (x.moisture : Int) - (measured : Int)
  let band := (d.profile x.profile).band
  (((d.mapBeyond r.id (Rod.gauged measured deviation d.clock)).checkBand band r.id deviation).modifyFactor x.profile
    (corrected band deviation)).bump .gauged

/-- The answer to the measurement in flight: the record with its rod id and Born time takes it, if it is live (R169). -/
def Device.takeResult (m : Measurement) (value : Nat) (d : Device) : Device :=
  match d.findBeyond m.rod with
  | none => d.lateResult
  | some (r, _) =>
    match r.product with
    | none => d.lateResult
    | some x => if r.born = m.born then d.applyResult r x value else d.lateResult

/-- A result of the gauge (R168). -/
def Device.gaugeResult (number rod value : Nat) (d : Device) : Device :=
  match d.gauge.inFlight with
  | none => d.lateResult
  | some m =>
    if m.number = number ∧ m.rod = rod then d.endMeasurement.takeResult m value else d.lateResult

/-- The measurement in flight fails (R168). -/
def Device.measurementLost (m : Measurement) (d : Device) : Device :=
  d.endMeasurement.raise .gaugeTimeout { rod := some m.rod, measurement := some m.number }

/-- A fail report of the gauge (R168). -/
def Device.gaugeFail (number : Nat) (d : Device) : Device :=
  match d.gauge.inFlight with
  | some m => if m.number = number then d.measurementLost m else d
  | none => d

/-- The moment at which the measurement in flight reaches its limit. -/
def Device.gaugeDeadline (d : Device) : Option Nat := d.gauge.inFlight.map fun m => m.timer.deadline

/-- The gauge limit expires (R168). -/
def Device.gaugeExpired (d : Device) : Device :=
  match d.gauge.inFlight with
  | some m => d.measurementLost m
  | none => d

/-- GAUGE_RESULT (R169). -/
def execGaugeResult (number : Byte) (rod value : Half) (s : State) : Host.Outcome State Fault Refusal :=
  run (fun d => d.gaugeResult number.toNat rod.toNat value.toNat) s

/-- GAUGE_FAIL_REPORT (R168). -/
def execGaugeFailReport (number : Byte) (s : State) : Host.Outcome State Fault Refusal :=
  run (fun d => d.gaugeFail number.toNat) s

/-- GAUGE_LIMIT_EXPIRY (R168). -/
def execGaugeLimitExpiry (s : State) : Host.Outcome State Fault Refusal :=
  run (fun d => expire d.gaugeDeadline Device.gaugeExpired d) s

/-- CORRECTION_RESET_ORDER (R53, R55): the gauge unit takes an order handed to it. -/
def execCorrectionResetOrder (profile : Nat) (s : State) : Host.Outcome State Fault Refusal :=
  run (fun d => (d.take (.reset profile)).modifyFactor profile fun _ => 256) s

end Sys2Proof.Machine
end

