-- ==== Sys2Proof/Machine/Shift.lean ====
section
/-! DEFINITION. SHIFT_DONE_REPORT: the report of a shift at the pacing, zone and gauge units (R79, R92, R96, R167). -/

namespace Sys2Proof.Machine

/-- The report at the pacing unit: a move that has ended lets the pacer proceed (R79); a late shift retries a deferred
attempt (R75, R86). That the retry is an event of its own, taken after what was handed before it, and not made in the
report's own event, is the model's choice (log entry 13). -/
def Device.shiftReported (late : Bool) (d : Device) : Device :=
  if late then d.post (.retry .lateShift)
  else if d.pace.pacer = .moving ∧ d.pace.inFlight = none then d.proceed
  else d

/-- The ADVANCE trigger of a shift (R96). -/
def Device.advanceTrigger (d : Device) : Device :=
  if d.tables.sampling.advanceOn then d.trigger .advance else d

/-- The report at every unit it is made to. The three units take it in either order; the model's order is the one in which
the step's own list names them (log entry 13). -/
def Device.shiftDone (late : Bool) (d : Device) : Device :=
  (d.shiftReported late).adoptions.examineGauge.advanceTrigger

/-- SHIFT_DONE_REPORT (R79, R92, R96, R167). -/
def execShiftDoneReport (late : Bool) (s : State) : Host.Outcome State Fault Refusal :=
  run (fun d => (d.take (.shiftDone late)).shiftDone late) s

end Sys2Proof.Machine
end

