-- ==== Sys2Proof/Machine/Accumulator.lean ====
section
/-! DEFINITION. The accumulator unit's events and requests: strips (R159 to R162), declarations (R154, R155), the return
buffer (R163, R164). Rooms, the arbiter and the return of a rod stand in Lanes. -/

namespace Sys2Proof.Machine

/-- The strip slot is emptied, the strip limit stops, and the stripper is IDLE (R160, R161). -/
def Device.clearStrip (d : Device) : Device :=
  { d with acc := { d.acc with slot := none, timer := none, stripper := .idle } }

/-- The outcome of a strip through a gate (R160). -/
def gateOutcome (g : Gate) : CloseOutcome :=
  match g with
  | .pack => .packed
  | .rework => .reworked

/-- A strip completes (R160). -/
def Device.completeStrip (slot : StripSlot) (d : Device) : Device :=
  (((d.closeRod (gateOutcome slot.gate) slot.rod).clearStrip.returnRod { strip := some d.acc.number }).bump .stripsDone).accEnd
    false

/-- A strip-done message that fits no strip (R159, R161). -/
def Device.ignoreStripDone (d : Device) : Device := d.bump .lateDones

/-- A strip-done message (R159, R160). -/
def Device.stripDone (number : Nat) (d : Device) : Device :=
  match d.acc.stripper, d.acc.slot with
  | .stripping, some slot | .stalled, some slot =>
    if d.acc.number = number then d.completeStrip slot else d.ignoreStripDone
  | .idle, _ | .stripping, none | .stalled, none => d.ignoreStripDone

/-- The stripper stalls (R159). -/
def Device.stall (kind : FaultKind) (d : Device) : Device :=
  match d.acc.slot with
  | some slot =>
    ({ d with acc := { d.acc with stripper := .stalled, timer := none } }.bump .stripFaults).raise kind
      { lane := some slot.lane, rod := some slot.rod.id, strip := some d.acc.number }
  | none => d

/-- A strip-fault report (R159). -/
def Device.stripFault (number : Nat) (d : Device) : Device :=
  if d.acc.stripper = .stripping ∧ d.acc.number = number then d.stall .stripFault else d

/-- The moment at which the strip in flight reaches its limit. -/
def Device.stripDeadline (d : Device) : Option Nat :=
  if d.acc.stripper = .stripping then d.acc.timer.map Timer.deadline else none

/-- STRIP_RETRY at the accumulator unit (R161). -/
def stripRetry (d : Device) : Device × Answer :=
  match d.acc.stripper, d.acc.slot with
  | .stalled, some slot => ((d.startStrip slot).accEnd false, acceptedWith (u8 (d.startStrip slot).acc.number))
  | .stalled, none | .idle, _ | .stripping, _ => (d, wrongState .none)

/-- STRIP_DISCARD at the accumulator unit (R161). -/
def stripDiscard (d : Device) : Device × Answer :=
  match d.acc.stripper, d.acc.slot with
  | .stalled, some slot => (((d.closeRod .discarded slot.rod).spillRod.clearStrip).accEnd false, accepted)
  | .stalled, none | .idle, _ | .stripping, _ => (d, wrongState .none)

/-- The pause is set or cleared (R162). -/
def Device.setPause (paused : Bool) (d : Device) : Device := { d with acc := { d.acc with paused := paused } }

/-- STRIP_PAUSE at the accumulator unit (R162). -/
def stripPause (d : Device) : Device × Answer := ((d.setPause true).accEnd false, accepted)

/-- STRIP_RESUME at the accumulator unit (R162). -/
def stripResume (d : Device) : Device × Answer := ((d.setPause false).accEnd false, accepted)

/-- A lane takes one more UNTRACKED record, created now (R154). -/
def Device.declareOne (lane : Nat) (d : Device) : Device :=
  d.assignId.modifyLane lane fun l => { l with records := l.records ++ [d.untracked d.freeId none] }

/-- A lane takes `n` UNTRACKED records, one after another (R154). -/
def Device.declareMany (lane : Nat) : Nat → Device → Device
  | 0, d => d
  | n + 1, d => (d.declareOne lane).declareMany lane n

/-- A lane is declared with `n` records (R154). -/
def Device.declareLane (lane n : Nat) (d : Device) : Device :=
  (d.declareMany lane n).modifyLane lane fun l => { l with declared := true }

/-- LANE_DECLARE at the accumulator unit (R154). -/
def laneDeclare (lane count : Nat) (d : Device) : Device × Answer :=
  if 3 < lane then (d, indexRange)
  else if (d.lane lane).declared then (d, wrongState .none)
  else if (d.laneEntry lane).capacity < count then (d, plainFieldRange 0x12)
  else
    let e := d.declareLane lane count
    (e.establish.accEnd (e.hasRoom lane), acceptedWith (u16 (if count = 0 then 0 else d.freeId)))

/-- The return buffer count is set (R155, R164). -/
def Device.setReturn (n : Nat) (d : Device) : Device := { d with acc := { d.acc with returnCount := n } }

/-- A fill decision, if the return buffer count rose (R137). -/
def Device.fillIf (rose : Bool) (d : Device) : Device := if rose then d.fill else d

/-- RETURN_DECLARE at the accumulator unit (R155). -/
def returnDeclare (n : Nat) (d : Device) : Device × Answer :=
  if d.tables.acc.returnCap < n then (d, plainFieldRange 0x13)
  else
    let e := ((d.setReturn n).inventoryAdd (n - d.acc.returnCount)).inventorySub (d.acc.returnCount - n)
    let e := { e with acc := { e.acc with returnDeclared := true } }
    ((e.establish.fillIf (decide (d.acc.returnCount < n))).accEnd false, accepted)

/-- ROD_ADD at the accumulator unit (R164). It answers the count as the request has changed it, before the spreader unit's
fill decision draws a rod (log entry 26). -/
def rodAdd (n : Nat) (d : Device) : Device × Answer :=
  if n = 0 ∨ 1023 < n then (d, plainFieldRange 0x10)
  else if d.acc.returnDeclared = false then (d, wrongState .undeclared)
  else if d.tables.acc.returnCap < d.acc.returnCount + n then (d, wrongState .noRoom)
  else
    ((((d.setReturn (d.acc.returnCount + n)).inventoryAdd n).fill).accEnd false, acceptedWith (u16 (d.acc.returnCount + n)))

/-- ROD_REMOVE from the return buffer at the accumulator unit (R164). -/
def rodRemoveReturn (n : Nat) (d : Device) : Device × Answer :=
  if n = 0 then (d, plainFieldRange 0x11)
  else if d.acc.returnCount < n then (d, wrongState .none)
  else
    (((d.setReturn (d.acc.returnCount - n)).inventorySub n).accEnd false, acceptedWith (u16 (d.acc.returnCount - n)))

/-- ROD_REMOVE from spill, or from a place that names neither, at the accumulator unit (R164). -/
def rodRemoveSpill (place : Byte) (n : Nat) (d : Device) : Device × Answer :=
  if place ≠ 1 ∨ n = 0 then (d, plainFieldRange 0x11)
  else if d.track.spill < n then (d, wrongState .none)
  else
    ((({ d with track := { d.track with spill := d.track.spill - n } }).inventorySub n).accEnd false,
      acceptedWith (u32 (d.track.spill - n)))

/-- STRIP_DONE (R159, R160). -/
def execStripDone (number : Byte) (s : State) : Host.Outcome State Fault Refusal :=
  run (fun d => d.stripDone number.toNat) s

/-- STRIP_FAULT_REPORT (R159). -/
def execStripFaultReport (number : Byte) (s : State) : Host.Outcome State Fault Refusal :=
  run (fun d => d.stripFault number.toNat) s

/-- STRIP_LIMIT_EXPIRY (R159). -/
def execStripLimitExpiry (s : State) : Host.Outcome State Fault Refusal :=
  run (fun d => expire d.stripDeadline (Device.stall .stripperTimeout) d) s

/-- STRIP_RETRY (R161). -/
def execStripRetry (tag : Byte) (s : State) : Host.Outcome State Fault Refusal :=
  run (fun d => d.ask (.stripRetry tag) stripRetry) s

/-- STRIP_DISCARD (R161). -/
def execStripDiscard (tag : Byte) (s : State) : Host.Outcome State Fault Refusal :=
  run (fun d => d.ask (.stripDiscard tag) stripDiscard) s

/-- STRIP_PAUSE (R162). -/
def execStripPause (tag : Byte) (s : State) : Host.Outcome State Fault Refusal :=
  run (fun d => d.ask (.stripPause tag) stripPause) s

/-- STRIP_RESUME (R162). -/
def execStripResume (tag : Byte) (s : State) : Host.Outcome State Fault Refusal :=
  run (fun d => d.ask (.stripResume tag) stripResume) s

/-- LANE_DECLARE (R154). -/
def execLaneDeclare (tag lane count : Byte) (s : State) : Host.Outcome State Fault Refusal :=
  run (fun d => d.ask (.laneDeclare tag lane count) (laneDeclare lane.toNat count.toNat)) s

/-- RETURN_DECLARE (R155). -/
def execReturnDeclare (tag : Byte) (count : Half) (s : State) : Host.Outcome State Fault Refusal :=
  run (fun d => d.ask (.returnDeclare tag count) (returnDeclare count.toNat)) s

/-- ROD_ADD (R164). -/
def execRodAdd (tag : Byte) (count : Half) (s : State) : Host.Outcome State Fault Refusal :=
  run (fun d => d.ask (.rodAdd tag count) (rodAdd count.toNat)) s

/-- ROD_REMOVE_RETURN (R164). -/
def execRodRemoveReturn (tag : Byte) (count : Half) (s : State) : Host.Outcome State Fault Refusal :=
  run (fun d => d.ask (.rodRemoveReturn tag count) (rodRemoveReturn count.toNat)) s

/-- ROD_REMOVE_SPILL (R164). -/
def execRodRemoveSpill (tag place : Byte) (count : Half) (s : State) : Host.Outcome State Fault Refusal :=
  run (fun d => d.ask (.rodRemoveSpill tag place count) (rodRemoveSpill place count.toNat)) s

end Sys2Proof.Machine
end

