-- ==== Sys2Proof/Machine/TableWrites.lean ====
section
/-! DEFINITION. The TABLE_WRITE requests: each table's checks and effects at its owner (R1, R50 to R53, R58, R67, R68, R89,
R90, R95, R114, R136, R149, R151, R158, R166, R175), and the requests that name no written table (R191). -/

namespace Sys2Proof.Machine

/-- The frame of checks that every table write shares: the entries named must exist (INDEX_RANGE), and the first field out
of its range refuses the write (FIELD_RANGE); the owner's further checks and the effect follow. -/
def writeTable (specs : List FieldSpec) (size start count : Nat) (entries : List Byte)
    (own : List (List (List Nat)) → Device → Device × Answer) (d : Device) : Device × Answer :=
  if 1 ≤ count ∧ start + count ≤ size then
    let values := readEntries specs count entries
    match badEntry? specs start values with
    | some p => (d, fieldRange p.1 p.2)
    | none => own values d
  else (d, indexRange)

/-- The first entry of a write of one entry. -/
def firstEntry (values : List (List (List Nat))) : List (List Nat) := values.getD 0 []

/-- The part with its tables in use changed. -/
def Device.setTables (f : Tables → Tables) (d : Device) : Device := { d with tables := f d.tables }

/-- The last position of the zone before the last one (R1). -/
def Device.lastBefore (d : Device) : Option Nat :=
  if 1 < d.tables.zones.length then (d.tables.zones[d.tables.zones.length - 2]?).map ZoneEntry.last else none

/-- The governing position of the last zone (R1). -/
def Device.lastGoverning (d : Device) : Nat := (d.tables.zones.getLast?.map ZoneEntry.governing).getD 0

/-- Some position's content is known (R1). -/
def Device.known (d : Device) : Bool := d.track.positions.any fun c => decide (c ≠ .unknown)

/-- The last zone ends at a position (R1). -/
def endAt (last : Nat) (zones : List ZoneEntry) : List ZoneEntry :=
  zones.modify (zones.length - 1) fun z => { z with last := last }

/-- An accepted TUNNEL write (R1). -/
def Device.setLength (length : Nat) (d : Device) : Device :=
  { d.setTables fun t => { t with length := length, zones := endAt (length - 1) t.zones } with
    track := { d.track with positions := List.replicate length .unknown } }

/-- A TUNNEL write whose value is in range (R1). -/
def tunnelOwn (values : List (List (List Nat))) (d : Device) : Device × Answer :=
  let length := field (firstEntry values) 0
  if d.known then (d, wrongState .none)
  else if d.lastBefore.any fun p => decide (length - 1 ≤ p) then (d, tableConflict 0 0)
  else if length - 1 < d.lastGoverning then (d, tableConflict 0 0)
  else if d.tables.gauge.position.any fun p => decide (length - 1 < p) then (d, tableConflict 0 0)
  else (d.setLength length, accepted)

/-- Hands the two orders of R53 for one profile entry. -/
def orderProfile (d : Device) (p : Nat) : Device := (d.post (.reset p)).post (.recompute p)

/-- The first entry, by its index in the table, whose normal lane has capacity 0 (R50). -/
def Device.deadNormalLane (d : Device) (start : Nat) (profiles : List Profile) : Option Nat :=
  (profiles.zipIdx start).findSome? fun p => if (d.laneEntry p.1.lane).capacity = 0 then some p.2 else none

/-- The field number of a profile entry's normal lane (section 11.6). -/
def normalLaneField : Nat := 11

/-- A PROFILE write whose fields are in range (R50, R51, R53). -/
def profileOwn (start : Nat) (values : List (List (List Nat))) (d : Device) : Device × Answer :=
  let profiles := values.map profileOf
  match d.deadNormalLane start profiles with
  | some e => (d, tableConflict e normalLaneField)
  | none =>
    let clamps := (values.map profileClamps).sum
    ((List.range' start profiles.length).foldl orderProfile
        (d.setTables fun t => { t with profiles := replaceAt t.profiles start profiles }),
      if clamps = 0 then accepted else acceptedClamped clamps)

/-- A FORMAT_MAP write whose fields are in range (R58). -/
def formatMapOwn (start : Nat) (values : List (List (List Nat))) (d : Device) : Device × Answer :=
  (d.setTables fun t => { t with formatMap := replaceAt t.formatMap start (values.map mapEntryOf) }, accepted)

/-- The layout that a ZONE_LAYOUT write would produce; none for a write of neither shape (R89). -/
def newLayout (zones : List ZoneEntry) (start : Nat) (new : List ZoneEntry) : Option (List ZoneEntry) :=
  if start = 0 then (if 1 ≤ new.length ∧ new.length ≤ 12 then some new else none)
  else if 1 ≤ new.length ∧ start + new.length ≤ zones.length then some (replaceAt zones start new)
  else none

/-- Two entries differ in a structural field (R88). -/
def structureDiffers (a b : ZoneEntry) : Bool :=
  decide (a.type ≠ b.type) || decide (a.last ≠ b.last) || decide (a.governing ≠ b.governing)

/-- A layout change is structural: it changes Z or a structural field of some entry (R89). -/
def structural (old new : List ZoneEntry) : Bool :=
  decide (old.length ≠ new.length) || (old.zip new).any fun p => structureDiffers p.1 p.2

/-- The entry and field that the refusal of a structural change names (R89): the first entry whose structure changes with
the first of its fields that does, by the field's number in the entry's layout (0 type, 1 last position, 2 governing
position); where Z changes and no entry that both layouts have does, the first entry that only one of them has
(log entry 25). -/
def structuralEntry (old new : List ZoneEntry) : Nat × Nat :=
  match (List.range (min old.length new.length)).find? fun z =>
      structureDiffers (old.getD z default) (new.getD z default) with
  | some z =>
    let a := old.getD z default
    let b := new.getD z default
    (z, if a.type ≠ b.type then 0 else if a.last ≠ b.last then 1 else 2)
  | none => (min old.length new.length, 0)

/-- The first position of a zone's span (R88). -/
def firstPosition (zones : List ZoneEntry) (z : Nat) : Nat :=
  if z = 0 then 0 else (zones.getD (z - 1) default).last + 1

/-- The first entry and field for which a layout breaks the third check of R89: the last positions' rise, the last zone's
end, and the governing positions, each in zone order (field 1 is the last position, field 2 the governing one). -/
def layoutConflict (zones : List ZoneEntry) (length : Nat) : Option (Nat × Nat) :=
  match (List.range zones.length).find? fun z =>
      decide (z ≠ 0) && decide ((zones.getD z default).last ≤ (zones.getD (z - 1) default).last) with
  | some z => some (z, 1)
  | none =>
    if (zones.getD (zones.length - 1) default).last ≠ length - 1 then some (zones.length - 1, 1)
    else
      match (List.range zones.length).find? fun z =>
          decide ((zones.getD z default).governing < firstPosition zones z)
            || decide ((zones.getD z default).last < (zones.getD z default).governing) with
      | some z => some (z, 2)
      | none => none

/-- Some position is LOADED (R89). -/
def Device.anyLoaded (d : Device) : Bool := d.track.positions.any fun c => c.rod?.isSome

/-- Settle timers that have reached their settle time are run out (R107). -/
def Device.runOut (d : Device) : Device :=
  { d with climate := { d.climate with
      zones := d.climate.zones.zipIdx.map fun p =>
        if p.2 < d.tables.zones.length ∧ d.settleCounting p.2 = false then { p.1 with settleFrom := none } else p.1 } }

/-- What a ZONE_LAYOUT write does to one zone below the new Z (R90). `old` is its former entry, if it had one. -/
def relayZone (old : List ZoneEntry) (carried : Nat → Bool) (d : Device) (z : Nat) : Device :=
  let entry := d.tables.zones.getD z default
  let inside := if carried z then d.modifyZone z fun rt => { rt with tempOut := false, humOut := false } else d
  let changed := match old[z]? with
    | some e => structureDiffers e entry
    | none => true
  if changed then ((inside.setTrim 0 z).recompute z).startSettle z
  else if carried z ∧ entry.trimMax < (d.zone z).trim then (inside.setTrim entry.trimMax z).recompute z
  else inside

/-- An accepted ZONE_LAYOUT write (R90, R107). -/
def Device.setLayout (zones : List ZoneEntry) (carried : Nat → Bool) (d : Device) : Device :=
  let old := d.tables.zones
  ((List.range zones.length).foldl (relayZone old carried)
    (d.runOut.setTables fun t => { t with zones := zones })).runOut

/-- A ZONE_LAYOUT write at the zone unit (R89). -/
def zoneLayoutWrite (start count : Nat) (entries : List Byte) (d : Device) : Device × Answer :=
  let values := readEntries zoneSpec count entries
  match newLayout d.tables.zones start (values.map zoneEntryOf) with
  | none => (d, indexRange)
  | some zones =>
    match badEntry? zoneSpec start values with
    | some p => (d, fieldRange p.1 p.2)
    | none =>
      if structural d.tables.zones zones ∧ d.anyLoaded then
        let p := structuralEntry d.tables.zones zones
        (d, wrongState .none (Config.layoutStateCase p.1 p.2).toNat)
      else
        match layoutConflict zones d.tables.length with
        | some p => (d, tableConflict p.1 p.2)
        | none => (d.setLayout zones fun z => decide (start ≤ z) && decide (z < start + count), accepted)

/-- The first lane whose capacity a write would put below its record count plus reservations (R149). -/
def Device.overfullLane (d : Device) (lanes : List LaneEntry) : Option Nat :=
  (List.range 4).find? fun l => decide ((lanes.getD l default).capacity < (d.lane l).load)

/-- A lane is named as a profile's normal lane or by the disposition map (R149). -/
def Device.laneNamed (d : Device) (l : Nat) : Bool :=
  (d.tables.profiles.any fun p => decide (p.lane = l)) || (d.tables.dispositions.any fun x => decide (x = l))

/-- The lane and field that a LANES write's third check refuses (R149). -/
def Device.lanesConflict (d : Device) (start count : Nat) (lanes : List LaneEntry) : Option (Nat × Nat) :=
  if 240 < (lanes.map LaneEntry.capacity).sum then some ((Config.sumConflictLane start count).toNat, 0)
  else
    ((List.range 4).find? fun l => decide ((lanes.getD l default).capacity = 0) && d.laneNamed l).map fun l => (l, 0)

/-- A write raises some lane's capacity (R149, R152). -/
def raisesCapacity (old new : List LaneEntry) : Bool := (old.zip new).any fun p => decide (p.1.capacity < p.2.capacity)

/-- A LANES write whose fields are in range (R149). A lane too full for its new capacity is named by its number and the
capacity's field number, 0 (log entries 8 and 25). -/
def lanesOwn (start count : Nat) (values : List (List (List Nat))) (d : Device) : Device × Answer :=
  let lanes := replaceAt d.tables.lanes start (values.map laneEntryOf)
  match d.overfullLane lanes with
  | some l => (d, wrongState .none (Config.lanesStateCase l 0).toNat)
  | none =>
    match d.lanesConflict start count lanes with
    | some p => (d, tableConflict p.1 p.2)
    | none => ((d.setTables fun t => { t with lanes := lanes }).accEnd (raisesCapacity d.tables.lanes lanes), accepted)

/-- The first entry, by its index in the table, that names a lane of capacity 0 (R151). -/
def Device.deadDisposition (d : Device) (start : Nat) (lanes : List Nat) : Option Nat :=
  (lanes.zipIdx start).findSome? fun p => if (d.laneEntry p.1).capacity = 0 then some p.2 else none

/-- A DISPOSITION write whose fields are in range (R151). -/
def dispositionOwn (start : Nat) (values : List (List (List Nat))) (d : Device) : Device × Answer :=
  let lanes := values.map fun v => field v 0
  match d.deadDisposition start lanes with
  | some e => (d, tableConflict e 0)
  | none =>
    ((d.setTables fun t => { t with dispositions := replaceAt t.dispositions start lanes }).accEnd false, accepted)

/-- A PACING write whose fields are in range (R67, R68). -/
def pacingOwn (values : List (List (List Nat))) (d : Device) : Device × Answer :=
  let v := firstEntry values
  let e := d.setTables fun t => { t with pacing := pacingEntryOf v }
  (if d.pace.line = .stopped then e.bringIntoForce else e,
    if field v 1 < 50 then acceptedClamped 1 else accepted)

/-- A SAMPLING write whose fields are in range (R95). -/
def samplingOwn (values : List (List (List Nat))) (d : Device) : Device × Answer :=
  let e := d.setTables fun t => { t with sampling := samplingEntryOf (firstEntry values) }
  ({ e with climate := { e.climate with periodicFrom := e.time } }, accepted)

/-- A FAULT_SETTINGS write whose fields are in range (R175). -/
def faultSettingsOwn (start : Nat) (values : List (List (List Nat))) (d : Device) : Device × Answer :=
  (d.setTables fun t => { t with faults := replaceAt t.faults start (values.map faultSettingOf) }, accepted)

/-- A DIE_SETTINGS write whose fields are in range (R114). -/
def dieSettingsOwn (values : List (List (List Nat))) (d : Device) : Device × Answer :=
  (d.setTables fun t => { t with die := dieSettingsOf (firstEntry values) }, accepted)

/-- A GAUGE_SETTINGS write whose fields are in range (R166). -/
def gaugeSettingsOwn (values : List (List (List Nat))) (d : Device) : Device × Answer :=
  let g := gaugeSettingsOf (firstEntry values)
  if g.position.any fun p => decide (d.tables.length - 1 < p) then (d, tableConflict 0 0)
  else (d.setTables fun t => { t with gauge := g }, accepted)

/-- A SPREADER_SETTINGS write whose fields are in range (R136, R137). -/
def spreaderSettingsOwn (values : List (List (List Nat))) (d : Device) : Device × Answer :=
  let x := spreaderSettingsOf (firstEntry values)
  ((d.setTables fun t => { t with spreader := x }).fillIf x.emptyFill, accepted)

/-- An ACCUMULATOR_SETTINGS write whose fields are in range (R158). -/
def accSettingsOwn (values : List (List (List Nat))) (d : Device) : Device × Answer :=
  let x := accSettingsOf (firstEntry values)
  if x.returnCap < d.acc.returnCount then (d, wrongState .none)
  else ((d.setTables fun t => { t with acc := x }).accEnd false, accepted)

/-- A PROFILE write at the tunnel track (R50). -/
def profileWrite (start count : Nat) (entries : List Byte) (d : Device) : Device × Answer :=
  if count ≤ 2 then writeTable profileSpec 8 start count entries (profileOwn start) d else (d, indexRange)

/-- A TABLE_READ or TABLE_WRITE of a table that is not known, or a TABLE_WRITE of one that is not written (R191). -/
def notWritten (table : Nat) (d : Device) : Device × Answer :=
  if tableKnown table then (d, wrongState .readOnly) else (d, indexRange)

/-- TABLE_WRITE_NOT_WRITTEN (R189, R191). -/
def execTableWriteNotWritten (kind tag table : Byte) (start : Half) (count : Byte) (entries : List Byte) (s : State) :
    Host.Outcome State Fault Refusal :=
  run (fun d => d.ask (.tableWriteNotWritten kind tag table start count entries) (notWritten table.toNat)) s

/-- TABLE_WRITE_TUNNEL (R1). -/
def execTableWriteTunnel (tag : Byte) (start : Half) (count : Byte) (entries : List Byte) (s : State) :
    Host.Outcome State Fault Refusal :=
  run (fun d => d.ask (.tableWriteTunnel tag start count entries)
    (writeTable tunnelSpec 1 start.toNat count.toNat entries tunnelOwn)) s

/-- TABLE_WRITE_PROFILE (R50). -/
def execTableWriteProfile (tag : Byte) (start : Half) (count : Byte) (entries : List Byte) (s : State) :
    Host.Outcome State Fault Refusal :=
  run (fun d => d.ask (.tableWriteProfile tag start count entries)
    (profileWrite start.toNat count.toNat entries)) s

/-- TABLE_WRITE_FORMAT_MAP (R58). -/
def execTableWriteFormatMap (tag : Byte) (start : Half) (count : Byte) (entries : List Byte) (s : State) :
    Host.Outcome State Fault Refusal :=
  run (fun d => d.ask (.tableWriteFormatMap tag start count entries)
    (writeTable formatMapSpec 64 start.toNat count.toNat entries (formatMapOwn start.toNat))) s

/-- TABLE_WRITE_ZONE_LAYOUT (R89). -/
def execTableWriteZoneLayout (tag : Byte) (start : Half) (count : Byte) (entries : List Byte) (s : State) :
    Host.Outcome State Fault Refusal :=
  run (fun d => d.ask (.tableWriteZoneLayout tag start count entries)
    (zoneLayoutWrite start.toNat count.toNat entries)) s

/-- TABLE_WRITE_LANES (R149). -/
def execTableWriteLanes (tag : Byte) (start : Half) (count : Byte) (entries : List Byte) (s : State) :
    Host.Outcome State Fault Refusal :=
  run (fun d => d.ask (.tableWriteLanes tag start count entries)
    (writeTable laneSpec 4 start.toNat count.toNat entries (lanesOwn start.toNat count.toNat))) s

/-- TABLE_WRITE_DISPOSITION (R151). -/
def execTableWriteDisposition (tag : Byte) (start : Half) (count : Byte) (entries : List Byte) (s : State) :
    Host.Outcome State Fault Refusal :=
  run (fun d => d.ask (.tableWriteDisposition tag start count entries)
    (writeTable dispositionSpec 5 start.toNat count.toNat entries (dispositionOwn start.toNat))) s

/-- TABLE_WRITE_PACING (R67). -/
def execTableWritePacing (tag : Byte) (start : Half) (count : Byte) (entries : List Byte) (s : State) :
    Host.Outcome State Fault Refusal :=
  run (fun d => d.ask (.tableWritePacing tag start count entries)
    (writeTable pacingSpec 1 start.toNat count.toNat entries pacingOwn)) s

/-- TABLE_WRITE_SAMPLING (R95). -/
def execTableWriteSampling (tag : Byte) (start : Half) (count : Byte) (entries : List Byte) (s : State) :
    Host.Outcome State Fault Refusal :=
  run (fun d => d.ask (.tableWriteSampling tag start count entries)
    (writeTable samplingSpec 1 start.toNat count.toNat entries samplingOwn)) s

/-- TABLE_WRITE_FAULT_SETTINGS (R175). -/
def execTableWriteFaultSettings (tag : Byte) (start : Half) (count : Byte) (entries : List Byte) (s : State) :
    Host.Outcome State Fault Refusal :=
  run (fun d => d.ask (.tableWriteFaultSettings tag start count entries)
    (writeTable faultSpec 23 start.toNat count.toNat entries (faultSettingsOwn start.toNat))) s

/-- TABLE_WRITE_DIE_SETTINGS (R114). -/
def execTableWriteDieSettings (tag : Byte) (start : Half) (count : Byte) (entries : List Byte) (s : State) :
    Host.Outcome State Fault Refusal :=
  run (fun d => d.ask (.tableWriteDieSettings tag start count entries)
    (writeTable dieSpec 1 start.toNat count.toNat entries dieSettingsOwn)) s

/-- TABLE_WRITE_GAUGE_SETTINGS (R166). -/
def execTableWriteGaugeSettings (tag : Byte) (start : Half) (count : Byte) (entries : List Byte) (s : State) :
    Host.Outcome State Fault Refusal :=
  run (fun d => d.ask (.tableWriteGaugeSettings tag start count entries)
    (writeTable gaugeSpec 1 start.toNat count.toNat entries gaugeSettingsOwn)) s

/-- TABLE_WRITE_SPREADER_SETTINGS (R136). -/
def execTableWriteSpreaderSettings (tag : Byte) (start : Half) (count : Byte) (entries : List Byte) (s : State) :
    Host.Outcome State Fault Refusal :=
  run (fun d => d.ask (.tableWriteSpreaderSettings tag start count entries)
    (writeTable spreaderSpec 1 start.toNat count.toNat entries spreaderSettingsOwn)) s

/-- TABLE_WRITE_ACCUMULATOR_SETTINGS (R158). -/
def execTableWriteAccumulatorSettings (tag : Byte) (start : Half) (count : Byte) (entries : List Byte) (s : State) :
    Host.Outcome State Fault Refusal :=
  run (fun d => d.ask (.tableWriteAccumulatorSettings tag start count entries)
    (writeTable accSpec 1 start.toNat count.toNat entries accSettingsOwn)) s

end Sys2Proof.Machine
end

