-- ==== Sys2Proof/Machine/TableReads.lean ====
section
/-! DEFINITION. The TABLE_READ requests (R191 and the owners' rules). -/

namespace Sys2Proof.Machine

/-- A read that carries an answer and changes nothing. -/
def serveRead (answer : Device → Answer) (d : Device) : Device × Answer := (d, answer d)

/-- A read of the PROFILE table: at most two entries (R49). -/
def profileRead (start count : Nat) (d : Device) : Answer :=
  if count ≤ 2 then readTable [] Profile.bytes d.tables.profiles start count else indexRange

/-- A read of the LANE_CONTENT table (R165): the lane's declared flag, record count and reservations, then the records
from the first place on. -/
def laneContentRead (place count lane : Nat) (d : Device) : Answer :=
  if 3 < lane ∨ count = 0 then indexRange
  else
    let l := d.lane lane
    acceptedWith (readData (flag l.declared ++ u8 l.records.length ++ u8 l.reservations)
      ((named l.records place count).map Rod.bytes))

/-- TABLE_READ_TUNNEL (R1). -/
def execTableReadTunnel (tag : Byte) (start : Half) (count : Byte) (s : State) : Host.Outcome State Fault Refusal :=
  run (fun d => d.ask (.tableReadTunnel tag start count)
    (serveRead fun d => readTable [] u16 [d.tables.length] start.toNat count.toNat)) s

/-- TABLE_READ_PROFILE (R49). -/
def execTableReadProfile (tag : Byte) (start : Half) (count : Byte) (s : State) : Host.Outcome State Fault Refusal :=
  run (fun d => d.ask (.tableReadProfile tag start count)
    (serveRead (profileRead start.toNat count.toNat))) s

/-- TABLE_READ_FORMAT_MAP (R58). -/
def execTableReadFormatMap (tag : Byte) (start : Half) (count : Byte) (s : State) : Host.Outcome State Fault Refusal :=
  run (fun d => d.ask (.tableReadFormatMap tag start count)
    (serveRead fun d => readTable [] MapEntry.bytes d.tables.formatMap start.toNat count.toNat)) s

/-- TABLE_READ_ZONE_LAYOUT (R89). -/
def execTableReadZoneLayout (tag : Byte) (start : Half) (count : Byte) (s : State) : Host.Outcome State Fault Refusal :=
  run (fun d => d.ask (.tableReadZoneLayout tag start count)
    (serveRead fun d => readTable (u8 d.tables.zones.length) ZoneEntry.bytes d.tables.zones start.toNat count.toNat)) s

/-- TABLE_READ_LANES (R149). -/
def execTableReadLanes (tag : Byte) (start : Half) (count : Byte) (s : State) : Host.Outcome State Fault Refusal :=
  run (fun d => d.ask (.tableReadLanes tag start count)
    (serveRead fun d => readTable [] LaneEntry.bytes d.tables.lanes start.toNat count.toNat)) s

/-- TABLE_READ_DISPOSITION (R151). -/
def execTableReadDisposition (tag : Byte) (start : Half) (count : Byte) (s : State) : Host.Outcome State Fault Refusal :=
  run (fun d => d.ask (.tableReadDisposition tag start count)
    (serveRead fun d => readTable [] u8 d.tables.dispositions start.toNat count.toNat)) s

/-- TABLE_READ_PACING (R67). -/
def execTableReadPacing (tag : Byte) (start : Half) (count : Byte) (s : State) : Host.Outcome State Fault Refusal :=
  run (fun d => d.ask (.tableReadPacing tag start count)
    (serveRead fun d => readTable [] PacingEntry.bytes [d.tables.pacing] start.toNat count.toNat)) s

/-- TABLE_READ_SAMPLING (R95). -/
def execTableReadSampling (tag : Byte) (start : Half) (count : Byte) (s : State) : Host.Outcome State Fault Refusal :=
  run (fun d => d.ask (.tableReadSampling tag start count)
    (serveRead fun d => readTable [] SamplingEntry.bytes [d.tables.sampling] start.toNat count.toNat)) s

/-- TABLE_READ_FAULT_SETTINGS (R175). -/
def execTableReadFaultSettings (tag : Byte) (start : Half) (count : Byte) (s : State) : Host.Outcome State Fault Refusal :=
  run (fun d => d.ask (.tableReadFaultSettings tag start count)
    (serveRead fun d => readTable [] FaultSetting.bytes d.tables.faults start.toNat count.toNat)) s

/-- TABLE_READ_DIE_SETTINGS (R114). -/
def execTableReadDieSettings (tag : Byte) (start : Half) (count : Byte) (s : State) : Host.Outcome State Fault Refusal :=
  run (fun d => d.ask (.tableReadDieSettings tag start count)
    (serveRead fun d => readTable [] DieSettings.bytes [d.tables.die] start.toNat count.toNat)) s

/-- TABLE_READ_GAUGE_SETTINGS (R166). -/
def execTableReadGaugeSettings (tag : Byte) (start : Half) (count : Byte) (s : State) : Host.Outcome State Fault Refusal :=
  run (fun d => d.ask (.tableReadGaugeSettings tag start count)
    (serveRead fun d => readTable [] GaugeSettings.bytes [d.tables.gauge] start.toNat count.toNat)) s

/-- TABLE_READ_SPREADER_SETTINGS (R136). -/
def execTableReadSpreaderSettings (tag : Byte) (start : Half) (count : Byte) (s : State) : Host.Outcome State Fault Refusal :=
  run (fun d => d.ask (.tableReadSpreaderSettings tag start count)
    (serveRead fun d => readTable [] SpreaderSettings.bytes [d.tables.spreader] start.toNat count.toNat)) s

/-- TABLE_READ_ACCUMULATOR_SETTINGS (R158). -/
def execTableReadAccumulatorSettings (tag : Byte) (start : Half) (count : Byte) (s : State) : Host.Outcome State Fault Refusal :=
  run (fun d => d.ask (.tableReadAccumulatorSettings tag start count)
    (serveRead fun d => readTable [] AccSettings.bytes [d.tables.acc] start.toNat count.toNat)) s

/-- TABLE_READ_POSITION (R2, R191). -/
def execTableReadPosition (tag : Byte) (start : Half) (count : Byte) (s : State) : Host.Outcome State Fault Refusal :=
  run (fun d => d.ask (.tableReadPosition tag start count)
    (serveRead fun d => readTable [] Content.bytes d.track.positions start.toNat count.toNat)) s

/-- TABLE_READ_LANE_CONTENT (R165). -/
def execTableReadLaneContent (tag : Byte) (place : Half) (count lane : Byte) (s : State) : Host.Outcome State Fault Refusal :=
  run (fun d => d.ask (.tableReadLaneContent tag place count lane)
    (serveRead (laneContentRead place.toNat count.toNat lane.toNat))) s

/-- TABLE_READ_ZONE_STATE (R112). -/
def execTableReadZoneState (tag : Byte) (start : Half) (count : Byte) (s : State) : Host.Outcome State Fault Refusal :=
  run (fun d => d.ask (.tableReadZoneState tag start count)
    (serveRead fun d => readTable [] (zoneStateBytes d) d.zoneIndices start.toNat count.toNat)) s

/-- TABLE_READ_DIE_STATION (R116). -/
def execTableReadDieStation (tag : Byte) (start : Half) (count : Byte) (s : State) : Host.Outcome State Fault Refusal :=
  run (fun d => d.ask (.tableReadDieStation tag start count)
    (serveRead fun d => readTable [] (dieStationBytes d) [d.die.stationA, d.die.stationB] start.toNat count.toNat)) s

/-- TABLE_READ_PROFILE_STATE (R170). -/
def execTableReadProfileState (tag : Byte) (start : Half) (count : Byte) (s : State) : Host.Outcome State Fault Refusal :=
  run (fun d => d.ask (.tableReadProfileState tag start count)
    (serveRead fun d => readTable [] u16 d.gauge.factors start.toNat count.toNat)) s

/-- TABLE_READ_COUNTERS (R192). -/
def execTableReadCounters (tag : Byte) (start : Half) (count : Byte) (s : State) : Host.Outcome State Fault Refusal :=
  run (fun d => d.ask (.tableReadCounters tag start count)
    (serveRead fun d => readTable [] u32 d.counts start.toNat count.toNat)) s

end Sys2Proof.Machine
end

