-- ==== Sys2Proof/Machine/LinkPort.lean ====
section
/-! DEFINITION. The link port and the settings store (chapter 11): the receive framer, the transmitter, requests of the
link port's own, STATUS, STORE and RESTART. -/

namespace Sys2Proof.Machine

/-- The framer returns to HUNTING (R187). -/
def Device.hunt (d : Device) : Device := { d with link := { d.link with collecting := none } }

/-- The framer holds these bytes of a frame, from the length byte on (R187). -/
def Device.collect (bytes : List Byte) (d : Device) : Device := { d with link := { d.link with collecting := some bytes } }

/-- The kind, tag and body of a whole frame without its marker, if its check matches (R187). -/
def goodFrame (bytes : List Byte) : Option Frame :=
  match bytes with
  | n :: kind :: tag :: rest =>
    let body := rest.take (n.toNat - 2)
    if rest.drop (n.toNat - 2) = (crc16 (n :: kind :: tag :: body)).bytes then some ⟨kind, tag, body⟩ else none
  | [] | [_] | [_, _] => none

/-- A frame is discarded for its length or its check (R187). -/
def Device.badFrame (d : Device) : Device := d.hunt.bump .framesBad

/-- A frame is complete: a good one goes to the request queue, a bad one is counted (R187). -/
def Device.endFrame (bytes : List Byte) (d : Device) : Device :=
  match goodFrame bytes with
  | some f => d.hunt.receive f
  | none => d.badFrame

/-- The bytes of a frame that the framer has, from the length byte on, with one more (R187). -/
def Device.moreBytes (bytes : List Byte) (d : Device) : Device :=
  match bytes with
  | [] => d.collect []
  | n :: _ =>
    if n.toNat < 2 ∨ 252 < n.toNat then d.badFrame
    else if bytes.length = n.toNat + 3 then d.endFrame bytes
    else d.collect bytes

/-- The framer takes a byte (R187). -/
def Device.takeByte (d : Device) (b : Byte) : Device :=
  match d.link.collecting with
  | none => if b = 0xE7 then d.collect [] else d
  | some bytes => d.moreBytes (bytes ++ [b])

/-- The moment from which more than 5 ms have passed since the last byte of a partial frame (R187). -/
def Device.gapDeadline (d : Device) : Option Nat := d.link.collecting.map fun _ => d.link.lastByte + 6

/-- The partial frame is discarded (R187). -/
def Device.frameTimedOut (d : Device) : Device := d.hunt.bump .framesTimedOut

/-- A gap above 5 ms that these bytes end discards the partial frame (R187). -/
def Device.endGap (d : Device) : Device :=
  match d.gapDeadline with
  | some t => if t ≤ d.time then d.frameTimedOut else d
  | none => d

/-- Bytes arrive without a gap among them (R187). -/
def Device.takeBytes (bytes : List Byte) (d : Device) : Device :=
  let e := bytes.foldl Device.takeByte (if bytes = [] then d else d.endGap)
  if bytes = [] then e else { e with link := { e.link with lastByte := e.time } }

/-- Whether a frame sent is a reply whose request still holds its place (R188). -/
def TxItem.freesPlace (t : TxItem) : Bool :=
  match t with
  | .reply r => r.holds
  | .notice _ _ _ => false

/-- The frame being sent is finished; a reply's request leaves the request queue (R188, R190). -/
def Device.frameSent (d : Device) : Device :=
  match d.link.tx with
  | none => d
  | some t =>
    { d with link := { d.link with
        tx := none
        queue := if t.item.freesPlace then d.link.queue.drop 1 else d.link.queue } }

/-- A frame that names no request, or whose body is not of its kind's length, at the link port (R189). -/
def unknownRequest (kind : Byte) (d : Device) : Device × Answer :=
  (d, if kindIsRequest kind then lengthError else ⟨.unknownRequest, 0, []⟩)

/-- The link port's own items of STATUS (R193). -/
def statusLink (d : Device) : List Byte :=
  u32 d.clock ++ u8 d.link.queue.length ++ u8 d.link.notices.length ++ u16 d.link.droppedSince ++ u8 d.link.sequence

/-- The tunnel track's and the drying model's items of STATUS (R2, R19, R27). -/
def statusTrack (d : Device) : List Byte :=
  u16 (d.track.positions.countP fun c => decide (c = .unknown)) ++ flag d.track.established
    ++ u32 (if d.track.established then d.track.inventory else 0) ++ u32 d.track.spill ++ u32 d.track.updateInstant

/-- A move in flight in STATUS (R66). -/
def Move.bytes (m : Move) : List Byte :=
  u8 m.number ++ optItem u8 m.reservation ++ optItem (fun x : Disposition => u8 x.ctorIdx) m.disposition

/-- The pacing unit's items of STATUS (R66, R87). R66 and R87 order them differently; that the move in flight stands between the
move kind and the late window, and the seconds left after both, is the model's choice (log entry 17). -/
def statusPace (d : Device) : List Byte :=
  let p := d.pace
  u8 p.line.ctorIdx ++ u8 p.cause.ctorIdx ++ u8 p.pacer.ctorIdx
    ++ optItem (fun r : DeferralReason => u8 r.ctorIdx) p.reason ++ flag p.due ++ u8 p.moveNumber ++ u8 p.kind.ctorIdx
    ++ optItem Move.bytes p.inFlight ++ optItem u8 p.lateWindow
    ++ optItem (fun t => u8 (d.secondsLeft t)) (if p.pacer = .moving then p.timer else none)
    ++ u8 p.force.mode.ctorIdx ++ u16 p.force.period ++ u16 p.force.pulses ++ u8 p.force.polarity.ctorIdx
    ++ u16 (if p.force.mode = .fixed then d.watch p.pitch / 100 else p.pulses)

/-- The code of the slot state (R135). -/
def Slot.code (s : Slot) : Nat :=
  match s with
  | .none => 0
  | .loading => 1
  | .loaded _ => 2
  | .emptyStaged => 3

/-- The zone unit's and the spreader unit's items of STATUS (R112, R147). -/
def statusSpread (d : Device) : List Byte :=
  optItem (fun r : Round => u8 r.zone) d.climate.round ++ u8 d.spread.slot.code
    ++ u16 ((d.spread.slot.rod?.map Rod.id).getD 0) ++ u8 d.spread.loadNumber
    ++ optItem (fun l : Load => u8 (d.secondsLeft l.timer)) d.spread.load ++ flag d.spread.hold ++ u16 d.spread.batch
    ++ u8 d.spread.purge

/-- A lane's items of STATUS (R165), sent together, lane by lane (log entry 17). -/
def LaneRt.status (l : LaneRt) : List Byte := u8 l.records.length ++ u8 l.reservations ++ u8 l.credit

/-- The accumulator unit's items of STATUS (R165). -/
def statusAcc (d : Device) : List Byte :=
  let a := d.acc
  u8 a.stripper.ctorIdx ++ flag a.paused ++ u8 a.number ++ u16 ((a.slot.map fun s => s.rod.id).getD 0)
    ++ optItem (fun s : StripSlot => u8 s.lane) a.slot ++ optItem (fun s : StripSlot => u8 s.gate.ctorIdx) a.slot
    ++ optItem (fun t => u8 (d.secondsLeft t)) (if a.stripper = .stripping then a.timer else none)
    ++ (a.lanes.map LaneRt.status).flatten ++ u8 a.pointer ++ flag a.returnDeclared ++ u16 a.returnCount
    ++ u16 d.tables.acc.returnCap

/-- The gauge unit's and the fault log's items of STATUS (R172, R183). -/
def statusGauge (d : Device) : List Byte :=
  u16 (d.tables.gauge.position.getD 0xFFFF) ++ u8 (if d.gauge.inFlight.isSome then 1 else 0) ++ u8 d.gauge.number
    ++ u16 ((d.gauge.inFlight.map Measurement.rod).getD 0)
    ++ optItem (fun m : Measurement => u8 (d.secondsLeft m.timer)) d.gauge.inFlight
    ++ u8 (d.log.kinds.countP KindState.set) ++ flag d.stopFault.isSome ++ flag d.haltFault.isSome
    ++ flag d.log.first.isSome

/-- STATUS at the link port (R193): its own items, and every block's in the order of the chapters. -/
def statusAnswer (d : Device) : Answer :=
  acceptedWith (statusLink d ++ statusTrack d ++ statusPace d ++ statusSpread d ++ statusAcc d ++ statusGauge d)

/-- The settings store's write limit, 3 s (R195). -/
def storeLimit : Nat := 3000

/-- STORE at the settings store (R195): the write starts, and the request is served until it ends. From the first byte
written to the last, the check, the copy is unusable. -/
def store (d : Device) : Device × Option Answer :=
  ({ d with
      stored := none
      link := { d.link with storeWrite := some ⟨d.tables, d.timer storeLimit⟩ } }, none)

/-- The request being served, if one is. -/
def Device.serving (d : Device) : Option Frame :=
  (d.link.queue.find? fun h => decide (h.stage = .serving)).map Held.frame

/-- The copy of some tables with its check (R194). -/
def storedCopy (t : Tables) : StoredCopy := ⟨t, crc16 t.bytes⟩

/-- The settings store's write ends (R195): with a matching read-back within 3 s of the start it has succeeded, and in every
other case failed. -/
def Device.endStore (ok : Bool) (d : Device) : Device :=
  match d.link.storeWrite with
  | none => d
  | some w =>
    let done := ok && d.within w.timer
    let ended := { d with
      stored := if done then some (storedCopy w.tables) else none
      link := { d.link with storeWrite := none } }
    match d.serving with
    | some f => ended.reply f (if done then accepted else wrongState .storeFailed)
    | none => ended

/-- The moment at which the store's write reaches its limit. -/
def Device.storeDeadline (d : Device) : Option Nat := d.link.storeWrite.map fun w => w.timer.deadline

/-- The first operation in flight that refuses RESTART, by its case (R197). -/
def Device.restartBar (d : Device) : Option Nat :=
  if d.pace.pacer = .moving ∨ d.pace.pacer = .unresolved then some 1
  else if d.spread.slot = .loading then some 2
  else if d.acc.stripper = .stripping then some 3
  else if d.gauge.inFlight.isSome then some 4
  else if d.die.stationA.inFlight.isSome ∨ d.die.stationB.inFlight.isSome then some 5
  else if d.die.carriage = .moving then some 6
  else if d.die.press = .starting ∨ d.die.press = .stopping then some 7
  else none

/-- A reply whose request no longer holds a place. -/
def Reply.free (r : Reply) : Reply := { r with holds := false }

/-- A frame being sent whose request no longer holds a place. -/
def Transmission.free (t : Transmission) : Transmission :=
  match t.item with
  | .reply r => { t with item := .reply r.free }
  | .notice _ _ _ => t

/-- The requests replied before RESTART give up their places, since R188 leaves the queue empty but for RESTART and what
stands behind it. That their replies not yet sent are still sent, so that the reply line may for a time hold more than the
four of R190, is the model's choice (log entry 38). -/
def Device.freePlaces (d : Device) : Device :=
  { d with link := { d.link with
      queue := d.link.queue.dropWhile fun h => decide (h.stage = .answered)
      replies := d.link.replies.map Reply.free
      tx := d.link.tx.map Transmission.free } }

/-- The fault log is emptied (R174, R198). -/
def Device.emptyLog (d : Device) : Device :=
  { d with log := { kinds := d.log.kinds.map fun _ => ⟨false, 0⟩, first := none } }

/-- The notice queue and the dropped-since count are emptied (R198). -/
def Device.emptyNotices (d : Device) : Device :=
  { d with link := { d.link with notices := [], droppedSince := 0 } }

/-- What an accepted RESTART does (R198). -/
def Device.restarted (d : Device) : Device :=
  ((({ d.emptyLog with counts := d.counts.map fun _ => 0 }.emptyNotices.hunt.freePlaces).post (.stop .request)).post
    .pressStop)

/-- RESTART at the link port (R197, R198). -/
def restart (d : Device) : Device × Answer :=
  match d.restartBar with
  | some case => (d, wrongState .operationInFlight case)
  | none => (d.restarted, accepted)

/-- HOST_FRAME (R187). -/
def execHostFrame (bytes : List Byte) (s : State) : Host.Outcome State Fault Refusal :=
  run (Device.takeBytes bytes) s

/-- FRAME_GAP_TIMEOUT (R187). -/
def execFrameGapTimeout (s : State) : Host.Outcome State Fault Refusal :=
  run (fun d => expire d.gapDeadline Device.frameTimedOut d) s

/-- FRAME_SENT (R190). -/
def execFrameSent (s : State) : Host.Outcome State Fault Refusal :=
  run (fun d => expire (d.link.tx.map Transmission.done) Device.frameSent d) s

/-- UNKNOWN_REQUEST (R189). -/
def execUnknownRequest (kind tag : Byte) (body : List Byte) (s : State) : Host.Outcome State Fault Refusal :=
  run (fun d => d.request ⟨kind, tag, body⟩ fun d => ((unknownRequest kind d).1, some (unknownRequest kind d).2)) s

/-- STATUS (R193). -/
def execStatus (tag : Byte) (s : State) : Host.Outcome State Fault Refusal :=
  run (fun d => d.ask (.status tag) (serveRead statusAnswer)) s

/-- STORE (R195). -/
def execStore (tag : Byte) (s : State) : Host.Outcome State Fault Refusal :=
  run (fun d => d.request (frameOf (.store tag)) store) s

/-- STORE_WRITE_END (R195). -/
def execStoreWriteEnd (ok : Bool) (s : State) : Host.Outcome State Fault Refusal :=
  run (Device.endStore ok) s

/-- STORE_LIMIT_EXPIRY (R195). -/
def execStoreLimitExpiry (s : State) : Host.Outcome State Fault Refusal :=
  run (fun d => expire d.storeDeadline (Device.endStore false) d) s

/-- RESTART (R197, R198). -/
def execRestart (tag : Byte) (s : State) : Host.Outcome State Fault Refusal :=
  run (fun d => d.ask (.restart tag) restart) s

end Sys2Proof.Machine
end

