-- ==== Sys2Proof/Machine/Power.lean ====
section
/-! DEFINITION. POWER_UP (R194, R196): the tables load, every block takes its power-up state, and the blocks' first acts
follow. -/

namespace Sys2Proof.Machine

/-- The settings store's copy, if its check matches (R194). -/
def usable (copy : Option StoredCopy) : Option Tables :=
  match copy with
  | some c => if c.check = crc16 c.tables.bytes then some c.tables else none
  | none => none

/-- A zone's runtime state at power-up, but for its setpoints, which R93 computes from profile 0 (R91). -/
def freshZone (t : Tables) (z : Nat) : ZoneRt :=
  let p := t.profiles.getD 0 default
  { ZoneRt.reset with effTemp := p.temp.getD z 0, effHum := min 1000 (p.hum.getD z 0) }

/-- A lane at power-up: its credit is its weight (R148, R157). -/
def freshLane (e : LaneEntry) : LaneRt := ⟨false, [], 0, e.weight⟩

/-- The part with every block in its power-up state, before what R196 sets going (R2, R6, R19, R66, R91, R116, R119, R128,
R131, R135, R148, R159, R166, R174, R187, R188, R190, R192). -/
def freshDevice (t : Tables) (stored : Option StoredCopy) : Device where
  time := 0
  tables := t
  stored := stored
  track :=
    { positions := List.replicate t.length .unknown, lastId := 0, established := false, inventory := 0, spill := 0,
      updateInstant := 0, standstillFrom := 0 }
  pace :=
    { line := .stopped, cause := .none, pacer := .idle, reason := none, due := false, moveNumber := 0, kind := .paced,
      timer := none, inFlight := none, lateWindow := none,
      force := { mode := t.pacing.mode, period := t.pacing.period, pulses := t.pacing.pulses,
                 polarity := t.pacing.polarity },
      pitch := { base := 0, since := none }, pulses := 0, lastEdge := none }
  climate := { zones := (List.range 12).map (freshZone t), round := none, exchange := 0, periodicFrom := 0 }
  die :=
    { stationA := Station.reset, stationB := Station.reset, active := none, identity := none, position := none,
      carriage := .querying, target := none, carriageTimer := none, press := .stopped, pressTimer := none }
  spread := { slot := .none, loadNumber := 0, load := none, hold := false, batch := 0, purge := 0 }
  acc :=
    { lanes := t.lanes.map freshLane, pointer := 0, stripper := .idle, slot := none, number := 0, paused := false,
      timer := none, returnDeclared := false, returnCount := 0 }
  gauge := { number := 0, inFlight := none, factors := List.replicate 8 256 }
  log := { kinds := List.replicate 23 ⟨false, 0⟩, first := none }
  link :=
    { collecting := none, lastByte := 0, queue := [], replies := [], queueFull := none, notices := [],
      droppedSince := 0, sequence := 0, tx := none, storeWrite := none }
  counts := List.replicate 25 0
  mail := []
  bus := []

/-- The press drive is sent STOP at power-up, and its limit starts (R131). -/
def Device.stopDrive (d : Device) : Device := (d.send .pressStop).startPressLimit

/-- The carriage is queried, with its 2 s limit (R128). That its entry into QUERYING at power-up places no DIE_STATE notice,
which R127 leaves open, is the model's choice (log entry 14). -/
def Device.queryCarriage (d : Device) : Device :=
  { d with die := { d.die with carriage := .querying, carriageTimer := some (d.timer 2000) } }.send .carriageQuery

/-- A station takes its state from its inputs at power-up (R116). -/
def Device.seat (side : Side) (presence clamp : Bool) (d : Device) : Device :=
  let held := d.modifyStation side fun x => { x with presence := presence, clamp := clamp }
  match presence, clamp with
  | false, _ => held
  | true, false => held.modifyStation side fun x => { x with state := .seated }
  | true, true => held.startRead side

/-- CONFIG_DEFAULTED is raised if the defaults were loaded (R194). -/
def Device.raiseDefaulted (loaded : Bool) (d : Device) : Device :=
  if loaded then d else d.raise .configDefaulted {}

/-- The part after POWER_UP, from what the retained memory held (R194, R196). -/
def powered (stored : Option StoredCopy) (presenceA clampA presenceB clampB : Bool) : Device :=
  let t := usable stored
  ((((((((freshDevice (t.getD defaultTables) stored).notifyLine .powerUp).raiseDefaulted t.isSome).stopDrive).queryCarriage).seat
    .a presenceA clampA).seat .b presenceB clampB).startRound .powerUp).fill

/-- POWER_UP (R196). Only the settings store's copy outlives the loss of power, unless its content is lost too (R194). -/
def execPowerUp (lost presenceA clampA presenceB clampB : Bool) (s : State) : Host.Outcome State Fault Refusal :=
  run (fun d => powered (if lost then none else d.stored) presenceA clampA presenceB clampB) s

end Sys2Proof.Machine
end

