-- ==== Sys2Proof/Machine/Autonomy.lean ====
section
/-! DEFINITION. What the part does by itself while no command waits: it takes the oldest message handed between its blocks,
or serves the oldest request, or lets a limit that has been reached expire; and otherwise a millisecond passes (log entry
2). -/

namespace Sys2Proof.Machine

/-- The command by which a block takes a message handed to it. -/
def Mail.command (m : Mail) : Instr :=
  match m with
  | .raise kind context => .faultRaise kind context
  | .stop cause => .stopOrder cause
  | .pressStop => .pressStopOrder
  | .retry report => .attemptRetry report
  | .shiftDone late => .shiftDoneReport late
  | .tallies pairs => .talliesHanded pairs
  | .recompute profile => .setpointRecomputeOrder profile
  | .reset profile => .correctionResetOrder profile

/-- Every limit and timer of the part: the moment at which it is reached, if it counts, and the command of its expiry. -/
def Device.limits (d : Device) : List (Option Nat × Instr) :=
  [(d.link.tx.map Transmission.done, .frameSent), (d.gapDeadline, .frameGapTimeout), (d.pitchDeadline, .pitchTimerExpiry),
   (d.moveDeadline, .moveLimitExpiry), (some d.standstillDeadline, .standstillExpiry)]
    ++ (d.zoneIndices.map fun z => (d.settleDeadline z, Instr.settleTimerRunOut z))
    ++ [(d.loadDeadline, .loadLimitExpiry), (d.debounceDeadline .a, .debounceExpiry .a),
        (d.debounceDeadline .b, .debounceExpiry .b), (d.memoryDeadline .a, .memoryExchangeExpiry .a),
        (d.memoryDeadline .b, .memoryExchangeExpiry .b), (d.queryDeadline, .carriageQueryExpiry),
        (d.carriageDeadline, .carriageMoveExpiry), (d.pressDeadline, .pressAckExpiry),
        (some d.periodicDeadline, .periodicTimerExpiry), (d.readDeadline, .readLimitExpiry),
        (d.setDeadline, .setLimitExpiry), (d.gaugeDeadline, .gaugeLimitExpiry), (d.stripDeadline, .stripLimitExpiry),
        (d.storeDeadline, .storeLimitExpiry)]

/-- Whether a limit has been reached. -/
def Device.reached (d : Device) (p : Option Nat × Instr) : Bool := p.1.any fun t => decide (t ≤ d.time)

/-- The event that the part takes by itself now, if there is one. -/
def Device.ownCommand (d : Device) : Option Instr :=
  match d.mail with
  | m :: _ => some m.command
  | [] =>
    match d.nextRequest with
    | some f => some f.command
    | none => (d.limits.find? d.reached).map Prod.snd

/-- A millisecond passes. -/
def Device.tick (d : Device) : Device := { d with time := d.time + 1 }

end Sys2Proof.Machine
end

