-- ==== Sys2Proof/Machine/Dispatch.lean ====
section
/-! DEFINITION. exec: each command's one meaning. -/

namespace Sys2Proof.Machine

/-- One command's effect on everything but the queue of waiting commands. -/
def exec (i : Instr) (s : State) : Host.Outcome State Fault Refusal :=
  match i with
  | .powerUp lost presenceA clampA presenceB clampB => Sys2Proof.Machine.execPowerUp lost presenceA clampA presenceB clampB s
  | .hostFrame bytes => Sys2Proof.Machine.execHostFrame bytes s
  | .frameGapTimeout => Sys2Proof.Machine.execFrameGapTimeout s
  | .frameSent => Sys2Proof.Machine.execFrameSent s
  | .unknownRequest kind tag body => Sys2Proof.Machine.execUnknownRequest kind tag body s
  | .tableWriteNotWritten kind tag table start count entries => Sys2Proof.Machine.execTableWriteNotWritten kind tag table start count entries s
  | .tableWriteTunnel tag start count entries => Sys2Proof.Machine.execTableWriteTunnel tag start count entries s
  | .tableReadTunnel tag start count => Sys2Proof.Machine.execTableReadTunnel tag start count s
  | .tableWriteProfile tag start count entries => Sys2Proof.Machine.execTableWriteProfile tag start count entries s
  | .tableReadProfile tag start count => Sys2Proof.Machine.execTableReadProfile tag start count s
  | .tableWriteFormatMap tag start count entries => Sys2Proof.Machine.execTableWriteFormatMap tag start count entries s
  | .tableReadFormatMap tag start count => Sys2Proof.Machine.execTableReadFormatMap tag start count s
  | .tableWriteZoneLayout tag start count entries => Sys2Proof.Machine.execTableWriteZoneLayout tag start count entries s
  | .tableReadZoneLayout tag start count => Sys2Proof.Machine.execTableReadZoneLayout tag start count s
  | .tableWriteLanes tag start count entries => Sys2Proof.Machine.execTableWriteLanes tag start count entries s
  | .tableReadLanes tag start count => Sys2Proof.Machine.execTableReadLanes tag start count s
  | .tableWriteDisposition tag start count entries => Sys2Proof.Machine.execTableWriteDisposition tag start count entries s
  | .tableReadDisposition tag start count => Sys2Proof.Machine.execTableReadDisposition tag start count s
  | .tableWritePacing tag start count entries => Sys2Proof.Machine.execTableWritePacing tag start count entries s
  | .tableReadPacing tag start count => Sys2Proof.Machine.execTableReadPacing tag start count s
  | .tableWriteSampling tag start count entries => Sys2Proof.Machine.execTableWriteSampling tag start count entries s
  | .tableReadSampling tag start count => Sys2Proof.Machine.execTableReadSampling tag start count s
  | .tableWriteFaultSettings tag start count entries => Sys2Proof.Machine.execTableWriteFaultSettings tag start count entries s
  | .tableReadFaultSettings tag start count => Sys2Proof.Machine.execTableReadFaultSettings tag start count s
  | .tableWriteDieSettings tag start count entries => Sys2Proof.Machine.execTableWriteDieSettings tag start count entries s
  | .tableReadDieSettings tag start count => Sys2Proof.Machine.execTableReadDieSettings tag start count s
  | .tableWriteGaugeSettings tag start count entries => Sys2Proof.Machine.execTableWriteGaugeSettings tag start count entries s
  | .tableReadGaugeSettings tag start count => Sys2Proof.Machine.execTableReadGaugeSettings tag start count s
  | .tableWriteSpreaderSettings tag start count entries => Sys2Proof.Machine.execTableWriteSpreaderSettings tag start count entries s
  | .tableReadSpreaderSettings tag start count => Sys2Proof.Machine.execTableReadSpreaderSettings tag start count s
  | .tableWriteAccumulatorSettings tag start count entries => Sys2Proof.Machine.execTableWriteAccumulatorSettings tag start count entries s
  | .tableReadAccumulatorSettings tag start count => Sys2Proof.Machine.execTableReadAccumulatorSettings tag start count s
  | .tableReadPosition tag start count => Sys2Proof.Machine.execTableReadPosition tag start count s
  | .tableReadLaneContent tag place count lane => Sys2Proof.Machine.execTableReadLaneContent tag place count lane s
  | .tableReadZoneState tag start count => Sys2Proof.Machine.execTableReadZoneState tag start count s
  | .tableReadDieStation tag start count => Sys2Proof.Machine.execTableReadDieStation tag start count s
  | .tableReadProfileState tag start count => Sys2Proof.Machine.execTableReadProfileState tag start count s
  | .tableReadCounters tag start count => Sys2Proof.Machine.execTableReadCounters tag start count s
  | .lineRun tag => Sys2Proof.Machine.execLineRun tag s
  | .lineStop tag => Sys2Proof.Machine.execLineStop tag s
  | .stopOrder cause => Sys2Proof.Machine.execStopOrder cause s
  | .jog tag => Sys2Proof.Machine.execJog tag s
  | .paceRestart tag => Sys2Proof.Machine.execPaceRestart tag s
  | .moveResolveMoved tag => Sys2Proof.Machine.execMoveResolveMoved tag s
  | .moveResolveNotMoved tag outcome => Sys2Proof.Machine.execMoveResolveNotMoved tag outcome s
  | .pitchTimerExpiry => Sys2Proof.Machine.execPitchTimerExpiry s
  | .pressScrewPulse edge wait => Sys2Proof.Machine.execPressScrewPulse edge wait s
  | .attemptRetry report => Sys2Proof.Machine.execAttemptRetry report s
  | .moveDone number seen => Sys2Proof.Machine.execMoveDone number seen s
  | .moveLimitExpiry => Sys2Proof.Machine.execMoveLimitExpiry s
  | .shiftDoneReport late => Sys2Proof.Machine.execShiftDoneReport late s
  | .standstillExpiry => Sys2Proof.Machine.execStandstillExpiry s
  | .talliesHanded pairs => Sys2Proof.Machine.execTalliesHanded pairs s
  | .rodFind tag id => Sys2Proof.Machine.execRodFind tag id s
  | .rodMark tag id => Sys2Proof.Machine.execRodMark tag id s
  | .trackForget tag => Sys2Proof.Machine.execTrackForget tag s
  | .loadDone number => Sys2Proof.Machine.execLoadDone number s
  | .loadFailed number => Sys2Proof.Machine.execLoadFailed number s
  | .loadLimitExpiry => Sys2Proof.Machine.execLoadLimitExpiry s
  | .batchNew tag => Sys2Proof.Machine.execBatchNew tag s
  | .presenceEvent side on => Sys2Proof.Machine.execPresenceEvent side on s
  | .debounceExpiry side => Sys2Proof.Machine.execDebounceExpiry side s
  | .clampEvent side closed => Sys2Proof.Machine.execClampEvent side closed s
  | .buttonEvent side => Sys2Proof.Machine.execButtonEvent side s
  | .memoryReadReply side number bytes => Sys2Proof.Machine.execMemoryReadReply side number bytes s
  | .memoryExchangeExpiry side => Sys2Proof.Machine.execMemoryExchangeExpiry side s
  | .memoryWriteReply side number ok => Sys2Proof.Machine.execMemoryWriteReply side number ok s
  | .dieRelease tag station => Sys2Proof.Machine.execDieRelease tag station s
  | .dieKeep tag station => Sys2Proof.Machine.execDieKeep tag station s
  | .dieReread tag station => Sys2Proof.Machine.execDieReread tag station s
  | .dieSwap tag station => Sys2Proof.Machine.execDieSwap tag station s
  | .carriageQueryAnswer station => Sys2Proof.Machine.execCarriageQueryAnswer station s
  | .carriageQueryExpiry => Sys2Proof.Machine.execCarriageQueryExpiry s
  | .carriageDone station => Sys2Proof.Machine.execCarriageDone station s
  | .carriageMoveExpiry => Sys2Proof.Machine.execCarriageMoveExpiry s
  | .pressStart tag => Sys2Proof.Machine.execPressStart tag s
  | .pressStop tag => Sys2Proof.Machine.execPressStop tag s
  | .pressStopOrder => Sys2Proof.Machine.execPressStopOrder s
  | .pressStarted => Sys2Proof.Machine.execPressStarted s
  | .pressHalted => Sys2Proof.Machine.execPressHalted s
  | .pressFaultReport => Sys2Proof.Machine.execPressFaultReport s
  | .pressAckExpiry => Sys2Proof.Machine.execPressAckExpiry s
  | .periodicTimerExpiry => Sys2Proof.Machine.execPeriodicTimerExpiry s
  | .sampleNow tag => Sys2Proof.Machine.execSampleNow tag s
  | .readReply number reply => Sys2Proof.Machine.execReadReply number reply s
  | .readLimitExpiry => Sys2Proof.Machine.execReadLimitExpiry s
  | .setReply number ok => Sys2Proof.Machine.execSetReply number ok s
  | .setLimitExpiry => Sys2Proof.Machine.execSetLimitExpiry s
  | .settleTimerRunOut zone => Sys2Proof.Machine.execSettleTimerRunOut zone s
  | .setpointRecomputeOrder profile => Sys2Proof.Machine.execSetpointRecomputeOrder profile s
  | .zoneAccept tag zone => Sys2Proof.Machine.execZoneAccept tag zone s
  | .gaugeResult number rod value => Sys2Proof.Machine.execGaugeResult number rod value s
  | .gaugeFailReport number => Sys2Proof.Machine.execGaugeFailReport number s
  | .gaugeLimitExpiry => Sys2Proof.Machine.execGaugeLimitExpiry s
  | .correctionResetOrder profile => Sys2Proof.Machine.execCorrectionResetOrder profile s
  | .stripDone number => Sys2Proof.Machine.execStripDone number s
  | .stripFaultReport number => Sys2Proof.Machine.execStripFaultReport number s
  | .stripLimitExpiry => Sys2Proof.Machine.execStripLimitExpiry s
  | .stripRetry tag => Sys2Proof.Machine.execStripRetry tag s
  | .stripDiscard tag => Sys2Proof.Machine.execStripDiscard tag s
  | .stripPause tag => Sys2Proof.Machine.execStripPause tag s
  | .stripResume tag => Sys2Proof.Machine.execStripResume tag s
  | .laneDeclare tag lane count => Sys2Proof.Machine.execLaneDeclare tag lane count s
  | .returnDeclare tag count => Sys2Proof.Machine.execReturnDeclare tag count s
  | .rodAdd tag count => Sys2Proof.Machine.execRodAdd tag count s
  | .rodRemoveReturn tag count => Sys2Proof.Machine.execRodRemoveReturn tag count s
  | .rodRemoveSpill tag place count => Sys2Proof.Machine.execRodRemoveSpill tag place count s
  | .faultRaise kind context => Sys2Proof.Machine.execFaultRaise kind context s
  | .faultRead tag => Sys2Proof.Machine.execFaultRead tag s
  | .faultClear tag kinds => Sys2Proof.Machine.execFaultClear tag kinds s
  | .status tag => Sys2Proof.Machine.execStatus tag s
  | .store tag => Sys2Proof.Machine.execStore tag s
  | .storeWriteEnd ok => Sys2Proof.Machine.execStoreWriteEnd ok s
  | .storeLimitExpiry => Sys2Proof.Machine.execStoreLimitExpiry s
  | .restart tag => Sys2Proof.Machine.execRestart tag s

end Sys2Proof.Machine
end

