-- ==== Sys2Proof/Machine/Step.lean ====
section
/-! DEFINITION. One step of the machine: the command at the front of the queue, or what the part does by itself. -/

namespace Sys2Proof.Machine

/-- What the part does while no command waits: its own next event, or a millisecond (log entry 2). -/
def idle (s : State) : Host.Outcome State Fault Refusal :=
  match s.dev.ownCommand with
  | some i => exec i s
  | none => .next { s with dev := s.dev.tick }

/-- One step: exec on the command at the front of the queue, with the queue's rest. -/
def step (s : State) : Host.Outcome State Fault Refusal :=
  match s.pending with
  | i :: rest => exec i { s with pending := rest }
  | [] => idle s

/-- The state with the command that a table word spells put at the front of its queue. -/
def State.withFetchWord (s : State) (nbits w : Nat) : State :=
  match decodeTableWord nbits w with
  | some i => { s with pending := i :: s.pending }
  | none => s

end Sys2Proof.Machine
end

