-- ==== Sys2Proof/Safety.lean ====
section
/-! DEFINITION. What a safe part is: the laws of the device that the chapters state, as predicates of a state, with what
must be known beside each law for every step to keep it. -/

namespace Sys2Proof.Machine

/-- The law on correction factors (R170): eight factors, each within 128..512. -/
def FactorLaw (d : Device) : Prop :=
  d.gauge.factors.length = 8 ∧ ∀ c ∈ d.gauge.factors, 128 ≤ c ∧ c ≤ 512

/-- The sizes of the host link's queues (R188, R190): at most 4 requests, 32 notices, and a dropped-since count that stops
at 65535. -/
def QueueLaw (d : Device) : Prop :=
  d.link.queue.length ≤ 4 ∧ d.link.notices.length ≤ 32 ∧ d.link.droppedSince ≤ 65535

/-- A reply that waits or is being sent and whose request still holds its place (R188). -/
def Device.holding (d : Device) : Nat :=
  d.link.replies.countP Reply.holds
    + (match d.link.tx with
      | some t => if t.item.freesPlace then 1 else 0
      | none => 0)

/-- The link port serves one request at a time (R188): behind the oldest request not yet replied every other one waits, each
reply that still holds a place has its request at the head of the queue, a QUEUE_FULL answer holds none, and a settings
store's write in flight has its STORE being served (R195). -/
def ServeLaw (d : Device) : Prop :=
  (∀ h ∈ (d.link.queue.dropWhile fun h => decide (h.stage = .answered)).drop 1, h.stage = .waiting)
    ∧ d.holding ≤ (d.link.queue.takeWhile fun h => decide (h.stage = .answered)).length
    ∧ (∀ r, d.link.queueFull = some r → r.holds = false)
    ∧ (d.link.storeWrite.isSome → d.serving.isSome)

/-- The law on the return buffer (R158), and that an undeclared buffer holds no rods (R155). -/
def ReturnLaw (d : Device) : Prop :=
  d.acc.returnCount ≤ d.tables.acc.returnCap ∧ (d.acc.returnDeclared = false → d.acc.returnCount = 0)

/-- What a station's exchange, debounce timer and flag say of its state (R116 to R118, R120 to R122), and that a READY or
ACTIVE station holds a record that was read with a correct check and fields in their ranges (R115, R118, R119). -/
def StationLaw (x : Station) : Prop :=
  (x.debounce.isSome → x.state = .settling)
    ∧ (x.asked = true → x.state = .ready ∨ x.state = .active)
    ∧ (∀ e, x.inFlight = some e → (e.write = none ∧ x.state = .reading) ∨ (e.write.isSome ∧ x.state = .writing))
    ∧ (x.state = .ready ∨ x.state = .active → ∃ c w, x.copy = some c ∧ x.wearAtRead = some w
        ∧ c.check = DieRecord.sum { c with wear := w } ∧ c.format ≤ 63 ∧ 1 ≤ c.holes ∧ c.holes ≤ 2000)

/-- The law on dies (R119) and the law on the press (R131): an ACTIVE station is the one the pointer names and stands in the
extrusion position, with the carriage IDLE; the press is RUNNING or STARTING only while a station is ACTIVE. -/
def DieLaw (d : Device) : Prop :=
  StationLaw d.die.stationA ∧ StationLaw d.die.stationB
    ∧ (∀ side, (d.station side).state = .active ↔ d.die.active = some side)
    ∧ (∀ side, d.die.active = some side → d.die.carriage = .idle ∧ d.die.position = some side)
    ∧ (d.die.press = .starting ∨ d.die.press = .running → d.die.active.isSome)

/-- Lane settings that R149 lets stand: four lanes whose capacities sum to at most 240. -/
def LanesValid (lanes : List LaneEntry) : Prop := lanes.length = 4 ∧ (lanes.map LaneEntry.capacity).sum ≤ 240

/-- The tables that the settings store holds or writes keep the lanes' law too (R194, R195). -/
def StoreLanesValid (d : Device) : Prop :=
  (∀ c, d.stored = some c → LanesValid c.tables.lanes) ∧ (∀ w, d.link.storeWrite = some w → LanesValid w.tables.lanes)

/-- The law on lanes (R148): in each lane the records and reservations fit the capacity, a lane not declared has neither
(R152, R154), and the capacities sum to at most 240. Beside it stands what keeps it: a move in flight with a reservation has
one in its lane. -/
def LaneLaw (d : Device) : Prop :=
  d.acc.lanes.length = 4 ∧ LanesValid d.tables.lanes ∧ StoreLanesValid d
    ∧ (∀ l, l < 4 → (d.lane l).load ≤ (d.laneEntry l).capacity ∧ ((d.lane l).declared = false → (d.lane l).load = 0))
    ∧ (∀ m l, d.pace.inFlight = some m → m.reservation = some l → l < 4 ∧ 1 ≤ (d.lane l).reservations)

/-- A tunnel length and a zone layout that R1 and R89 let stand: 32 to 1536 positions, covered in order by 1 to 12 zones,
each with its governing position inside its span. -/
def LayoutValid (t : Tables) : Prop :=
  32 ≤ t.length ∧ t.length ≤ 1536 ∧ 1 ≤ t.zones.length ∧ t.zones.length ≤ 12
    ∧ (t.zones.map ZoneEntry.last).Pairwise (· < ·) ∧ t.zones.getLast?.map ZoneEntry.last = some (t.length - 1)
    ∧ (∀ e, t.zones[0]? = some e → e.governing ≤ e.last)
    ∧ ∀ (z : Nat) (e f : ZoneEntry), t.zones[z]? = some e → t.zones[z + 1]? = some f →
      e.last + 1 ≤ f.governing ∧ f.governing ≤ f.last

/-- The law on the layout (R88), and that the track has L positions (R2). Beside it stands what keeps it: the tables that the
settings store holds or writes are valid too (R194, R195). -/
def TunnelLaw (d : Device) : Prop :=
  LayoutValid d.tables ∧ d.track.positions.length = d.tables.length
    ∧ (∀ c, d.stored = some c → LayoutValid c.tables) ∧ (∀ w, d.link.storeWrite = some w → LayoutValid w.tables)

/-- The law on trim (R91): each zone of the layout has its trim within its maximum, and each of the 12 an effective humidity
setpoint within 0..1000. -/
def TrimLaw (d : Device) : Prop :=
  (∀ z e, d.tables.zones[z]? = some e → (d.zone z).trim ≤ e.trimMax) ∧ ∀ x ∈ d.climate.zones, x.effHum ≤ 1000

/-- While the inventory is established, no position is UNKNOWN and every store is declared (R16, R19). -/
def Accounted (d : Device) : Prop :=
  (∀ c ∈ d.track.positions, c ≠ .unknown) ∧ (∀ l ∈ d.acc.lanes, l.declared) ∧ d.acc.returnDeclared

/-- The law on inventory (R17), in 32 bits: while the inventory is established, the count is the sum of the rods in every
place. Beside it stands what keeps it: a load in flight belongs to a slot LOADING, an IDLE stripper has no record, and
there are four lanes, to one of which a reservation of the move in flight belongs. -/
def InventoryLaw (d : Device) : Prop :=
  d.acc.lanes.length = 4
    ∧ (d.spread.load.isSome → d.spread.slot = .loading)
    ∧ (d.acc.stripper = .idle → d.acc.slot = none)
    ∧ (∀ m l, d.pace.inFlight = some m → m.reservation = some l → l < 4)
    ∧ (d.track.established → Accounted d ∧ d.track.inventory % size32 = d.rodSum % size32)

/-- The law on rod ids (R6): no two live records share an id, and each id lies within 1..65535. -/
def IdLaw (d : Device) : Prop := d.liveIds.Nodup ∧ ∀ id ∈ d.liveIds, 1 ≤ id ∧ id ≤ 65535

/-- The law on chain moves (R66): a move is in flight while the pacer is UNRESOLVED or the move timer counts, and at no time
but MOVING and UNRESOLVED; while the line is STOPPED the pacer is IDLE, MOVING or UNRESOLVED and no due is pending; while it is RUNNING the
pacer is not IDLE. -/
def MoveLaw (d : Device) : Prop :=
  (d.pace.pacer = .unresolved → d.pace.inFlight.isSome)
    ∧ (d.pace.timer.isSome → d.pace.inFlight.isSome)
    ∧ (d.pace.inFlight.isSome → d.pace.pacer = .moving ∨ d.pace.pacer = .unresolved)
    ∧ (d.pace.line = .stopped → d.pace.pacer ≠ .waiting ∧ d.pace.pacer ≠ .deferred ∧ d.pace.due = false)
    ∧ (d.pace.line = .running → d.pace.pacer ≠ .idle)
    ∧ (d.pace.pacer = .deferred ↔ d.pace.reason.isSome)

/-- Every number of a list lies in a range. -/
def Within (lo hi : Nat) (xs : List Nat) : Prop := ∀ x ∈ xs, lo ≤ x ∧ x ≤ hi

/-- A profile entry whose every field but the clamped ones lies in its range (R46, R51, R52); a setpoint is any two-byte
value. -/
def Profile.Writable (p : Profile) : Prop :=
  p.m0 ≤ 4000 ∧ p.target ≤ 4000 ∧ p.tolerance ≤ 500 ∧ (p.eq.length = 11 ∧ Within 0 4000 p.eq)
    ∧ (p.kbase.length = 12 ∧ Within 0 8191 p.kbase) ∧ p.gain ≤ 64 ∧ p.ac ≤ 500 ∧ (1 ≤ p.weight ∧ p.weight ≤ 16)
    ∧ (1 ≤ p.limit ∧ p.limit ≤ 65535) ∧ (p.temp.length = 12 ∧ Within 0 65535 p.temp)
    ∧ (p.hum.length = 12 ∧ Within 0 65535 p.hum) ∧ p.lane ≤ 3 ∧ p.band ≤ 1000 ∧ p.purge ≤ 255

/-- A zone entry whose every field lies in its range (R88). -/
def ZoneEntry.Writable (z : ZoneEntry) : Prop :=
  z.last ≤ 1535 ∧ z.governing ≤ 1535 ∧ z.relax ≤ 1000 ∧ z.trimStep ≤ 50 ∧ z.trimMax ≤ 100 ∧ z.tempBand ≤ 200
    ∧ z.humBand ≤ 300 ∧ z.settle ≤ 1800

/-- A lane entry whose every field lies in its range (R148, R149). -/
def LaneEntry.Writable (l : LaneEntry) : Prop := l.capacity ≤ 240 ∧ 1 ≤ l.weight ∧ l.weight ≤ 127

/-- A request whose turn it is: the link port may serve it now (R188). -/
def Turn (i : Instr) (s : State) : Prop := i.frame?.isSome ∧ s.dev.nextRequest = i.frame?

/-- The state after a request has been served: the part as its owner left it, with the one reply (R189). -/
def Served (i : Instr) (s : State) (d : Device) (a : Answer) : State :=
  { s with dev := (d.reply (frameOf i) a).pump }

/-- The state after an event: the part as the event left it, with a free transmitter begun on its next frame (R190). -/
def After (s : State) (d : Device) : State := { s with dev := d.pump }

/-- A request was answered with this status (R189): its reply waits in the reply line or is being sent. -/
def Replied (i : Instr) (status : Status) (d : Device) : Prop :=
  ∃ r : Reply, r.kind = (frameOf i).kind ∧ r.tag = (frameOf i).tag ∧ r.status = status
    ∧ (r ∈ d.link.replies ∨ d.link.tx.map Transmission.item = some (.reply r))

/-- What an update of `dt` seconds makes of a record at a position of zone `z`, and its excess (R28 to R39): the climate is
the zone's valid reading, or its effective setpoints, which give ESTIMATED (R29); the rate takes the correction factor in
force (R32), 256 while its reset is on its way to the gauge unit (log entry 33). -/
def Dried (d : Device) (dt z : Nat) (r : Rod) : Rod × Nat :=
  match r.product with
  | none => (r, 0)
  | some x =>
    let p := d.tables.profiles.getD x.profile default
    let zone := d.tables.zones.getD z default
    let rt := d.climate.zones.getD z default
    let seen := if rt.valid then rt.reading else none
    let temp := min 1200 ((seen.map Reading.temp).getD rt.effTemp)
    let hum := min 1000 ((seen.map Reading.hum).getD rt.effHum)
    let correction := if Mail.reset x.profile ∈ d.mail then 256 else d.gauge.factors.getD x.profile 0
    let rate := p.kbase.getD z 0 * tempFactor p.gain temp / 1024 * correction / 256
    let loss := moistureLoss x.moisture (equilibrium p.eq hum) rate dt
    let excess := loss - p.ac * dt / 60
    let added := min 65535 (x.stress + excess * p.weight)
    let stress := if zone.type = .relax then added - zone.relax * dt / 60 else added
    ({ r with
        product := some { x with
          moisture := x.moisture - loss
          stress := stress
          dwell := x.dwell.modify z fun n => min 4294967295 (n + dt) }
        flags := { r.flags with
          estimated := r.flags.estimated || seen.isNone
          stressed := r.flags.stressed || decide (p.limit ≤ stress) } }, excess)

/-- The tunnel after an update (R26, R27): the standstill timer restarts; with an interval above 0, capped at 600 s, the update
instant becomes now, each LOADED record is brought forward in the zone of its position, ROD_STRESSED is raised for each
that gains STRESSED, in order of position (R38), and the tallies of every zone are handed (R40). -/
def Updated (d : Device) : Device :=
  let dt := min 600 ((d.clock + 4294967296 - d.track.updateInstant) % 4294967296)
  let dried (k : Nat) (r : Rod) : Rod × Nat := Dried d dt (zoneOf d.tables.zones k) r
  let content (p : Content × Nat) : Content :=
    match p.1 with
    | .loaded r => .loaded (dried p.2 r).1
    | c => c
  let gains (p : Content × Nat) : Option Mail := p.1.rod?.bind fun r =>
    if (dried p.2 r).1.flags.stressed ∧ r.flags.stressed = false then some (.raise .rodStressed { rod := some r.id }) else none
  let stands (z : Nat) (p : Content × Nat) : Bool := p.1.rod?.isSome && decide (zoneOf d.tables.zones p.2 = z)
  let exceeds (p : Content × Nat) : Bool := p.1.rod?.any fun r => decide (0 < (dried p.2 r).2)
  let placed := d.track.positions.zipIdx
  let restarted : Track := { d.track with standstillFrom := d.time / 1000 }
  if dt = 0 then { d with track := restarted }
  else { d with
    track := { restarted with updateInstant := d.clock, positions := placed.map content }
    mail := d.mail ++ placed.filterMap gains ++ [.tallies ((List.range d.tables.zones.length).map fun z =>
      (placed.countP (stands z), placed.countP fun p => stands z p && exceeds p))] }

/-- The exit check (R41): the rod at the last position gains UNDERDRY, and ROD_UNDERDRY is raised, where its moisture is
above its profile's target plus tolerance and it does not hold UNDERDRY yet. -/
def ExitChecked (d : Device) : Device :=
  match d.track.positions.getLast? with
  | some (.loaded r) =>
    let moist := r.product.any fun x =>
      let p := d.tables.profiles.getD x.profile default
      decide (p.target + p.tolerance < x.moisture)
    if moist = true ∧ r.flags.underdry = false then { d with
      track := { d.track with positions := d.track.positions.dropLast ++
        [.loaded { r with flags := { r.flags with underdry := true } }] }
      mail := d.mail ++ [.raise .rodUnderdry { rod := some r.id }] }
    else d
  | _ => d

/-- An advance attempt up to its move (R73, R74, R138): the chain hold is set, and the update and the exit check stand. -/
def Attempted (d : Device) : Device := ExitChecked (Updated { d with spread := { d.spread with hold := true } })

/-- A chain move begins (R76): the next number, sent as ADVANCE, with the limit in force, the late window closed, and its
kind counted. -/
def Begun (kind : MoveKind) (reservation : Option Nat) (disposition : Option Disposition) (e : Device) : Device :=
  let n := (e.pace.moveNumber + 1) % 256
  { e.bump (if kind = .paced then .advancesPaced else .jogs) with
    pace := { e.pace with
      moveNumber := n
      inFlight := some ⟨n, reservation, disposition⟩
      kind := kind
      timer := some ⟨e.time, e.tables.pacing.moveLimit * 1000⟩
      pacer := .moving
      reason := none
      lateWindow := none }
    bus := e.bus ++ [.advance n] }

/-- A lane holds one more reservation (R152). -/
def Reserved (l : Nat) (e : Device) : Device :=
  { e with acc := { e.acc with lanes := e.acc.lanes.modify l fun x => { x with reservations := x.reservations + 1 } } }

/-- An attempt's chain hold is cleared, and the spreader unit decides its slot (R137, R138). -/
def Cleared (e : Device) : Device := Device.fill { e with spread := { e.spread with hold := false } }

/-- What an advance attempt of kind PACED makes of `d` (R73 to R76): with the slot LOADING it defers, without an update.
Otherwise, after the update and the exit check, an exit position without a record starts a move without a reservation, a
record whose lane has room starts one with a reservation there, and a record whose lane has none defers, with the chain
hold cleared (R138). The whole part is said in each case, so that the update and the exit check stand and all else is as
it was. -/
def PacedAttempt (d t : Device) : Prop :=
  let e := Attempted d
  (d.spread.slot = .loading → t = { d.bump .deferrals with
      pace := { d.pace with pacer := .deferred, reason := some .loadInFlight } })
    ∧ (d.spread.slot ≠ .loading → e.exitContent.rod? = none → t = Begun .paced none none e)
    ∧ ∀ r, d.spread.slot ≠ .loading → e.exitContent = .loaded r →
      let disp := dispositionOf r
      let l := e.laneFor disp r
      (e.hasRoom l = true → t = Begun .paced (some l) (some disp) (Reserved l e))
      ∧ (e.hasRoom l = false → t = Cleared { e.bump .deferrals with
          pace := { d.pace with pacer := .deferred, reason := some .laneFull } })

/-- The tunnel has shifted by one from `d` to `e` (R7, R144): every content moved one on, the staged slot's content entered
position 0, and the chain hold is clear. -/
def Shifted (d e : Device) : Prop :=
  e.track.positions = d.spread.slot.delivery d.tables.zones.length :: d.track.positions.dropLast ∧ e.spread.hold = false

/-- The tunnel moved on by one, before its exit is reconciled (R7, R144): every content is one position on, the staged slot's
content stands at position 0, the chain hold is clear, and the spreader unit has decided its slot. That the decision comes
before the reconciliation is log entry 12. -/
def Delivered (d : Device) : Device :=
  let entry := d.spread.slot.delivery d.tables.zones.length
  let moved : Device := { d with
    track := { d.track with positions := entry :: d.track.positions.dropLast }
    spread := { d.spread with slot := d.spread.slot.afterDelivery, hold := false } }
  Device.fill (if entry = .gap then moved.bump .gapsEntered else moved)

/-- One rod goes to spill (R18), a count in 32 bits that wraps (log entry 37). -/
def Spilled (e : Device) : Device := { e with track := { e.track with spill := (e.track.spill + 1) % 4294967296 } }

/-- A record is closed now: a ROD_OUT notice carries it (R5). -/
def Closed (outcome : CloseOutcome) (r : Rod) (e : Device) : Device :=
  e.notify (.rodOut { r with close := some ⟨outcome, e.clock⟩ })

/-- An empty rod of a move's shift goes to the return buffer, which may let the spreader unit fill its slot, or to spill with
RETURN_OVERFLOW (R14, R163). -/
def ToReturn (m : Move) (e : Device) : Device :=
  if e.acc.returnDeclared = true ∧ e.acc.returnCount < e.tables.acc.returnCap then
    Device.fill { e with acc := { e.acc with returnCount := e.acc.returnCount + 1 } }
  else { Spilled e with mail := e.mail ++ [.raise .returnOverflow { move := some m.number }] }

/-- A record is the new tail of a lane, taking `reserved` reservations with it, and the lane's count of rods exited rises
(R153). -/
def Joined (reserved l : Nat) (r : Rod) (e : Device) : Device :=
  { e.bump (exitedCount l) with acc := { e.acc with lanes := e.acc.lanes.modify l fun x =>
      { x with records := x.records ++ [r], reservations := x.reservations - reserved } } }

/-- A record without a reservation goes to a lane that has room, or to spill, closed DISCARDED; its exit part says which
(R11, R15). -/
def LaneOrSpill (disp : Disposition) (l : Nat) (r : Rod) (e : Device) : Device :=
  if e.hasRoom l then Joined 0 l { r with exit := some ⟨e.clock, disp, .lane l⟩ } e
  else Closed .discarded { r with exit := some ⟨e.clock, disp, .spill⟩ } (Spilled e)

/-- A rod seen with strands where no record was held: a new UNTRACKED record under a new id, born now (R15). -/
def NewUntracked (e : Device) : Device :=
  LaneOrSpill .untracked (e.tables.dispositions.getD 1 0) ⟨e.freeId, e.clock, {}, none, none, none, none⟩
    { e with track := { e.track with lastId := e.freeId } }

/-- The reservation of a move is released (R11). -/
def Released (m : Move) (e : Device) : Device :=
  match m.reservation with
  | some l => { e with acc := { e.acc with lanes := e.acc.lanes.modify l fun x =>
      { x with reservations := x.reservations - 1 } } }
  | none => e

/-- The inventory count rises by `n` in 32 bits, wrapping, while the inventory is established (R17, log entry 37). -/
def Counted (n : Nat) (e : Device) : Device :=
  if e.track.established then { e with track := { e.track with inventory := (e.track.inventory + n) % 4294967296 } }
  else e

/-- TRACK_MISMATCH is raised for a move's shift (R10). -/
def Mismatched (m : Move) (rod : Nat) (e : Device) : Device :=
  { e with mail := e.mail ++ [.raise .trackMismatch { move := some m.number, rod := some rod }] }

/-- The test of R16 at the end of a shift or of an accepted declaration: while the inventory is not established, with no
position UNKNOWN, every lane declared and the return buffer declared it becomes established, the count is the rods of every
place (in 32 bits, log entry 37), and a LINE_STATE notice reports both. -/
def Established (e : Device) : Device :=
  let rods := e.track.positions.countP (fun c => c.rod?.isSome || decide (c = .empty))
    + (e.acc.lanes.map fun l => l.records.length).sum + (if e.acc.slot = none then 0 else 1)
    + (if e.spread.slot = .none then 0 else 1) + e.acc.returnCount + e.track.spill
  let count := rods % 4294967296
  if e.track.established = false ∧ (∀ c ∈ e.track.positions, c ≠ .unknown) ∧ (∀ l ∈ e.acc.lanes, l.declared = true)
      ∧ e.acc.returnDeclared = true then
    { e with track := { e.track with established := true, inventory := count } }.notify
      (.lineState .inventoryEstablished e.pace.line e.pace.cause e.pace.pacer e.pace.moveNumber true count)
  else e

end Sys2Proof.Machine
end

