-- ==== Sys2Proof/Certificates/Slice0/Obligations.lean ====
section
/-! DEFINITION. The statements for the provers. `Turn i s` says that the link port may serve request `i` now, which a
request command then does (log entry 3), `Served` is the state after it has been served with one reply, and `After` the
state after an event. -/

open Sys2Proof Sys2Proof.Machine

/-- A step with a command waiting runs the command at the front with the queue's rest. A step with none (log entry 2)
is the part's own, each event run as its command is: the oldest message between its blocks is taken; with none, the
request in turn is served; with none, the first limit that has been reached expires; with none, a millisecond passes.
That messages between blocks wait in one list, oldest first, is log entry 10. -/
def Obligations.StepRunsFrontCommand : Prop :=
  (∀ (c : Instr) (rest : List Instr) (d : Device), step ⟨d, c :: rest⟩ = exec c ⟨d, rest⟩)
    ∧ (∀ (d : Device) (m : Mail) (ms : List Mail), d.mail = m :: ms → step ⟨d, []⟩ = exec m.command ⟨d, []⟩)
    ∧ (∀ (d : Device) (f : Frame), d.mail = [] → d.nextRequest = some f → step ⟨d, []⟩ = exec f.command ⟨d, []⟩)
    ∧ (∀ (d : Device) (before : List (Option Nat × Instr)) (due : Nat) (c : Instr) (later : List (Option Nat × Instr)),
      d.mail = [] → d.nextRequest = none → d.limits = before ++ (some due, c) :: later → due ≤ d.time →
      (∀ q ∈ before, ∀ t, q.1 = some t → d.time < t) → step ⟨d, []⟩ = exec c ⟨d, []⟩)
    ∧ (∀ (d : Device) (c : Instr), d.ownCommand = some c → step ⟨d, []⟩ = exec c ⟨d, []⟩)
    ∧ (∀ d : Device, d.ownCommand = none → step ⟨d, []⟩ = .next ⟨{ d with time := d.time + 1 }, []⟩)
    ∧ ∀ d : Device, d.mail = [] → d.nextRequest = none → (∀ q ∈ d.limits, ∀ t, q.1 = some t → d.time < t) →
      step ⟨d, []⟩ = .next ⟨{ d with time := d.time + 1 }, []⟩

/-- No command of the table stops: in every state, also one that no run reaches (log entry 28), exec answers a next state,
and the commands that wait are as they were, also over POWER_UP (log entry 32). That a command takes effect is not said
here, but in the statement of its family. -/
def Obligations.EveryCommandAnswersANextState : Prop :=
  ∀ (c : Instr) (s : State), ∃ t, exec c s = .next t ∧ t.pending = s.pending

/-- What the rules give the part at reset, block by block (R2, R19, R63, R66, R91, R128, R131, R135, R148, R159, R166, R174,
R188, R192, R196). The model's choice (log entry 1) are the two stations' inputs at reset, and that the settings store was
never written: the default tables, what is set from them, and the raise of CONFIG_DEFAULTED (R194) rest on it. -/
def Obligations.ResetState : Prop :=
  let d := State.reset.dev
  d.time = 0 ∧ d.tables = defaultTables ∧ d.track.positions = List.replicate 480 Content.unknown
    ∧ d.track.established = false ∧ d.track.spill = 0 ∧ d.liveRods = []
    ∧ d.pace.line = .stopped ∧ d.pace.cause = .none ∧ d.pace.pacer = .idle ∧ d.pace.moveNumber = 0
    ∧ (∀ z, z < 12 → (d.zone z).profile = 0 ∧ (d.zone z).trim = 0 ∧ (d.zone z).effTemp = 700 ∧ (d.zone z).effHum = 750
        ∧ (d.zone z).valid = false ∧ (d.zone z).identity = none ∧ (d.zone z).settling = true)
    ∧ d.die.active = none ∧ d.die.position = none ∧ d.die.carriage = .querying ∧ d.die.press = .stopped
    ∧ d.spread.slot = .none ∧ d.spread.batch = 0 ∧ d.spread.purge = 0
    ∧ (∀ l, l < 4 → (d.lane l).declared = false ∧ (d.lane l).records = [] ∧ (d.lane l).credit = (d.laneEntry l).weight)
    ∧ d.acc.stripper = .idle ∧ d.acc.returnDeclared = false ∧ d.acc.returnCount = 0
    ∧ d.gauge.inFlight = none ∧ d.gauge.factors = List.replicate 8 256
    ∧ (∀ k ∈ allKinds, d.kindState k = ⟨false, 0⟩) ∧ d.log.first = none
    ∧ d.link.queue = [] ∧ d.link.collecting = none ∧ d.counts = List.replicate 25 0
    ∧ d.bus = [.pressStop, .carriageQuery, .zoneRead 0 1] ∧ d.mail = [.raise .configDefaulted {}]

/-- POWER_UP (R116, R194, R196). Without a usable copy (lost, never written, or with a check that does not match) and with
no die in a station, the part is as at reset (log entry 1), with the defaults and CONFIG_DEFAULTED raised; a copy whose
check matches is loaded whole and CONFIG_DEFAULTED is not raised. A copy that is not lost is left as it was. With either,
a station without a die is EMPTY, one with its clamp open SEATED, and one with its clamp closed starts a read, station A
first (log entry 29). The commands that wait are kept (log entry 32). The copy is held as its tables (log entry 9). -/
def Obligations.PowerUpLoadsOneSource : Prop :=
  ∀ (lost pa ca pb cb : Bool) (s : State),
    let kept := if lost then none else s.dev.stored
    let unusable := ∀ c, kept = some c → c.check ≠ crc16 c.tables.bytes
    let i := Instr.powerUp lost pa ca pb cb
    let seated (present clamped : Bool) : Station := { Station.reset with
      presence := present
      clamp := clamped
      state := if present then if clamped then .reading else .seated else .empty
      exchange := if present && clamped then 1 else 0
      inFlight := if present && clamped then some ⟨none, 1, ⟨0, 500⟩⟩ else none }
    (unusable → pa = false → ca = false → pb = false → cb = false →
      exec i s = .next ⟨{ Device.reset with stored := kept }, s.pending⟩)
    ∧ (∃ t, exec i s = .next t ∧ t.dev.stored = kept ∧ t.dev.time = 0 ∧ t.dev.liveRods = [] ∧ t.dev.pace.line = .stopped
      ∧ t.dev.die.stationA = seated pa ca ∧ t.dev.die.stationB = seated pb cb ∧ t.dev.die.active = none
      ∧ t.dev.bus = [.pressStop, .carriageQuery] ++ (if pa && ca then [.memoryRead .a 1] else [])
          ++ (if pb && cb then [.memoryRead .b 1] else []) ++ [.zoneRead 0 1]
      ∧ t.dev.log.first = none ∧ t.dev.acc.returnDeclared = false ∧ t.dev.gauge.factors = List.replicate 8 256
      ∧ t.dev.track.positions = List.replicate t.dev.tables.length Content.unknown ∧ t.pending = s.pending
      ∧ (unusable → t.dev.tables = defaultTables ∧ t.dev.mail = [.raise .configDefaulted {}])
      ∧ ∀ c, kept = some c → c.check = crc16 c.tables.bytes → t.dev.tables = c.tables ∧ t.dev.mail = [])

/-- Decode of encode (R199): for every well-formed request, the frame section 11.6 gives it spells that request again, with
every operand at every value. A MOVE_RESOLVE or ROD_REMOVE whose byte names neither choice spells the second of its two
rows (log entry 30). -/
def Obligations.RequestCodingRoundTrip : Prop :=
  ∀ (i : Instr) (f : Frame), WellFormed i = true → i.frame? = some f → f.command = i

/-- Encode of decode: whatever good frame arrives, the command it spells is the one whose frame it is, so that the
link port serves the very request that was sent. A frame whose entries do not have their length spells a command too
(log entry 30). -/
def Obligations.ServedCommandKeepsItsFrame : Prop :=
  ∀ f : Frame, f.command.frame? = some f

/-- The bytes of a frame of any kind, tag and body of up to 250 bytes, taken by a HUNTING framer, or by a COLLECTING
one that holds the frame's first bytes (R187, R188): with its own check it is a good frame, which joins the tail of a
request queue with fewer than 4, or is answered QUEUE_FULL if no such answer waits, and is counted but discarded if
one does; with any other check it is counted as bad and discarded. A HUNTING framer discards bytes that are no marker;
a frame's first bytes are collected; a length outside 2..252 ends the frame at once, counted as bad; and a byte that
comes more than 5 ms after the last of a partial frame is taken as a HUNTING byte, the partial frame being counted and
discarded. The receipt of a frame takes no time (log entry 3), and the gap is in whole milliseconds (log entry 15).
That a QUEUE_FULL answer waits only until the transmitter takes it, so that one being sent does not keep the next
frame from being answered, is log entry 18. -/
def Obligations.HostFrameTaken : Prop :=
  ∀ (f : Frame) (bytes : List Byte) (s : State), f.body.length ≤ 250 →
    let d := s.dev
    let i := Instr.hostFrame bytes
    let inner := u8 (f.body.length + 2) ++ [f.kind, f.tag] ++ f.body
    let intime := d.time < d.link.lastByte + 6
    let completes (whole : List Byte) : Prop := (d.link.collecting = none ∧ bytes = 0xE7 :: whole)
      ∨ ∃ held, d.link.collecting = some held ∧ intime ∧ bytes ≠ [] ∧ held ++ bytes = whole
    let taken (e : Device) : Prop := exec i s = .next (After s { e with link := { e.link with lastByte := d.time } })
    let hunting (e : Device) : Device := { e with link := { e.link with collecting := none } }
    let good := hunting (d.bump .framesGood)
    let bad := hunting (d.bump .framesBad)
    (completes (inner ++ (crc16 inner).bytes) →
      (d.link.queue.length < 4 →
        taken { good with link := { good.link with queue := d.link.queue ++ [⟨f, .waiting⟩] } })
      ∧ (4 ≤ d.link.queue.length → d.link.queueFull = none →
        taken { good with link := { good.link with queueFull := some ⟨f.kind, f.tag, .queueFull, 0, [], false⟩ } })
      ∧ (4 ≤ d.link.queue.length → d.link.queueFull.isSome → taken good))
    ∧ (∀ check : Half, check ≠ crc16 inner → completes (inner ++ check.bytes) → taken bad)
    ∧ (d.link.collecting = none → bytes ≠ [] → 0xE7 ∉ bytes → taken d)
    ∧ (∀ part rest, d.link.collecting = none → bytes = 0xE7 :: part → rest ≠ [] → part ++ rest = inner ++ (crc16 inner).bytes →
      taken { d with link := { d.link with collecting := some part } })
    ∧ (∀ n : Byte, n.toNat < 2 ∨ 252 < n.toNat →
      (d.link.collecting = none ∧ bytes = [0xE7, n]) ∨ (d.link.collecting = some [] ∧ intime ∧ bytes = [n]) → taken bad)
    ∧ (∀ held, d.link.collecting = some held → d.link.lastByte + 6 ≤ d.time → bytes ≠ [] →
      exec i s = exec i { s with dev := hunting (d.bump .framesTimedOut) })

/-- A partial frame is discarded and counted when the gap has passed 5 ms (R187). A frame being sent is finished at
its end; a reply's request then leaves the request queue, and the end of a QUEUE_FULL answer, of a reply whose request
holds no place any more, or of a notice leaves the queue as it is (R188, R190). An expiry moves the time forward to
its moment, if that is not past (log entry 4). The gap in whole milliseconds and the time a frame takes on the line
are log entries 15 and 5. That a reply outlives the place of its request over a RESTART is log entry 38. -/
def Obligations.FramerAndTransmitterEvents : Prop :=
  (∀ (s : State) (bytes : List Byte), s.dev.link.collecting = some bytes →
      exec .frameGapTimeout s = .next (After s { s.dev.bump .framesTimedOut with
        time := max s.dev.time (s.dev.link.lastByte + 6)
        link := { s.dev.link with collecting := none } }))
    ∧ (∀ (s : State) (r : Reply) (start : Nat), s.dev.link.tx = some ⟨.reply r, start⟩ →
      exec .frameSent s = .next (After s { s.dev with
        time := max s.dev.time (start + (TxItem.reply r).airtime)
        link := { s.dev.link with
          tx := none, queue := if r.holds then s.dev.link.queue.drop 1 else s.dev.link.queue } }))
    ∧ ∀ (s : State) (n : Notice) (sequence dropped start : Nat),
      s.dev.link.tx = some ⟨.notice n sequence dropped, start⟩ →
      exec .frameSent s = .next (After s { s.dev with
        time := max s.dev.time (start + (TxItem.notice n sequence dropped).airtime)
        link := { s.dev.link with tx := none } })

/-- Requests that reach no owner (R189, R191): a kind that names no request is answered UNKNOWN_REQUEST, a request of
a wrong body length LENGTH_ERROR, a table number not in R191 INDEX_RANGE, a write of a read-only table WRONG_STATE
with reason READ_ONLY. STATUS and FAULT_READ answer ACCEPTED in every state with the items their rules list (R183,
R193). None of these changes anything else. The coding of items that section 11.6 leaves open is log entry 17. The
rounding of the seconds left in STATUS is a free value (log entry 7), and a request of a wrong body length is spelled
as a request of no row (log entry 30). -/
def Obligations.PlainRequestsAnswered : Prop :=
  (∀ (kind tag : Byte) (body : List Byte) (s : State), WellFormed (.unknownRequest kind tag body) = true →
      Turn (.unknownRequest kind tag body) s →
      exec (.unknownRequest kind tag body) s = .next (Served (.unknownRequest kind tag body) s s.dev
        (if 1 ≤ kind.toNat ∧ kind.toNat ≤ 32 then ⟨.lengthError, 0, []⟩ else ⟨.unknownRequest, 0, []⟩)))
    ∧ (∀ (kind tag table : Byte) (start : Half) (count : Byte) (entries : List Byte) (s : State),
      WellFormed (.tableWriteNotWritten kind tag table start count entries) = true →
      Turn (.tableWriteNotWritten kind tag table start count entries) s →
      exec (.tableWriteNotWritten kind tag table start count entries) s =
        .next (Served (.tableWriteNotWritten kind tag table start count entries) s s.dev
          (if 16 ≤ table.toNat ∧ table.toNat ≤ 21 then wrongState .readOnly else indexRange)))
    ∧ (∀ (tag : Byte) (s : State), Turn (.status tag) s →
      exec (.status tag) s = .next (Served (.status tag) s s.dev (acceptedWith
        (u32 s.dev.clock ++ u8 s.dev.link.queue.length ++ u8 s.dev.link.notices.length ++ u16 s.dev.link.droppedSince
          ++ u8 s.dev.link.sequence ++ statusTrack s.dev ++ statusPace s.dev ++ statusSpread s.dev ++ statusAcc s.dev
          ++ statusGauge s.dev))))
    ∧ ∀ (tag : Byte) (s : State), Turn (.faultRead tag) s →
      exec (.faultRead tag) s = .next (Served (.faultRead tag) s s.dev (acceptedWith
        ((allKinds.map fun k => flag (s.dev.kindState k).set ++ u8 (s.dev.kindState k).count
            ++ (s.dev.faultSetting k).bytes).flatten
          ++ optItem FirstFault.bytes s.dev.log.first ++ testBytes s.dev.stopFault ++ testBytes s.dev.haltFault)))

/-- STORE (R195) takes the tables as they stand and is served until its write ends, the copy being unusable meanwhile.
At the end a matching read-back within 3 s leaves a copy of those tables whose check matches, answered ACCEPTED; an
error, a later end or the 3 s limit leaves no usable copy, answered STORE_FAILED. No table in use changes. The moment of
an expiry is log entry 4, and that of an end that comes as the 3 s are reached log entry 34. The copy is held as its
tables (log entry 9). -/
def Obligations.StoreWritesTheCopy : Prop :=
  (∀ (tag : Byte) (s : State), Turn (.store tag) s →
      exec (.store tag) s = .next (After s { s.dev with
        stored := none
        link := { s.dev.link with
          storeWrite := some ⟨s.dev.tables, ⟨s.dev.time, 3000⟩⟩
          queue := setStage .serving s.dev.link.queue } }))
    ∧ (∀ (f : Frame) (w : StoreWrite) (s : State), s.dev.link.storeWrite = some w → s.dev.serving = some f →
      (s.dev.time ≤ w.timer.start + w.timer.limit →
        exec (.storeWriteEnd true) s = .next (After s (Device.reply f accepted { s.dev with
          stored := some ⟨w.tables, crc16 w.tables.bytes⟩
          link := { s.dev.link with storeWrite := none } })))
      ∧ (w.timer.start + w.timer.limit < s.dev.time →
        exec (.storeWriteEnd true) s = .next (After s (Device.reply f (wrongState .storeFailed) { s.dev with
          stored := none
          link := { s.dev.link with storeWrite := none } })))
      ∧ exec (.storeWriteEnd false) s = .next (After s (Device.reply f (wrongState .storeFailed) { s.dev with
        stored := none
        link := { s.dev.link with storeWrite := none } }))
      ∧ exec .storeLimitExpiry s = .next (After s (Device.reply f (wrongState .storeFailed) { s.dev with
        time := max s.dev.time (w.timer.start + w.timer.limit)
        stored := none
        link := { s.dev.link with storeWrite := none } })))

/-- RESTART is refused with OPERATION_IN_FLIGHT and the first case that holds, and a refused RESTART changes nothing (R197). A
STORE is never in flight when RESTART is served. -/
def Obligations.RestartRefusedInFlight : Prop :=
  ∀ (tag : Byte) (s : State), Turn (.restart tag) s →
    let d := s.dev
    let refused (case : Nat) : Prop :=
      exec (.restart tag) s = .next (Served (.restart tag) s d ⟨.wrongState, detailOf 15 case, []⟩)
    let c1 := d.pace.pacer = .moving ∨ d.pace.pacer = .unresolved
    let c2 := d.spread.slot = .loading
    let c3 := d.acc.stripper = .stripping
    let c4 := d.gauge.inFlight.isSome = true
    let c5 := d.die.stationA.inFlight.isSome = true ∨ d.die.stationB.inFlight.isSome = true
    let c6 := d.die.carriage = .moving
    let c7 := d.die.press = .starting ∨ d.die.press = .stopping
    (c1 → refused 1) ∧ (¬c1 → c2 → refused 2) ∧ (¬c1 → ¬c2 → c3 → refused 3) ∧ (¬c1 → ¬c2 → ¬c3 → c4 → refused 4)
      ∧ (¬c1 → ¬c2 → ¬c3 → ¬c4 → c5 → refused 5) ∧ (¬c1 → ¬c2 → ¬c3 → ¬c4 → ¬c5 → c6 → refused 6)
      ∧ (¬c1 → ¬c2 → ¬c3 → ¬c4 → ¬c5 → ¬c6 → c7 → refused 7) ∧ (ServeLaw d → d.link.storeWrite = none)

/-- An accepted RESTART (R198): the fault log, the counts, the notice queue and the dropped-since count are emptied, the
framer returns to HUNTING, a stop order and a press stop order are handed, and the reply is ACCEPTED. The track, the
zones, the stations, the spreader, the accumulator, the gauge, the tables, the stored copy and the clock are kept. Its
stop orders wait to be taken (log entry 16). -/
def Obligations.RestartAccepted : Prop :=
  ∀ (tag : Byte) (s : State), Turn (.restart tag) s → s.dev.restartBar = none →
    ∃ t, exec (.restart tag) s = .next t ∧ (∀ k ∈ t.dev.log.kinds, k = ⟨false, 0⟩) ∧ t.dev.log.first = none
      ∧ (∀ n ∈ t.dev.counts, n = 0) ∧ t.dev.link.notices = [] ∧ t.dev.link.droppedSince = 0
      ∧ t.dev.link.collecting = none ∧ t.dev.mail = s.dev.mail ++ [.stop .request, .pressStop]
      ∧ Replied (.restart tag) .accepted t.dev
      ∧ t.dev.track = s.dev.track ∧ t.dev.pace = s.dev.pace ∧ t.dev.climate = s.dev.climate ∧ t.dev.die = s.dev.die
      ∧ t.dev.spread = s.dev.spread ∧ t.dev.acc = s.dev.acc ∧ t.dev.gauge = s.dev.gauge ∧ t.dev.tables = s.dev.tables
      ∧ t.dev.stored = s.dev.stored ∧ t.dev.time = s.dev.time ∧ t.dev.link.sequence = s.dev.link.sequence
      ∧ t.dev.bus = s.dev.bus ∧ t.pending = s.pending

/-- A write of one of the tables with one entry, with every field in its range, replaces the entry (R67, R68, R95, R114,
R136, R158, R166): a period below 50 is held as 50 and answered ACCEPTED_CLAMPED; pacing settings come into force at
once while the line is STOPPED; a SAMPLING write restarts the periodic timer; empty fill written ON makes a fill
decision (R137), which draws a rod of the return buffer and stages it empty, or starts its load while the press is RUNNING
with a station ACTIVE (R139). Empty fill written ON is log entry 26. -/
def Obligations.SingleEntryTableWrites : Prop :=
  ∀ (tag : Byte) (s : State),
    (∀ x : DieSettings, 10 ≤ x.debounce → x.debounce ≤ 2560 → 5 ≤ x.carriageLimit → x.carriageLimit ≤ 120 →
      let i := Instr.tableWriteDieSettings tag 0 1 x.bytes
      Turn i s → exec i s = .next (Served i s { s.dev with tables := { s.dev.tables with die := x } } accepted))
    ∧ (∀ x : SamplingEntry, 5 ≤ x.period → x.period ≤ 600 →
      let i := Instr.tableWriteSampling tag 0 1 x.bytes
      Turn i s → exec i s = .next (Served i s { s.dev with
        tables := { s.dev.tables with sampling := x }
        climate := { s.dev.climate with periodicFrom := s.dev.time } } accepted))
    ∧ (∀ x : PacingEntry, x.period ≤ 36000 → 1 ≤ x.pulses → x.pulses ≤ 65535 → 2 ≤ x.moveLimit → x.moveLimit ≤ 60 →
      let i := Instr.tableWritePacing tag 0 1 x.bytes
      let d := { s.dev with tables := { s.dev.tables with pacing := { x with period := max 50 x.period } } }
      Turn i s → exec i s = .next (Served i s
        (if s.dev.pace.line = .stopped then
          { d with pace := { d.pace with force := ⟨x.mode, max 50 x.period, x.pulses, x.polarity⟩ } }
         else d)
        (if x.period < 50 then acceptedClamped 1 else accepted)))
    ∧ (∀ x : SpreaderSettings, 1 ≤ x.loadLimit → x.loadLimit ≤ 30 →
      let i := Instr.tableWriteSpreaderSettings tag 0 1 x.bytes
      let d := { s.dev with tables := { s.dev.tables with spreader := x } }
      let fills := x.emptyFill = true ∧ d.spread.slot = .none ∧ d.spread.hold = false ∧ 0 < d.acc.returnCount
      let extruding := d.die.press = .running ∧ d.die.active.isSome
      let n := (d.spread.loadNumber + 1) % 256
      let drawn := { d.acc with returnCount := d.acc.returnCount - 1 }
      Turn i s →
        (¬fills → exec i s = .next (Served i s d accepted))
        ∧ (fills → ¬extruding →
          exec i s = .next (Served i s { d with acc := drawn, spread := { d.spread with slot := .emptyStaged } } accepted))
        ∧ ∀ who, fills → extruding → d.die.identity = some who → exec i s = .next (Served i s { d with
            acc := drawn
            spread := { d.spread with slot := .loading, loadNumber := n, load := some ⟨n, ⟨d.time, x.loadLimit * 1000⟩, who⟩ }
            bus := d.bus ++ [.load n] } accepted))
    ∧ (∀ x : GaugeSettings, 1 ≤ x.limit → x.limit ≤ 60 →
      (∀ p, x.position = some p → p ≤ 1535 ∧ p ≤ s.dev.tables.length - 1) →
      let i := Instr.tableWriteGaugeSettings tag 0 1 x.bytes
      Turn i s → exec i s = .next (Served i s { s.dev with tables := { s.dev.tables with gauge := x } } accepted))
    ∧ ∀ x : AccSettings, 2 ≤ x.stripLimit → x.stripLimit ≤ 60 → x.returnCap ≤ 1023 → s.dev.acc.returnCount ≤ x.returnCap →
      let i := Instr.tableWriteAccumulatorSettings tag 0 1 x.bytes
      Turn i s → exec i s = .next (Served i s
        (Device.accEnd false { s.dev with tables := { s.dev.tables with acc := x } }) accepted)

/-- A write of FORMAT_MAP or FAULT_SETTINGS entries that exist, with values that name a choice, replaces the named entries
together and changes nothing else (R58, R175). -/
def Obligations.MapAndFaultSettingsWrites : Prop :=
  (∀ (tag : Byte) (start : Half) (es : List MapEntry) (s : State), es ≠ [] → start.toNat + es.length ≤ 64 →
      (∀ e ∈ es, e.profile ≤ 7) →
      let i := Instr.tableWriteFormatMap tag start (BitVec.ofNat 8 es.length) (es.map MapEntry.bytes).flatten
      Turn i s → exec i s = .next (Served i s { s.dev with tables := { s.dev.tables with
        formatMap := s.dev.tables.formatMap.take start.toNat ++ es
          ++ s.dev.tables.formatMap.drop (start.toNat + es.length) } } accepted))
    ∧ ∀ (tag : Byte) (start : Half) (es : List FaultSetting) (s : State), es ≠ [] → start.toNat + es.length ≤ 23 →
      let i := Instr.tableWriteFaultSettings tag start (BitVec.ofNat 8 es.length) (es.map FaultSetting.bytes).flatten
      Turn i s → exec i s = .next (Served i s { s.dev with tables := { s.dev.tables with
        faults := s.dev.tables.faults.take start.toNat ++ es ++ s.dev.tables.faults.drop (start.toNat + es.length) } }
        accepted)

/-- A PROFILE write of one or two entries that pass R50's checks replaces them, with setpoints above 1200 and 1000 and an Ac
of 0 held clamped and counted (R51), and hands the gauge unit and the zone unit one order each for every entry named, in
index order (R53). Until the gauge unit takes its order, an update dries by 256 already (R43, log entry 33). -/
def Obligations.ProfileWriteReplacesAndOrders : Prop :=
  ∀ (tag : Byte) (start : Half) (es : List Profile) (s : State), es ≠ [] → es.length ≤ 2 → start.toNat + es.length ≤ 8 →
    (∀ p ∈ es, p.Writable ∧ (s.dev.laneEntry p.lane).capacity ≠ 0) →
    let i := Instr.tableWriteProfile tag start (BitVec.ofNat 8 es.length) (es.map Profile.bytes).flatten
    let held (p : Profile) : Profile :=
      { p with ac := max 1 p.ac, temp := p.temp.map (min 1200), hum := p.hum.map (min 1000) }
    let clamps := (es.map fun p => p.temp.countP (fun x => decide (1200 < x)) + p.hum.countP (fun x => decide (1000 < x))
      + if p.ac = 0 then 1 else 0).sum
    let d := { s.dev with
      tables := { s.dev.tables with
        profiles := s.dev.tables.profiles.take start.toNat ++ es.map held
          ++ s.dev.tables.profiles.drop (start.toNat + es.length) }
      mail := s.dev.mail ++ ((List.range' start.toNat es.length).map fun p => [Mail.reset p, Mail.recompute p]).flatten }
    Turn i s → exec i s = .next (Served i s d (if clamps = 0 then accepted else acceptedClamped clamps))
      ∧ ∀ p, start.toNat ≤ p → p < start.toNat + es.length → Device.correction d p = 256

/-- A TUNNEL write that meets no condition of R1's table: every position is UNKNOWN, the new end lies above the zone before
the last one, and at or above the last governing position and the gauge position. L and the end of the last zone change
together. -/
def Obligations.TunnelWriteMovesTheEnd : Prop :=
  ∀ (tag : Byte) (length : Nat) (first : List ZoneEntry) (z : ZoneEntry) (s : State), 32 ≤ length → length ≤ 1536 →
    (∀ c ∈ s.dev.track.positions, c = .unknown) → s.dev.tables.zones = first ++ [z] →
    (∀ y, first.getLast? = some y → y.last < length - 1) → z.governing ≤ length - 1 →
    (∀ p, s.dev.tables.gauge.position = some p → p ≤ length - 1) →
    let i := Instr.tableWriteTunnel tag 0 1 (u16 length)
    Turn i s → exec i s = .next (Served i s { s.dev with
      tables := { s.dev.tables with length := length, zones := first ++ [{ z with last := length - 1 }] }
      track := { s.dev.track with positions := List.replicate length .unknown } } accepted)

/-- An accepted ZONE_LAYOUT write of either shape (R89, R90, R107): the layout is replaced; a zone carried has its
monitors IN; a zone added or changed in structure has trim 0, fresh setpoints and a settle that starts now; a trim
above its new maximum is lowered with its setpoint; every other item of every zone, and every other block, is kept.
The settle timers of indices above Z are log entry 24. The settle timers run in whole seconds of the clock (log entry
6). -/
def Obligations.ZoneLayoutWriteRelaysZones : Prop :=
  ∀ (tag : Byte) (start : Half) (es zs : List ZoneEntry) (s : State), es.length ≤ 16 →
    (∀ e ∈ es, e.Writable) → newLayout s.dev.tables.zones start.toNat es = some zs →
    (structural s.dev.tables.zones zs = false ∨ s.dev.anyLoaded = false) → layoutConflict zs s.dev.tables.length = none →
    s.dev.climate.zones.length = 12 → zs.length ≤ 12 →
    let i := Instr.tableWriteZoneLayout tag start (BitVec.ofNat 8 es.length) (es.map ZoneEntry.bytes).flatten
    Turn i s → ∃ t, exec i s = .next t ∧ t.dev.tables = { s.dev.tables with zones := zs }
      ∧ t.dev.climate.round = s.dev.climate.round ∧ t.dev.climate.exchange = s.dev.climate.exchange
      ∧ t.dev.climate.periodicFrom = s.dev.climate.periodicFrom
      ∧ t.dev.track = s.dev.track ∧ t.dev.pace = s.dev.pace ∧ t.dev.die = s.dev.die ∧ t.dev.spread = s.dev.spread
      ∧ t.dev.acc = s.dev.acc ∧ t.dev.gauge = s.dev.gauge ∧ t.dev.log = s.dev.log ∧ t.dev.counts = s.dev.counts
      ∧ t.dev.mail = s.dev.mail ∧ t.dev.bus = s.dev.bus ∧ t.dev.stored = s.dev.stored ∧ t.dev.time = s.dev.time
      ∧ t.pending = s.pending
      ∧ (∀ z, zs.length ≤ z → t.dev.zone z = { s.dev.zone z with settleFrom := (t.dev.zone z).settleFrom })
      ∧ ∀ (z : Nat) (e : ZoneEntry), zs[z]? = some e →
        let x := s.dev.zone z
        let y := t.dev.zone z
        let carried := start.toNat ≤ z ∧ z < start.toNat + es.length
        let changed := ∀ o, s.dev.tables.zones[z]? = some o → structureDiffers o e = true
        let p := s.dev.profile x.profile
        y = { x with
            trim := y.trim, effTemp := y.effTemp, effHum := y.effHum, tempOut := y.tempOut, humOut := y.humOut
            settleFrom := y.settleFrom }
          ∧ (carried → y.tempOut = false ∧ y.humOut = false)
          ∧ (¬carried → y.tempOut = x.tempOut ∧ y.humOut = x.humOut)
          ∧ (changed → y.trim = 0 ∧ y.effTemp = p.temp.getD z 0 ∧ y.effHum = min 1000 (p.hum.getD z 0)
              ∧ t.dev.settleLeft z = e.settle)
          ∧ (¬changed → carried → e.trimMax < x.trim →
              y.trim = e.trimMax ∧ y.effHum = min 1000 (p.hum.getD z 0 + e.trimMax))
          ∧ (¬changed → ¬(carried ∧ e.trimMax < x.trim) →
              y.trim = x.trim ∧ y.effTemp = x.effTemp ∧ y.effHum = x.effHum)
          ∧ (¬changed → t.dev.settleLeft z =
              if s.dev.settleLeft z = 0 then 0 else x.settleFrom.getD 0 + e.settle - s.dev.sec)

/-- A LANES write that meets no refusal of R149 replaces the named lanes and, if it raises a capacity, reports a free place;
a DISPOSITION write of lanes that can hold a rod replaces the named entries (R149, R151). The arbiter may grant at the end
of either event (R156). -/
def Obligations.LaneTableWrites : Prop :=
  (∀ (tag : Byte) (start : Half) (es : List LaneEntry) (s : State), es ≠ [] → start.toNat + es.length ≤ 4 →
      (∀ e ∈ es, e.Writable) →
      let lanes := s.dev.tables.lanes.take start.toNat ++ es ++ s.dev.tables.lanes.drop (start.toNat + es.length)
      (∀ l, l < 4 → (s.dev.lane l).records.length + (s.dev.lane l).reservations ≤ (lanes.getD l default).capacity) →
      (lanes.map LaneEntry.capacity).sum ≤ 240 →
      (∀ l, l < 4 → (lanes.getD l default).capacity = 0 →
        (∀ p ∈ s.dev.tables.profiles, p.lane ≠ l) ∧ ∀ x ∈ s.dev.tables.dispositions, x ≠ l) →
      let i := Instr.tableWriteLanes tag start (BitVec.ofNat 8 es.length) (es.map LaneEntry.bytes).flatten
      Turn i s → exec i s = .next (Served i s
        (Device.accEnd (raisesCapacity s.dev.tables.lanes lanes)
          { s.dev with tables := { s.dev.tables with lanes := lanes } }) accepted))
    ∧ ∀ (tag : Byte) (start : Half) (ls : List Nat) (s : State), ls ≠ [] → start.toNat + ls.length ≤ 5 →
      (∀ l ∈ ls, l ≤ 3 ∧ (s.dev.laneEntry l).capacity ≠ 0) →
      let i := Instr.tableWriteDisposition tag start (BitVec.ofNat 8 ls.length) (ls.map u8).flatten
      Turn i s → exec i s = .next (Served i s
        (Device.accEnd false { s.dev with tables := { s.dev.tables with
          dispositions := s.dev.tables.dispositions.take start.toNat ++ ls
            ++ s.dev.tables.dispositions.drop (start.toNat + ls.length) } }) accepted)

/-- Every TABLE_WRITE served gives one reply, and one that is not answered ACCEPTED or ACCEPTED_CLAMPED changes nothing
(R189 and the owners' rules). -/
def Obligations.RefusedTableWriteChangesNothing : Prop :=
  ∀ (i : Instr) (s : State), i.frame?.map Frame.kind = some 0x02 → WellFormed i = true → Turn i s →
    ∃ d a, exec i s = .next (Served i s d a)
      ∧ (a.status ≠ .accepted → a.status ≠ .acceptedClamped → d = s.dev)

/-- Every TABLE_READ changes nothing; it carries the entries named as they stand, as many as fit, or is refused with
INDEX_RANGE unless its count is at least 1 and the entries named exist (R1, R2, R49, R58, R67, R89, R95, R112, R114,
R116, R136, R149, R151, R158, R166, R170, R175, R191, R192). A LANE_CONTENT read gives the lane's flag, record count
and reservations and the records from the first place on (R165). As many as fit means: with the reply's four bytes the
data fit a body of 250 bytes, and with one entry more they would not (R191, R199). The coding of items that section
11.6 leaves open is log entry 17, and so is the place of the number of entries carried, before the Z of ZONE_LAYOUT
and the lane's items of LANE_CONTENT. The rounding of seconds left is a free value (log entry 7), and the check that a
DIE_STATION entry shows is that of the record read (log entry 36). -/
def Obligations.TableReadsCarryEntries : Prop :=
  (∀ (tag : Byte) (start : Half) (count lane : Byte) (s : State),
      let d := s.dev
      let reads (i : Instr) (before : List Byte) (entries : List (List Byte)) : Prop :=
        Turn i s → exec i s = .next (Served i s d
          (if 1 ≤ count.toNat ∧ start.toNat + count.toNat ≤ entries.length then
            acceptedWith (readData before ((entries.drop start.toNat).take count.toNat))
           else indexRange))
      reads (.tableReadTunnel tag start count) [] [u16 d.tables.length]
        ∧ (count.toNat ≤ 2 → reads (.tableReadProfile tag start count) [] (d.tables.profiles.map Profile.bytes))
        ∧ (2 < count.toNat → Turn (.tableReadProfile tag start count) s →
          exec (.tableReadProfile tag start count) s = .next (Served (.tableReadProfile tag start count) s d indexRange))
        ∧ reads (.tableReadFormatMap tag start count) [] (d.tables.formatMap.map MapEntry.bytes)
        ∧ reads (.tableReadZoneLayout tag start count) (u8 d.tables.zones.length) (d.tables.zones.map ZoneEntry.bytes)
        ∧ reads (.tableReadLanes tag start count) [] (d.tables.lanes.map LaneEntry.bytes)
        ∧ reads (.tableReadDisposition tag start count) [] (d.tables.dispositions.map u8)
        ∧ reads (.tableReadPacing tag start count) [] [d.tables.pacing.bytes]
        ∧ reads (.tableReadSampling tag start count) [] [d.tables.sampling.bytes]
        ∧ reads (.tableReadFaultSettings tag start count) [] (d.tables.faults.map FaultSetting.bytes)
        ∧ reads (.tableReadDieSettings tag start count) [] [d.tables.die.bytes]
        ∧ reads (.tableReadGaugeSettings tag start count) [] [d.tables.gauge.bytes]
        ∧ reads (.tableReadSpreaderSettings tag start count) [] [d.tables.spreader.bytes]
        ∧ reads (.tableReadAccumulatorSettings tag start count) [] [d.tables.acc.bytes]
        ∧ reads (.tableReadPosition tag start count) [] (d.track.positions.map Content.bytes)
        ∧ reads (.tableReadZoneState tag start count) [] ((List.range d.tables.zones.length).map (zoneStateBytes d))
        ∧ reads (.tableReadDieStation tag start count) [] [dieStationBytes d d.die.stationA, dieStationBytes d d.die.stationB]
        ∧ reads (.tableReadProfileState tag start count) [] (d.gauge.factors.map u16)
        ∧ reads (.tableReadCounters tag start count) [] (d.counts.map u32)
        ∧ (Turn (.tableReadLaneContent tag start count lane) s →
          exec (.tableReadLaneContent tag start count lane) s = .next (Served (.tableReadLaneContent tag start count lane) s d
            (if lane.toNat ≤ 3 ∧ 1 ≤ count.toNat then
              acceptedWith (readData
                (flag (d.lane lane.toNat).declared ++ u8 (d.lane lane.toNat).records.length
                  ++ u8 (d.lane lane.toNat).reservations)
                ((((d.lane lane.toNat).records.drop start.toNat).take count.toNat).map Rod.bytes))
             else indexRange))))
    ∧ ∀ (before : List Byte) (entries : List (List Byte)), before.length ≤ 3 → ∃ n, n ≤ entries.length
      ∧ readData before entries = u8 n ++ before ++ (entries.take n).flatten
      ∧ 4 + (readData before entries).length ≤ 250
      ∧ (n < entries.length → 250 < 5 + before.length + (entries.take (n + 1)).flatten.length)

/-- LINE_RUN (R64): refused for the first of its reasons that holds, changing nothing; otherwise the line is RUNNING, the
written pacing settings come into force, the timer or counter of their mode starts from 0 with no edge held, an IDLE pacer
goes to WAITING, and a LINE_STATE notice reports the change. That the notice shows the pacer after its own change is the
model's choice (log entry 11). -/
def Obligations.LineRunStartsOrNamesReason : Prop :=
  ∀ (tag : Byte) (s : State), Turn (.lineRun tag) s →
    let i := Instr.lineRun tag
    let d := s.dev
    let w := d.tables.pacing
    let declared := (∀ l ∈ d.acc.lanes, l.declared = true) ∧ d.acc.returnDeclared = true
    (d.pace.line = .running → exec i s = .next (Served i s d (wrongState .alreadyRunning)))
    ∧ (d.pace.line = .stopped → ¬declared → exec i s = .next (Served i s d (wrongState .undeclared)))
    ∧ (∀ k, d.pace.line = .stopped → declared → d.stopFault = some k →
        exec i s = .next (Served i s d (wrongState .faultSet (kindNumber k))))
    ∧ (d.pace.line = .stopped → declared → d.stopFault = none → d.pace.pacer = .unresolved →
        exec i s = .next (Served i s d (wrongState .unresolved)))
    ∧ (d.pace.line = .stopped → declared → d.stopFault = none → d.pace.pacer ≠ .unresolved →
        exec i s = .next (Served i s (Device.notifyLine .lineChange { d with pace := { d.pace with
          line := .running
          cause := .none
          force := ⟨w.mode, w.period, w.pulses, w.polarity⟩
          pitch := ⟨0, if w.mode = .fixed then some d.time else none⟩
          pulses := 0
          lastEdge := none
          pacer := if d.pace.pacer = .idle then .waiting else d.pace.pacer } }) accepted))

/-- A stop order, from LINE_STOP or handed by another block (R65): the line is STOPPED, the due-pending flag is
cleared, the timer stops at its value, the pacer goes to IDLE unless a move is in flight or unresolved. The first stop
order names the cause and sends a LINE_STATE notice; one that finds the line STOPPED keeps the cause. LINE_STOP is a
stop order taken in its own event (log entry 16). That the notice shows the pacer after its own change is the model's
choice (log entry 11). A stop order that no block has handed acts as one handed just now (log entry 10). -/
def Obligations.StopOrderStopsTheLine : Prop :=
  let stopped (cause : StopCause) (d : Device) : Device :=
    { d with pace := { d.pace with
      line := .stopped
      cause := cause
      due := false
      pitch := ⟨d.watch d.pace.pitch, none⟩
      pacer := if d.pace.pacer = .moving ∨ d.pace.pacer = .unresolved then d.pace.pacer else .idle
      reason := none } }
  (∀ (tag : Byte) (s : State), Turn (.lineStop tag) s →
      (s.dev.pace.line = .running → exec (.lineStop tag) s =
        .next (Served (.lineStop tag) s ((stopped .request s.dev).notifyLine .lineChange) accepted))
      ∧ (s.dev.pace.line = .stopped → exec (.lineStop tag) s =
        .next (Served (.lineStop tag) s (stopped s.dev.pace.cause s.dev) accepted)))
    ∧ ∀ (cause : StopCause) (s : State),
      let d := { s.dev with mail := s.dev.mail.erase (.stop cause) }
      (s.dev.pace.line = .running → exec (.stopOrder cause) s =
        .next (After s ((stopped cause d).notifyLine .lineChange)))
      ∧ (s.dev.pace.line = .stopped → exec (.stopOrder cause) s = .next (After s (stopped s.dev.pace.cause d)))

/-- The attempt of a JOG, and the retry of a deferred attempt (R73 to R76, R81). A JOG is refused with WRONG_STATE
while the pacer is MOVING, UNRESOLVED or DEFERRED, with FAULT_SET while a HALT kind is SET, and with LOAD_IN_FLIGHT
while the slot is LOADING, and changes nothing then; the retry with the slot LOADING defers again. Otherwise, after
the update and the exit check, which stand in every case (R26, R41), an exit position without a record starts a move
without a reservation; a record whose lane has room starts one with a reservation there; a record whose lane has none
starts no move and clears the chain hold, with a fill decision (R137, R138): the JOG is refused with LANE_FULL, the
retry defers. Nothing else changes. The correction factor while its reset is on its way is log entry 33. The interval
of the update as a difference of clock times in 32 bits is log entry 6, and a retry report that no unit has handed
acts as one handed just now (log entry 10). -/
def Obligations.JogAndRetryAttemptAMove : Prop :=
  (∀ (tag : Byte) (s : State), Turn (.jog tag) s →
      let d := s.dev
      let answered (e : Device) (a : Answer) : Prop := exec (.jog tag) s = .next (Served (.jog tag) s e a)
      let may := (d.pace.pacer = .idle ∨ d.pace.pacer = .waiting) ∧ d.haltFault = none
      let e := Attempted d
      (d.pace.pacer = .moving ∨ d.pace.pacer = .unresolved ∨ d.pace.pacer = .deferred → answered d (wrongState .none))
      ∧ (∀ k, d.pace.pacer = .idle ∨ d.pace.pacer = .waiting → d.haltFault = some k →
        answered d (wrongState .faultSet (kindNumber k)))
      ∧ (may → d.spread.slot = .loading → answered d (wrongState .loadInFlight))
      ∧ (may → d.spread.slot ≠ .loading → e.exitContent.rod? = none → answered (Begun .jog none none e) accepted)
      ∧ ∀ r, may → d.spread.slot ≠ .loading → e.exitContent = .loaded r →
        let disp := dispositionOf r
        let l := e.laneFor disp r
        (e.hasRoom l = true → answered (Begun .jog (some l) (some disp) (Reserved l e)) accepted)
        ∧ (e.hasRoom l = false → answered (Cleared e) (wrongState .laneFull)))
    ∧ ∀ (report : PaceReport) (s : State), s.dev.pace.pacer = .deferred → retries report s.dev.pace.reason = true →
      ∃ u, exec (.attemptRetry report) s = .next (After s u)
        ∧ PacedAttempt { s.dev with mail := s.dev.mail.erase (.retry report) } u

/-- The pitch interval (R68 to R72). PACE_RESTART on a RUNNING line starts it from 0 under the written settings with
no edge held, and on a STOPPED line does nothing. At the pitch timer's period, and at the edge that completes the
count, the written settings come into force, the interval starts again, and a due occurs, which in WAITING makes a
PACED attempt, during a move sets the due-pending flag, and is lost with PITCH_OVERRUN if the flag is set or the pacer
DEFERRED. An earlier edge of the polarity, 2 ms or more after the last, is counted. The moment of an expiry is log
entry 4. Edges are timed in milliseconds (log entry 15). In the update of an attempt the interval as a difference of
clock times in 32 bits is log entry 6, and the correction factor while its reset is on its way log entry 33. -/
def Obligations.PitchIntervalAndDues : Prop :=
  let force (d : Device) : InForce :=
    ⟨d.tables.pacing.mode, d.tables.pacing.period, d.tables.pacing.pulses, d.tables.pacing.polarity⟩
  let started (d : Device) (time : Nat) : Stopwatch := ⟨0, if d.tables.pacing.mode = .fixed then some time else none⟩
  let during (d : Device) : Prop := d.pace.pacer = .moving ∨ d.pace.pacer = .unresolved
  let overrun (d : Device) : Device :=
    { d.bump .pitchOverruns with mail := d.mail ++ [.raise .pitchOverrun { move := some d.pace.moveNumber }] }
  (∀ (tag : Byte) (s : State), Turn (.paceRestart tag) s →
      (s.dev.pace.line = .running → exec (.paceRestart tag) s = .next (Served (.paceRestart tag) s { s.dev with
        pace := { s.dev.pace with
          force := force s.dev, pitch := started s.dev s.dev.time, pulses := 0, lastEdge := none } } accepted))
      ∧ (s.dev.pace.line = .stopped → exec (.paceRestart tag) s = .next (Served (.paceRestart tag) s s.dev accepted)))
    ∧ (∀ (s : State) (since : Nat), s.dev.pace.line = .running → s.dev.pace.force.mode = .fixed →
      s.dev.pace.pitch.since = some since →
      let time := max s.dev.time (since + (s.dev.pace.force.period * 100 - s.dev.pace.pitch.base))
      let d : Device := { s.dev with
        time := time
        pace := { s.dev.pace with
          force := force s.dev, pitch := started s.dev time, pulses := 0
          lastEdge := if s.dev.tables.pacing.mode = .fixed then s.dev.pace.lastEdge else none } }
      (s.dev.pace.pacer = .waiting → ∃ u, exec .pitchTimerExpiry s = .next (After s u) ∧ PacedAttempt d u)
      ∧ (during s.dev → s.dev.pace.due = false → exec .pitchTimerExpiry s =
        .next (After s { d with pace := { d.pace with due := true } }))
      ∧ (during s.dev ∧ s.dev.pace.due = true ∨ s.dev.pace.pacer = .deferred →
        exec .pitchTimerExpiry s = .next (After s (overrun d))))
    ∧ ∀ (s : State) (wait : Nat), s.dev.pace.line = .running → s.dev.pace.force.mode = .follow →
      (∀ last, s.dev.pace.lastEdge = some last → last + 2 ≤ s.dev.time + wait) →
      let edge := s.dev.pace.force.polarity
      let time := s.dev.time + wait
      (s.dev.pace.pulses + 1 < s.dev.pace.force.pulses → exec (.pressScrewPulse edge wait) s = .next (After s { s.dev with
        time := time
        pace := { s.dev.pace with lastEdge := some time, pulses := s.dev.pace.pulses + 1 } }))
      ∧ (s.dev.pace.force.pulses ≤ s.dev.pace.pulses + 1 →
        let d : Device := { s.dev with
          time := time
          pace := { s.dev.pace with
            force := force s.dev, pitch := started s.dev time, pulses := 0, lastEdge := some time } }
        (s.dev.pace.pacer = .waiting → ∃ u, exec (.pressScrewPulse edge wait) s = .next (After s u) ∧ PacedAttempt d u)
        ∧ (during s.dev → s.dev.pace.due = false → exec (.pressScrewPulse edge wait) s =
          .next (After s { d with pace := { d.pace with due := true } }))
        ∧ (during s.dev ∧ s.dev.pace.due = true ∨ s.dev.pace.pacer = .deferred →
          exec (.pressScrewPulse edge wait) s = .next (After s (overrun d))))

/-- A move-done message (R78, R80, R85, R86): one that carries the number of the move in flight or unresolved ends the
move with a shift, which is reported done; one that carries the late window's number, with no move, shifts late, raises
CHAIN_LATE_DONE and closes the window; with another number it is counted and changes nothing else. Leaving UNRESOLVED places
a LINE_STATE notice (R85). In each case, the late one without a reservation, the exit content is reconciled with what was seen (R8 to R15, R18, R153): a rod seen with its strands goes to its reserved
lane, or to its own lane if that has room, or to spill, DISCARDED; one seen bare is LOST and goes to the return buffer or
to spill; one not seen is LOST; where no record was held, a rod with strands is a new UNTRACKED record; the inventory count
moves, and TRACK_MISMATCH is raised, where the rules say so. The order of the notices and reports is log entries 11 and
12, and so is the fill decision's place before the reconciliation.
Counts of rods wrap in 32 bits (log entry 37). -/
def Obligations.MoveDoneShiftsTheTunnel : Prop :=
  ∀ (number : Byte) (seen : Sighting) (s : State),
    let d := s.dev
    let ended : Device := { d with pace := { d.pace with inFlight := none, timer := none, pacer := .moving } }
    let exits (r : Rod) (disp : Disposition) (lane : ExitLane) : Rod := { r with exit := some ⟨d.clock, disp, lane⟩ }
    let reconciled (m : Move) (late : Bool) (start : Device) : Prop :=
      let base := Delivered start
      let ends (freed : Bool) (e : Device) : Prop := exec (.moveDone number seen) s =
        .next (After s (Device.post (.shiftDone late) (Device.establish (Device.accEnd freed e))))
      let content := d.exitContent
      (∀ r, content = .loaded r →
        let disp := m.disposition.getD (dispositionOf r)
        (∀ l, seen = .strands → m.reservation = some l → ends false (Joined 1 l (exits r disp (.lane l)) base))
        ∧ (seen = .strands → m.reservation = none → ends false (LaneOrSpill disp (base.laneFor disp r) r base))
        ∧ (seen = .bare → ends m.reservation.isSome (Mismatched m r.id (Released m (ToReturn m
            (Closed .lost (exits r disp .returned) base)))))
        ∧ (seen = .noRod → ends m.reservation.isSome (Counted 4294967295 (Mismatched m r.id (Released m
            (Closed .lost (exits r disp .none) base))))))
      ∧ (content = .empty →
        (seen = .bare → ends false (ToReturn m base)) ∧ (seen = .strands → ends false (Mismatched m 0 (NewUntracked base)))
        ∧ (seen = .noRod → ends false (Mismatched m 0 (Counted 4294967295 base))))
      ∧ (content = .gap →
        (seen = .bare → ends false (Mismatched m 0 (Counted 1 (ToReturn m base))))
        ∧ (seen = .strands → ends false (Mismatched m 0 (Counted 1 (NewUntracked base))))
        ∧ (seen = .noRod → ends false base))
      ∧ (content = .unknown →
        (seen = .bare → ends false (ToReturn m base)) ∧ (seen = .strands → ends false (NewUntracked base))
        ∧ (seen = .noRod → ends false base))
    (∀ m, d.pace.inFlight = some m → m.number = number.toNat →
      (d.pace.pacer = .moving → reconciled m false ended)
      ∧ (d.pace.pacer = .unresolved → reconciled m false (Device.notifyLine .unresolvedLeave ended))
      ∧ (d.pace.pacer = .moving ∨ d.pace.pacer = .unresolved →
        ∃ t, exec (.moveDone number seen) s = .next t ∧ Shifted d t.dev ∧ t.dev.pace.inFlight = none
          ∧ t.dev.pace.timer = none ∧ t.dev.pace.line = d.pace.line ∧ t.dev.pace.due = d.pace.due
          ∧ t.dev.pace.moveNumber = d.pace.moveNumber ∧ Mail.shiftDone false ∈ t.dev.mail))
    ∧ (d.pace.lateWindow = some number.toNat →
      d.pace.pacer = .idle ∨ d.pace.pacer = .waiting ∨ d.pace.pacer = .deferred →
      reconciled ⟨number.toNat, none, none⟩ true { d with
        pace := { d.pace with lateWindow := none }
        mail := d.mail ++ [.raise .chainLateDone { move := some number.toNat }] }
      ∧ ∃ t, exec (.moveDone number seen) s = .next t ∧ Shifted d t.dev ∧ t.dev.pace.lateWindow = none
        ∧ t.dev.pace.pacer = d.pace.pacer ∧ Mail.raise .chainLateDone { move := some number.toNat } ∈ t.dev.mail
        ∧ Mail.shiftDone true ∈ t.dev.mail)
    ∧ ((∀ m, d.pace.inFlight = some m → m.number ≠ number.toNat) → d.pace.lateWindow ≠ some number.toNat →
      exec (.moveDone number seen) s = .next (After s (d.bump .lateDones)))

/-- The exit rod of a move with a reservation, seen with its strands (R8, R11, R153): while the stripper is busy, its record,
with an exit part of now, is the new tail of the reserved lane, the reservation is consumed, and that lane's count of rods
exited rises; the other lanes are as they were. -/
def Obligations.ExitRodJoinsReservedLane : Prop :=
  ∀ (number : Byte) (l : Nat) (disp : Disposition) (r : Rod) (s : State), l < 4 → s.dev.acc.lanes.length = 4 →
    s.dev.pace.pacer = .moving → s.dev.pace.inFlight = some ⟨number.toNat, some l, some disp⟩ →
    s.dev.exitContent = .loaded r → s.dev.acc.stripper ≠ .idle →
    ∃ t, exec (.moveDone number .strands) s = .next t
      ∧ t.dev.lane l = { s.dev.lane l with
          records := (s.dev.lane l).records ++ [{ r with exit := some ⟨s.dev.clock, disp, .lane l⟩ }]
          reservations := (s.dev.lane l).reservations - 1 }
      ∧ (∀ k, k ≠ l → t.dev.lane k = s.dev.lane k)
      ∧ t.dev.counts.getD (12 + l) 0 = ((s.dev.bump (exitedCount l)).counts).getD (12 + l) 0

/-- A move that reaches its limit is UNRESOLVED, with CHAIN_STALL raised and a LINE_STATE notice (R82). Resolved as
MOVED it shifts as if the observation had matched (R9, R83): a LOADED exit goes to the reserved lane, or to its own
lane or spill, an EMPTY one to the return buffer or spill, and a GAP or UNKNOWN one nowhere, the inventory count
staying. Resolved as NOT_MOVED nothing shifts, the reservation is released, the late window holds the number, and the
pacer rests, or makes the PACED attempt of a due that was pending, which is then cleared (R84). In any other pacer
state both are refused with WRONG_STATE, and an outcome that names neither with FIELD_RANGE (R83), in every pacer
state (the model's choice, log entry 25). That NOT_MOVED posts no free-place report for the reservation it releases is
log entry 19, read from R84 (R152). The moment of an expiry is log entry 4. The detail of a FIELD_RANGE answer is a
free value (log entry 8). The place of the LINE_STATE notice of the departure is log entry 11, and that of the fill
decision log entry 12. Counts of rods wrap in 32 bits (log entry 37). In the update of an attempt the interval as a
difference of clock times in 32 bits is log entry 6, and the correction factor while its reset is on its way log entry
33. -/
def Obligations.MoveLimitAndResolution : Prop :=
  (∀ (s : State) (m : Move) (limit : Timer), s.dev.pace.pacer = .moving → s.dev.pace.inFlight = some m →
      s.dev.pace.timer = some limit →
      exec .moveLimitExpiry s = .next (After s (Device.notifyLine .unresolvedEnter { s.dev with
        time := max s.dev.time (limit.start + limit.limit)
        pace := { s.dev.pace with pacer := .unresolved, timer := none }
        mail := s.dev.mail ++ [.raise .chainStall { move := some m.number }] })))
    ∧ (∀ (tag : Byte) (s : State), Turn (.moveResolveMoved tag) s →
      let d := s.dev
      let i := Instr.moveResolveMoved tag
      (d.pace.pacer ≠ .unresolved → exec i s = .next (Served i s d (wrongState .none)))
      ∧ ∀ m, d.pace.pacer = .unresolved → d.pace.inFlight = some m →
        let base := Delivered (Device.notifyLine .unresolvedLeave
          { d with pace := { d.pace with inFlight := none, timer := none, pacer := .moving } })
        let ends (e : Device) : Prop := exec i s = .next
          (Served i s (Device.post (.shiftDone false) (Device.establish (Device.accEnd false e))) accepted)
        (∀ r l, d.exitContent = .loaded r → m.reservation = some l →
          ends (Joined 1 l { r with exit := some ⟨d.clock, m.disposition.getD (dispositionOf r), .lane l⟩ } base))
        ∧ (∀ r, d.exitContent = .loaded r → m.reservation = none →
          let disp := m.disposition.getD (dispositionOf r)
          ends (LaneOrSpill disp (base.laneFor disp r) r base))
        ∧ (d.exitContent = .empty → ends (ToReturn m base))
        ∧ (d.exitContent = .gap ∨ d.exitContent = .unknown → ends base)
        ∧ ∃ t, exec i s = .next t ∧ Shifted d t.dev ∧ t.dev.pace.inFlight = none ∧ t.dev.pace.line = d.pace.line
          ∧ t.dev.pace.lateWindow = d.pace.lateWindow ∧ Mail.shiftDone false ∈ t.dev.mail
          ∧ (∀ c, Mail.raise .trackMismatch c ∈ t.dev.mail → Mail.raise .trackMismatch c ∈ d.mail)
          ∧ (d.track.established = true → t.dev.track.inventory = d.track.inventory) ∧ Replied i .accepted t.dev)
    ∧ ∀ (tag outcome : Byte) (s : State), Turn (.moveResolveNotMoved tag outcome) s →
      let d := s.dev
      let i := Instr.moveResolveNotMoved tag outcome
      (1 < outcome.toNat → exec i s = .next (Served i s d ⟨.fieldRange, Config.plainRangeDetail 0x07, []⟩))
      ∧ (outcome = 1 → d.pace.pacer ≠ .unresolved → exec i s = .next (Served i s d (wrongState .none)))
      ∧ ∀ m, outcome = 1 → d.pace.pacer = .unresolved → d.pace.inFlight = some m →
        let left := Device.notifyLine .unresolvedLeave { Released m d with pace := { d.pace with
          inFlight := none
          timer := none
          lateWindow := some m.number
          pacer := if d.pace.line = .running then .waiting else .idle
          reason := none } }
        let cleared :=
          if d.spread.hold = true then Device.fill { left with spread := { d.spread with hold := false } } else left
        (d.pace.due = false → exec i s = .next (Served i s cleared accepted) ∧ cleared.track = d.track
          ∧ cleared.pace.inFlight = none ∧ cleared.pace.lateWindow = some m.number
          ∧ cleared.pace.pacer = (if d.pace.line = .running then .waiting else .idle)
          ∧ (∀ l, m.reservation = some l → (cleared.lane l).reservations = (d.lane l).reservations - 1)
          ∧ (∀ l, m.reservation ≠ some l → cleared.lane l = d.lane l) ∧ cleared.spread.hold = false)
        ∧ (d.pace.due = true → ∃ u, exec i s = .next (Served i s u accepted)
          ∧ PacedAttempt { cleared with pace := { cleared.pace with due := false } } u)

/-- A shift reported done (R79, R86, R92, R96, R167). After a move with no due pending the pacer rests; after a late
done it stays, and a DEFERRED one is told to retry. Each zone whose governing position holds a rod of another profile
adopts it, with trim 0, its setpoints and a fresh settle, and no other zone changes its profile; an ungauged rod at
the gauge position is measured, or counted as skipped while a measurement is in flight; an ADVANCE trigger that is ON
starts a round, or is counted as lost while one is in flight. With a due pending the flag is cleared and an attempt of
kind PACED is made before the other units take the report. The units take it one after another, and the retry is an
event of its own (log entry 13). In the update of an attempt the interval as a difference of clock times in 32 bits is
log entry 6, and the correction factor while its reset is on its way log entry 33. A settle starts at a whole second
(log entry 6), and a report that was not handed acts as one handed just now (log entry 10). -/
def Obligations.ShiftReportProceeds : Prop :=
  let rested (d : Device) : Pace := { d.pace with
    pacer := if d.pace.line = .running then .waiting else .idle, reason := none }
  let counted (c : Count) (d e : Device) : Prop := e.counts.getD c.index 0 = (d.bump c).counts.getD c.index 0
  let units (d e : Device) : Prop :=
    (∀ z p, d.governing z = some p → p ≠ (d.zone z).profile →
      e.zone z = { d.zone z with
        profile := p, trim := 0, effTemp := (d.profile p).temp.getD z 0
        effHum := min 1000 ((d.profile p).hum.getD z 0), settleFrom := some d.sec })
    ∧ (∀ z, (d.governing z = none ∨ d.governing z = some (d.zone z).profile) → e.zone z = d.zone z)
    ∧ (∀ r, d.gaugeRod = some r → r.flags.gauged = false → d.gauge.inFlight = none →
      e.gauge.inFlight = some ⟨(d.gauge.number + 1) % 256, r.id, r.born, ⟨d.time, d.tables.gauge.limit * 1000⟩⟩
        ∧ BusMessage.measure ((d.gauge.number + 1) % 256) r.id ∈ e.bus)
    ∧ (∀ r, d.gaugeRod = some r → r.flags.gauged = false → d.gauge.inFlight.isSome →
      e.gauge = d.gauge ∧ counted .gaugeSkipped d e)
    ∧ ((∀ r, d.gaugeRod = some r → r.flags.gauged = true) → e.gauge = d.gauge)
    ∧ (d.tables.sampling.advanceOn = true → d.climate.round = none →
      e.climate.round = some ⟨.advance, d.clock, 0, .read, (d.climate.exchange + 1) % 256, ⟨d.time, 250⟩, []⟩
        ∧ e.climate.periodicFrom = d.time)
    ∧ (d.tables.sampling.advanceOn = true → d.climate.round.isSome →
      e.climate.round = d.climate.round ∧ e.climate.periodicFrom = d.climate.periodicFrom ∧ counted .sampleOverruns d e)
    ∧ (d.tables.sampling.advanceOn = false → e.climate.round = d.climate.round)
  (∀ (late : Bool) (s : State), (late = false → s.dev.pace.pacer = .moving ∧ s.dev.pace.inFlight = none ∧ s.dev.pace.due = false) →
    s.dev.climate.zones.length = 12 → s.dev.tables.zones.length ≤ 12 → 1 ≤ s.dev.tables.zones.length →
    ∃ t, exec (.shiftDoneReport late) s = .next t ∧ t.dev.track = s.dev.track
      ∧ t.dev.pace = (if late then s.dev.pace else rested s.dev)
      ∧ t.dev.mail = s.dev.mail.erase (.shiftDone late) ++ (if late then [.retry .lateShift] else [])
      ∧ units s.dev t.dev)
    ∧ ∀ s : State, s.dev.pace.pacer = .moving → s.dev.pace.inFlight = none → s.dev.pace.due = true →
      ∃ u, PacedAttempt { s.dev with
          mail := s.dev.mail.erase (.shiftDone false)
          pace := { rested s.dev with due := false } } u
        ∧ exec (.shiftDoneReport false) s = .next (After s u.adoptions.examineGauge.advanceTrigger)
        ∧ (u.climate.zones.length = 12 → u.tables.zones.length ≤ 12 → 1 ≤ u.tables.zones.length →
          units u u.adoptions.examineGauge.advanceTrigger)

/-- STANDSTILL_EXPIRY runs an update without a shift (R20, R26, R27), as `Updated` writes it out: the standstill timer
restarts, and if the interval is above 0 every LOADED record is brought forward by it (R28 to R39), capped at 600 s, the
update instant becomes now, the rods that gain STRESSED are raised (R38), and the tallies are handed (R40). Nothing else
changes but the time. The correction factor while its reset is on its way is log entry 33. The moment of an expiry is
log entry 4, and the interval as a difference of clock times in 32 bits log entry 6. -/
def Obligations.StandstillRunsAnUpdate : Prop :=
  ∀ s : State,
    exec .standstillExpiry s = .next (After s (Updated { s.dev with
      time := max s.dev.time ((s.dev.track.standstillFrom + 600) * 1000) }))

/-- The update and the exit check of an attempt, and the law on moisture (R26 to R41). The update is the one that
`Updated` and `Dried` write out: for a LOADED rod with a product the moisture falls by the loss at the zone's rate
with the correction factor in force (256 while its reset is on its way, log entry 33), the stress rises by the excess
over the allowance times the weight and relaxes in a RELAX zone, STRESSED is set where the stress has reached the
limit, ESTIMATED where the climate stands in for a reading, and the dwell entry of its zone rises by the interval. The
rod at each position stays there under its id, with its batch, profile and birth, and its moisture does not rise and
does not fall below the smaller of what it was and the equilibrium moisture (R34); a content without a rod is
unchanged. The exit check is the one that `ExitChecked` writes out. Neither changes anything but the track and the
mail. The interval as a difference of clock times in 32 bits is log entry 6. -/
def Obligations.UpdateNeverRaisesMoisture : Prop :=
  ∀ d : Device, update d = Updated d ∧ exitCheck d = ExitChecked d
    ∧ update d = { d with track := (update d).track, mail := (update d).mail }
    ∧ exitCheck d = { d with track := (exitCheck d).track, mail := (exitCheck d).mail }
    ∧ ∀ (k : Nat) (c : Content), d.track.positions[k]? = some c →
      (c.rod? = none → (update d).track.positions[k]? = some c)
      ∧ ∀ r x, c = .loaded r → r.product = some x →
        let dt := min 600 ((d.clock + 4294967296 - d.track.updateInstant) % 4294967296)
        (update d).track.positions[k]? =
          some (.loaded (if dt = 0 then r else (Dried d dt (zoneOf d.tables.zones k) r).1))
        ∧ ∃ r' y, (update d).track.positions[k]? = some (.loaded r') ∧ r'.product = some y
          ∧ r'.id = r.id ∧ r'.born = r.born ∧ y.batch = x.batch ∧ y.profile = x.profile ∧ y.moisture ≤ x.moisture
          ∧ min x.moisture (equilibrium (d.profile x.profile).eq (d.air (zoneOf d.tables.zones k)).hum) ≤ y.moisture
          ∧ (r.flags.stressed = true → r'.flags.stressed = true) ∧ r'.flags.hostmark = r.flags.hostmark

/-- The drying model's arithmetic (R30, R31, R33): the interpolated equilibrium moisture, with its one quotient truncated
toward zero, lies between its two table entries; the temperature factor is clamped to 256..4096; the moisture loss is the
exact product over 2²⁴, floored and reduced to the difference. Beside it, the zone of a position is the one whose span
contains it (R28): it is not past that zone's last position, and past the last position of every zone before it. -/
def Obligations.DryingArithmetic : Prop :=
  (∀ (eq : List Nat) (hum : Nat), eq.length = 11 → hum ≤ 1000 →
      let lo := eq.getD (hum / 100) 0
      let hi := eq.getD (hum / 100 + 1) 0
      (hum / 100 = 10 → equilibrium eq hum = eq.getD 10 0)
      ∧ (hum / 100 ≠ 10 → (equilibrium eq hum : Int) = lo + (((hi : Int) - lo) * ((hum % 100 : Nat) : Int)).tdiv 100
        ∧ min lo hi ≤ equilibrium eq hum ∧ equilibrium eq hum ≤ max lo hi)
      ∧ ((∀ x ∈ eq, x ≤ 4000) → equilibrium eq hum ≤ 4000))
    ∧ (∀ gain temp : Nat,
      (tempFactor gain temp : Int) = max 256 (min 4096 (1024 + (gain : Int) * ((temp : Int) - 600)))
      ∧ tempFactor gain 600 = 1024 ∧ tempFactor 0 temp = 1024)
    ∧ (∀ moisture me rate dt : Nat,
      (moisture ≤ me → moistureLoss moisture me rate dt = 0)
      ∧ (me < moisture → moistureLoss moisture me rate dt
          = min ((moisture - me) * rate * dt / 2 ^ 24) (moisture - me))
      ∧ (moisture ≤ 4000 → rate ≤ 65528 → dt ≤ 600 →
          (moisture - me) * rate * dt ≤ 157267200000 ∧ 2 ^ 37 < 157267200000 ∧ 157267200000 < 2 ^ 38))
    ∧ ∀ (zones : List ZoneEntry) (z k : Nat) (e : ZoneEntry), zones[z]? = some e → k ≤ e.last →
      (∀ (y : Nat) (f : ZoneEntry), y < z → zones[y]? = some f → f.last < k) → zoneOf zones k = z

/-- Tallies at the zone unit (R94): each zone below Z keeps its pair; a PRE or DRY zone's trim rises by its step, up
to its maximum, when more than half of its rods exceeded, falls by it, down to 0, when none did, and stays otherwise,
and a change recomputes its humidity setpoint; a RELAX or COOL zone keeps its trim. Tallies that were not handed act
as if handed just now (log entry 10). -/
def Obligations.TalliesMoveTrim : Prop :=
  ∀ (pairs : List (Nat × Nat)) (s : State), s.dev.climate.zones.length = 12 → s.dev.tables.zones.length ≤ 12 →
    ∃ t, exec (.talliesHanded pairs) s = .next t ∧ t.dev.mail = s.dev.mail.erase (.tallies pairs)
      ∧ t.dev.track = s.dev.track ∧ t.dev.tables = s.dev.tables ∧ t.dev.bus = s.dev.bus ∧ t.dev.counts = s.dev.counts
      ∧ ∀ (z n e : Nat) (entry : ZoneEntry), s.dev.tables.zones[z]? = some entry → pairs[z]? = some (n, e) →
        let x := s.dev.zone z
        let trim :=
          if entry.type = .relax ∨ entry.type = .cool then x.trim
          else if 0 < n ∧ n < 2 * e then min entry.trimMax (x.trim + entry.trimStep)
          else if e = 0 then x.trim - entry.trimStep
          else x.trim
        t.dev.zone z = { x with
          tallies := (n, e)
          trim := trim
          effTemp := if trim = x.trim then x.effTemp else (s.dev.profile x.profile).temp.getD z 0
          effHum := if trim = x.trim then x.effHum
            else min 1000 ((s.dev.profile x.profile).hum.getD z 0 + trim) }

/-- ROD_FIND and ROD_MARK by holder (R4, R21, R22): id 0 is refused with FIELD_RANGE; an id that no live record has is
NOT_LIVE, and refused by ROD_MARK; the staged record and a record at a position are found and marked; a record in a lane
or in the strip slot is found and not marked. The detail of a FIELD_RANGE answer is a free value (log entry 8). The coding of items that
section 11.6 leaves open is log entry 17. -/
def Obligations.RodFindAndMark : Prop :=
  ∀ (tag : Byte) (id : Half) (s : State),
    let find := Instr.rodFind tag id
    let mark := Instr.rodMark tag id
    let d := s.dev
    let found (h : Holder) (r : Rod) : Prop :=
      Turn find s → exec find s = .next (Served find s d (acceptedWith (h.bytes ++ (u8 1 ++ r.bytes))))
    let marked (e : Device) : Prop := Turn mark s → exec mark s = .next (Served mark s e accepted)
    let refused (a : Answer) : Prop := Turn mark s → exec mark s = .next (Served mark s d a)
    (id = 0 → (Turn find s →
        exec find s = .next (Served find s d ⟨.fieldRange, Config.plainRangeDetail 0x0E, []⟩))
      ∧ refused ⟨.fieldRange, Config.plainRangeDetail 0x0F, []⟩)
    ∧ (id ≠ 0 → id.toNat ∉ d.liveIds → (Turn find s →
        exec find s = .next (Served find s d (acceptedWith [4, 0, 0, 0, 0]))) ∧ refused (wrongState .none))
    ∧ (id ≠ 0 → ∀ r, d.spread.slot = .loaded r → r.id = id.toNat → found .staged r
      ∧ marked { d with spread := { d.spread with slot := .loaded { r with flags := { r.flags with hostmark := true } } } })
    ∧ (id ≠ 0 → ∀ k r, (∀ q, d.spread.slot.rod? = some q → q.id ≠ id.toNat) →
      d.track.positions[k]? = some (.loaded r) → r.id = id.toNat →
      (∀ j q, j ≠ k → d.track.positions[j]? = some (.loaded q) → q.id ≠ id.toNat) → found (.position k) r
      ∧ (let r' : Rod := { r with flags := { r.flags with hostmark := true } }
        marked { d with track := { d.track with positions := d.track.positions.set k (.loaded r') } }))
    ∧ (id ≠ 0 → ∀ l k r, (∀ q, d.spread.slot.rod? = some q → q.id ≠ id.toNat) →
      (∀ q, Content.loaded q ∈ d.track.positions → q.id ≠ id.toNat) →
      (d.acc.lanes[l]?.map LaneRt.records).bind (fun rs => rs[k]?) = some r → r.id = id.toNat →
      (∀ m j q, (m, j) ≠ (l, k) → (d.acc.lanes[m]?.map LaneRt.records).bind (fun rs => rs[j]?) = some q →
        q.id ≠ id.toNat) → found (.lane l k) r ∧ refused (wrongState .none))
    ∧ (id ≠ 0 → ∀ x, (∀ q, d.spread.slot.rod? = some q → q.id ≠ id.toNat) →
      (∀ q, Content.loaded q ∈ d.track.positions → q.id ≠ id.toNat) →
      (∀ l ∈ d.acc.lanes, ∀ q ∈ l.records, q.id ≠ id.toNat) → d.acc.slot = some x → x.rod.id = id.toNat →
      found .strip x.rod ∧ refused (wrongState .none))

/-- TRACK_FORGET is accepted on a STOPPED line with an IDLE pacer, and refused with WRONG_STATE in any other state (R23). An
IDLE pacer has no move in flight or unresolved. Accepted, every position is UNKNOWN and the inventory unestablished (R24). -/
def Obligations.TrackForgetAcceptedWhenIdle : Prop :=
  ∀ (tag : Byte) (s : State), Turn (.trackForget tag) s →
    (s.dev.pace.line = .stopped ∧ s.dev.pace.pacer = .idle →
      ∃ t, exec (.trackForget tag) s = .next t ∧ Replied (.trackForget tag) .accepted t.dev
        ∧ t.dev.track.positions = s.dev.track.positions.map (fun _ => Content.unknown)
        ∧ t.dev.track.established = false ∧ t.dev.track.updateInstant = s.dev.track.updateInstant
        ∧ t.dev.spread = s.dev.spread ∧ t.dev.acc = s.dev.acc ∧ t.dev.pace = s.dev.pace)
    ∧ (¬(s.dev.pace.line = .stopped ∧ s.dev.pace.pacer = .idle) →
      exec (.trackForget tag) s = .next (Served (.trackForget tag) s s.dev ⟨.wrongState, 0, []⟩))
    ∧ (MoveLaw s.dev → s.dev.pace.pacer = .idle → s.dev.pace.inFlight = none)

/-- LOAD_DONE (R126, R140, R142, R146): the answer to the load in flight stages a TRACKED record under a new rod id,
with every field as the rule's table gives it; purge remaining falls by one, the wear of the active station's die
rises by one, DIE_WEAR is raised, once, when it is at the service limit, and the outcome goes to the pacing unit. With
another number, or with no load in flight, it is counted late and ignored. The order in which the raise and the report
wait is log entry 10. -/
def Obligations.LoadDoneCreatesRecord : Prop :=
  ∀ (number : Byte) (s : State),
    (∀ l, s.dev.spread.load = some l → l.number = number.toNat → s.dev.spread.slot = .loading →
      let p := (s.dev.tables.formatMap.getD l.identity.format default).profile
      ∃ t r, exec (.loadDone number) s = .next t ∧ t.pending = s.pending
        ∧ t.dev.spread = { s.dev.spread with slot := .loaded r, load := none, purge := s.dev.spread.purge - 1 }
        ∧ r.product = some ⟨s.dev.spread.batch, l.identity.format, p, l.identity.side, l.identity.dieId, l.identity.holes,
            (s.dev.profile p).m0, 0, List.replicate s.dev.tables.zones.length 0⟩
        ∧ r.born = s.dev.clock ∧ r.flags = ⟨decide (0 < s.dev.spread.purge), false, false, false, false, false⟩
        ∧ r.gauge = none ∧ r.exit = none ∧ r.close = none
        ∧ r.id = t.dev.track.lastId ∧ 1 ≤ r.id ∧ r.id ≤ 65535 ∧ (s.dev.liveIds.length < 65535 → r.id ∉ s.dev.liveIds)
        ∧ t.dev.track.positions = s.dev.track.positions ∧ t.dev.acc = s.dev.acc ∧ t.dev.pace = s.dev.pace
        ∧ t.dev.counts = (s.dev.bump .loadsDone).counts ∧ Mail.retry .loadOutcome ∈ t.dev.mail
        ∧ (∀ side c, s.dev.die.active = some side → (s.dev.station side).copy = some c →
            let wear := min 4294967295 (c.wear + 1)
            let x := s.dev.station side
            t.dev.station side = { x with
              copy := some { c with wear := wear }, wearReported := x.wearReported || decide (c.limit ≤ wear) }
            ∧ t.dev.mail = s.dev.mail
              ++ (if c.limit ≤ wear ∧ x.wearReported = false then [.raise .dieWear { station := some side }] else [])
              ++ [.retry .loadOutcome])
        ∧ (s.dev.die.active = none → t.dev.mail = s.dev.mail ++ [.retry .loadOutcome])
        ∧ ∀ side, s.dev.die.active ≠ some side → t.dev.station side = s.dev.station side)
    ∧ ((∀ l, s.dev.spread.load = some l → l.number ≠ number.toNat) →
      exec (.loadDone number) s = .next (After s (s.dev.bump .lateLoads)))

/-- LOAD_FAILED (R141): the answer to the load in flight leaves the empty rod staged, counts a load fail, raises nothing and
tells the pacing unit; no record, wear or purge count changes. The empty rod enters the tunnel at the next shift. -/
def Obligations.LoadFailedEndsLoad : Prop :=
  (∀ (number : Byte) (s : State) (l : Load), s.dev.spread.load = some l → l.number = number.toNat →
      s.dev.spread.slot = .loading →
      exec (.loadFailed number) s = .next (After s { s.dev.bump .loadFails with
        spread := { s.dev.spread with slot := .emptyStaged, load := none }
        mail := s.dev.mail ++ [.retry .loadOutcome] }))
    ∧ ∀ zones : Nat, Slot.emptyStaged.delivery zones = .empty

/-- LOAD_LIMIT_EXPIRY and BATCH_NEW (R142, R145): a load that times out leaves the empty rod staged with
SPREADER_TIMEOUT raised for its station, and tells the pacing unit; a load-done or load-failed message that answers no
load in flight is counted late and ignored. BATCH_NEW raises the batch number by one, wrapping, and answers it. The
moment of an expiry is log entry 4. The order in which the raise and the report wait is log entry 10. -/
def Obligations.LoadTimeoutAndBatchNew : Prop :=
  (∀ (s : State) (l : Load), s.dev.spread.load = some l → s.dev.spread.slot = .loading →
      exec .loadLimitExpiry s = .next (After s { s.dev with
        time := max s.dev.time (l.timer.start + l.timer.limit)
        spread := { s.dev.spread with slot := .emptyStaged, load := none }
        mail := s.dev.mail ++ [.raise .spreaderTimeout { station := some l.identity.side }, .retry .loadOutcome] }))
    ∧ (∀ (number : Byte) (s : State), (∀ l, s.dev.spread.load = some l → l.number ≠ number.toNat) →
      exec (.loadDone number) s = .next (After s (s.dev.bump .lateLoads))
      ∧ exec (.loadFailed number) s = .next (After s (s.dev.bump .lateLoads)))
    ∧ ∀ (tag : Byte) (s : State), Turn (.batchNew tag) s →
      let n := (s.dev.spread.batch + 1) % 65536
      exec (.batchNew tag) s = .next (Served (.batchNew tag) s
        { s.dev with spread := { s.dev.spread with batch := n } } (acceptedWith (u16 n)))

/-- How a die comes into its seat (R117, R123): presence on at an EMPTY station starts the debounce; off in SETTLING
returns it to EMPTY; the debounce's end seats it, and reads it if the clamp is closed; the clamp closing on a SEATED die
reads it; opening on a REJECTED or RELEASED one returns it to SEATED. Each change places one DIE_STATE notice. One
DIE_STATE notice tells of an event (log entry 14). The moment of an expiry is log entry 4. -/
def Obligations.DieSeats : Prop :=
  ∀ (side : Side) (s : State),
    let d := s.dev
    let x := d.station side
    let changed (f : Station → Station) (e : Device) : State := After s (Device.notifyDie .stationState (e.modifyStation side f))
    let n := (x.exchange + 1) % 256
    let reading (time : Nat) (y : Station) : Station :=
      { y with state := .reading, reason := none, exchange := n, inFlight := some ⟨none, n, ⟨time, 500⟩⟩ }
    let emptied (state : StationState) (y : Station) : Station :=
      { y with state := state, reason := none, debounce := none, copy := none, wearAtRead := none, wearReported := false,
               asked := false, inFlight := none }
    (x.state = .empty → x.presence = false → exec (.presenceEvent side true) s = .next (changed
        (fun y => { y with presence := true, state := .settling, debounce := some ⟨d.time, d.tables.die.debounce⟩ }) d))
    ∧ (x.state = .settling ∨ x.state = .seated ∨ x.state = .rejected ∨ x.state = .released → x.presence = true →
      exec (.presenceEvent side false) s = .next (changed (fun y => emptied .empty { y with presence := false }) d))
    ∧ (∀ w, x.debounce = some w → x.state = .settling →
      let late := { d with time := max d.time (w.start + w.limit) }
      (x.clamp = false → exec (.debounceExpiry side) s = .next (changed (emptied .seated) late))
      ∧ (x.clamp = true → exec (.debounceExpiry side) s =
          .next (changed (fun y => reading late.time (emptied .seated y)) { late with bus := d.bus ++ [.memoryRead side n] })))
    ∧ (x.state = .seated → x.clamp = false → exec (.clampEvent side true) s = .next (changed
        (fun y => reading d.time { y with clamp := true }) { d with bus := d.bus ++ [.memoryRead side n] }))
    ∧ (x.state = .rejected ∨ x.state = .released → x.clamp = true →
      exec (.clampEvent side false) s = .next (changed (fun y => emptied .seated { y with clamp := false }) d))

/-- The outcomes of die memory exchanges. A read (R115, R118): the 17 bytes of a record with its check, an admitted
format code and hole count and an ENABLED format map entry make the station READY with that working copy, and ACTIVE in
the same event where the carriage stands IDLE at it and the pointer is NONE (R119, R133), with no batch change; any other
record is rejected for its check or its format, and an error or the limit as READ_FAILED, each with DIE_UNREADABLE. A
read that answers no exchange in flight changes nothing. A write-back (R122): an acknowledgement makes the written wear
the wear at read; an error or the limit keeps both and raises DIE_WRITEBACK_LOST; the station is RELEASED in each case;
other answers change nothing. One DIE_STATE notice tells of an event (log entry 14). The moment of an expiry is log
entry 4. -/
def Obligations.DieMemoryOutcomes : Prop :=
  (∀ (side : Side) (number : Byte) (s : State),
      let d := s.dev
      let rejected (e : Device) (why : RejectReason) : State := After s (Device.notifyDie .stationState
        { e.modifyStation side (fun y => { y with state := .rejected, reason := some why, inFlight := none }) with
          mail := d.mail ++ [.raise .dieUnreadable { station := some side }] })
      (∀ w, (d.station side).inFlight = some ⟨none, number.toNat, w⟩ → (d.station side).state = .reading →
        exec (.memoryReadReply side number none) s = .next (rejected d .readFailed)
        ∧ exec (.memoryExchangeExpiry side) s =
          .next (rejected { d with time := max d.time (w.start + w.limit) } .readFailed)
        ∧ ∀ r : DieRecord, r.id < 4294967296 → r.format < 256 → r.holes < 65536 → r.wear < 4294967296 →
          r.limit < 4294967296 → r.check < 65536 →
          let head := u32 r.id ++ u8 r.format ++ u16 r.holes ++ u32 r.wear ++ u32 r.limit
          let good := r.check = (head.map BitVec.toNat).sum % 65536 ∧ r.format ≤ 63 ∧ 1 ≤ r.holes ∧ r.holes ≤ 2000
          let i := Instr.memoryReadReply side number (some (head ++ u16 r.check))
          let mapped := (d.tables.formatMap.getD r.format default).enabled
          (¬good → exec i s = .next (rejected d .checkFailed))
          ∧ (good → mapped = false → exec i s = .next (rejected d .formatUnmapped))
          ∧ (good → mapped = true → d.die.active.isSome ∨ d.die.carriage ≠ .idle ∨ d.die.position ≠ some side →
            exec i s = .next (After s (Device.notifyDie .stationState (d.modifyStation side fun y =>
              { y with state := .ready, reason := none, copy := some r, wearAtRead := some r.wear, wearReported := false,
                       inFlight := none }))))
          ∧ (good → mapped = true → d.die.active = none → d.die.carriage = .idle → d.die.position = some side →
            let worn := decide (r.limit ≤ r.wear)
            let e := d.modifyStation side fun y =>
              { y with state := .active, reason := none, copy := some r, wearAtRead := some r.wear, wearReported := worn,
                       inFlight := none }
            exec i s = .next (After s (Device.notifyDie .stationState (Device.fill { e with
              die := { e.die with active := some side, identity := some ⟨side, r.id, r.format, r.holes⟩ }
              mail := d.mail ++ if worn then [.raise .dieWear { station := some side }] else [] })))))
      ∧ ∀ bytes, (∀ e, (d.station side).inFlight = some e → e.number ≠ number.toNat ∨ e.write.isSome) →
        exec (.memoryReadReply side number bytes) s = .next (After s d))
  ∧ ∀ (side : Side) (number : Byte) (s : State),
      let d := s.dev
      let ended (e : Device) (f : Station → Station) (mail : List Mail) : State := After s (Device.notifyDie .stationState
        { e.modifyStation side (fun y => f { y with state := .released, inFlight := none }) with mail := d.mail ++ mail })
      let lost := [Mail.raise .dieWritebackLost { station := some side }]
      (∀ wear w, (d.station side).inFlight = some ⟨some wear, number.toNat, w⟩ → (d.station side).state = .writing →
        exec (.memoryWriteReply side number true) s = .next (ended d (fun y => { y with wearAtRead := some wear }) [])
        ∧ exec (.memoryWriteReply side number false) s = .next (ended d id lost)
        ∧ exec (.memoryExchangeExpiry side) s = .next (ended { d with time := max d.time (w.start + w.limit) } id lost))
      ∧ ∀ ok, (∀ e, (d.station side).inFlight = some e → e.number ≠ number.toNat ∨ e.write = none) →
        exec (.memoryWriteReply side number ok) s = .next (After s d)

/-- A surprise removal (R124, R125), by presence off or the clamp opened. Of the ACTIVE die: the pointer becomes NONE, a
STARTING or RUNNING press is sent STOP and goes to STOPPING, DIE_SURPRISE_REMOVAL is raised, DIE_WRITEBACK_LOST too if
wear was not written, and the station is EMPTY (presence off) or SEATED (clamp opened). The extrusion identity is kept
(R119). From READING, READY or WRITING: the exchange is abandoned, the same faults are raised (in WRITING always both, in
READING never the second), the station is EMPTY or SEATED, and nothing else changes. One DIE_STATE notice tells of the
change of the station (log entry 14). -/
def Obligations.SurpriseRemovalFromEachState : Prop :=
  ∀ (side : Side) (s : State),
    let x := s.dev.station side
    let emptied (y : Station) : Station := { y with
      reason := none, debounce := none, copy := none, wearAtRead := none, wearReported := false, asked := false
      inFlight := none }
    let raised (lost : Bool) := s.dev.mail ++ [.raise .dieSurpriseRemoval { station := some side }]
      ++ (if lost then [.raise .dieWritebackLost { station := some side }] else [])
    let pressed := s.dev.die.press = .starting ∨ s.dev.die.press = .running
    let outcome (lost : Bool) (i : Instr) (y : Station) : Prop := ∃ t, exec i s = .next t
      ∧ t.dev.station side = emptied y
      ∧ (∀ o, o ≠ side → t.dev.station o = s.dev.station o) ∧ t.dev.die.active = none
      ∧ t.dev.die.identity = s.dev.die.identity ∧ t.dev.mail = raised lost
      ∧ (pressed → t.dev.die.press = .stopping ∧ t.dev.bus = s.dev.bus ++ [.pressStop]
          ∧ t.dev.die.pressTimer = some ⟨s.dev.time, 10000⟩)
      ∧ (¬pressed → t.dev.die.press = s.dev.die.press ∧ t.dev.bus = s.dev.bus)
      ∧ t.dev.die.carriage = s.dev.die.carriage ∧ t.dev.die.position = s.dev.die.position ∧ t.dev.track = s.dev.track
    let quiet (lost : Bool) (i : Instr) (y : Station) : Prop := exec i s =
      .next (After s (Device.notifyDie .stationState
        { s.dev.modifyStation side (fun _ => emptied y) with mail := raised lost }))
    let removed (after : Instr → Station → Prop) : Prop :=
      (x.presence = true → after (.presenceEvent side false) { x with presence := false, state := .empty })
      ∧ (x.clamp = true → after (.clampEvent side false) { x with clamp := false, state := .seated })
    (∀ c, x.state = .active → x.copy = some c → removed (outcome (decide (x.wearAtRead ≠ some c.wear))))
    ∧ (x.state = .reading → removed (quiet false))
    ∧ (∀ c, x.state = .ready → x.copy = some c → removed (quiet (decide (x.wearAtRead ≠ some c.wear))))
    ∧ (x.state = .writing → removed (quiet true))

/-- The operator's button and the host's answers to it (R120, R121, R123): the button sets a clear flag at a READY or
ACTIVE station; DIE_KEEP clears a set flag; DIE_RELEASE clears it and writes the wear back if it has risen, an ACTIVE
station leaving ACTIVE with a stop order; DIE_REREAD starts a read at a REJECTED or RELEASED one. Each refusal names
its reason, and a request that names no station is refused with FIELD_RANGE, whose detail is a free value (log entry
8). One DIE_STATE notice tells of an event (log entry 14). The stop order of a release waits to be taken (log entry
16). -/
def Obligations.StationRequests : Prop :=
  (∀ (tag station : Byte) (s : State), 1 < station.toNat →
    let named (i : Instr) (kind : Byte) : Prop := Turn i s →
      exec i s = .next (Served i s s.dev ⟨.fieldRange, Config.plainRangeDetail kind, []⟩)
    named (.dieRelease tag station) 0x0A ∧ named (.dieKeep tag station) 0x0B ∧ named (.dieReread tag station) 0x0C)
  ∧ ∀ (tag : Byte) (side : Side) (s : State),
    let d := s.dev
    let x := d.station side
    let b : Byte := match side with
      | .a => 0
      | .b => 1
    let keep := Instr.dieKeep tag b
    let release := Instr.dieRelease tag b
    let reread := Instr.dieReread tag b
    let n := (x.exchange + 1) % 256
    let written (c : DieRecord) (e : Device) : Device :=
      if x.wearAtRead = some c.wear then e.modifyStation side fun y => { y with asked := false, state := .released }
      else { e.modifyStation side (fun y => { y with
               asked := false, state := .writing, exchange := n, inFlight := some ⟨some c.wear, n, ⟨d.time, 500⟩⟩ }) with
             bus := d.bus ++ [.memoryWrite side n c.wear c.sum] }
    (x.state = .ready ∨ x.state = .active → x.asked = false → exec (.buttonEvent side) s =
        .next (After s (Device.notifyDie .stationFlag (d.modifyStation side fun y => { y with asked := true }))))
    ∧ (x.asked = true ∨ (x.state ≠ .ready ∧ x.state ≠ .active) → exec (.buttonEvent side) s = .next (After s d))
    ∧ (Turn keep s → (x.asked = true → exec keep s = .next (Served keep s
          (Device.notifyDie .stationFlag (d.modifyStation side fun y => { y with asked := false })) accepted))
        ∧ (x.asked = false → exec keep s = .next (Served keep s d (wrongState .none))))
    ∧ (Turn release s →
        (x.asked = false → exec release s = .next (Served release s d (wrongState .notAsked)))
        ∧ (x.asked = true → x.state = .active → d.die.press ≠ .stopped →
          exec release s = .next (Served release s d (wrongState .pressNotStopped)))
        ∧ (∀ c, x.asked = true → x.copy = some c → x.state = .ready →
          exec release s = .next (Served release s (Device.notifyDie .stationState (written c d)) accepted))
        ∧ (∀ c, x.asked = true → x.copy = some c → x.state = .active → d.die.press = .stopped →
          exec release s = .next (Served release s (Device.notifyDie .stationState (written c { d with
            die := { d.die with active := none }
            mail := d.mail ++ [.stop .dieRelease] })) accepted)))
    ∧ (Turn reread s →
        (x.state ≠ .rejected → x.state ≠ .released → exec reread s = .next (Served reread s d (wrongState .none)))
        ∧ (x.state = .rejected ∨ x.state = .released →
          exec reread s = .next (Served reread s (Device.notifyDie .stationState { d.modifyStation side (fun y => { y with
              state := .reading, reason := none, exchange := n, inFlight := some ⟨none, n, ⟨d.time, 500⟩⟩ }) with
            bus := d.bus ++ [.memoryRead side n] }) accepted)))

/-- DIE_SWAP (R128, R129): refused with the first reason that holds; otherwise a station that was ACTIVE is READY again,
the pointer is NONE, CARRIAGE_MOVE is sent with its limit, and the position stays while the carriage is MOVING. A
request that names no station is refused with FIELD_RANGE. One DIE_STATE notice tells of an event (log entry 14). The
detail of a FIELD_RANGE answer is a free value (log entry 8). -/
def Obligations.DieSwapMovesCarriage : Prop :=
  ∀ (tag station : Byte) (s : State), Turn (.dieSwap tag station) s →
    let i := Instr.dieSwap tag station
    let d := s.dev
    let refused (why : Reason) : Prop := exec i s = .next (Served i s d (wrongState why))
    (1 < station.toNat → exec i s = .next (Served i s d ⟨.fieldRange, Config.plainRangeDetail 0x0D, []⟩))
    ∧ ∀ side, station = (match side with | .a => 0 | .b => 1) →
      let busy := d.die.carriage = .querying ∨ d.die.carriage = .moving
      let ready := (d.station side).state = .ready
      let there := d.die.carriage = .idle ∧ d.die.position = some side
      (d.die.press ≠ .stopped → refused .pressNotStopped)
      ∧ (d.die.press = .stopped → busy → refused .carriageBusy)
      ∧ (d.die.press = .stopped → ¬busy → ¬ready → refused .targetNotReady)
      ∧ (d.die.press = .stopped → ¬busy → ready → there → refused .inPosition)
      ∧ (d.die.press = .stopped → ¬busy → ready → ¬there →
        let left := match d.die.active with
          | some other => d.modifyStation other fun y => { y with state := .ready }
          | none => d
        exec i s = .next (Served i s (Device.notifyDie .carriageState { left with
          die := { left.die with
            active := none
            carriage := .moving
            target := some side
            carriageTimer := some ⟨d.time, d.tables.die.carriageLimit * 1000⟩ }
          bus := d.bus ++ [.carriageMove side] }) accepted))

/-- How the carriage's query and moves end (R119, R128, R130, R145, R146): an answer or a done message that names a
station stands the carriage there, IDLE; a READY die there becomes ACTIVE if none is, with its identity, and a
completion (not a query) also opens a batch and sets purge remaining. Without a named station or in time,
CARRIAGE_TIMEOUT is raised. A query's answer after its limit (log entry 34), or in another carriage state, is ignored.
One DIE_STATE notice tells of an event, and names the change of the position, or else of the carriage state (log entry
14). The moment of an expiry is log entry 4. -/
def Obligations.CarriageEndsAndActivates : Prop :=
  ∀ (side : Side) (s : State),
    let d := s.dev
    let lost (e : Device) : State := After s (Device.notifyDie
      (if d.die.position = none then .carriageState else .carriagePosition) { e with
      die := { d.die with position := none, carriage := .lost, carriageTimer := none }
      mail := d.mail ++ [.raise .carriageTimeout { station := d.die.target }] })
    let failed (e : Device) : State := After s (Device.notifyDie .carriageState { e with
      die := { d.die with carriage := .idle, carriageTimer := none }
      mail := d.mail ++ [.raise .carriageTimeout {}] })
    let arrived (t : State) : Prop := t.dev.die.position = some side ∧ t.dev.die.carriage = .idle
      ∧ t.dev.die.carriageTimer = none ∧ t.dev.die.press = d.die.press ∧ t.dev.track = d.track
    let activated (t : State) : Prop := ∀ c, (d.station side).state = .ready → (d.station side).copy = some c →
      d.die.active = none → (t.dev.station side).state = .active ∧ t.dev.die.active = some side
        ∧ t.dev.die.identity = some ⟨side, c.id, c.format, c.holes⟩
        ∧ (c.limit ≤ c.wear → (d.station side).wearReported = false →
            Mail.raise .dieWear { station := some side } ∈ t.dev.mail ∧ (t.dev.station side).wearReported = true)
    let kept (t : State) : Prop := (d.station side).state ≠ .ready ∨ d.die.active.isSome →
      t.dev.die.active = d.die.active ∧ t.dev.die.identity = d.die.identity ∧ t.dev.spread = d.spread
        ∧ ∀ o, t.dev.station o = d.station o
    (d.die.carriage = .querying → (∀ w, d.die.carriageTimer = some w → d.time ≤ w.start + w.limit) →
      (∃ t, exec (.carriageQueryAnswer (some side)) s = .next t ∧ arrived t ∧ activated t ∧ kept t
        ∧ t.dev.spread.batch = d.spread.batch ∧ t.dev.spread.purge = d.spread.purge)
      ∧ exec (.carriageQueryAnswer none) s = .next (failed d))
    ∧ (∀ w, d.die.carriage = .querying → d.die.carriageTimer = some w →
      exec .carriageQueryExpiry s = .next (failed { d with time := max d.time (w.start + w.limit) })
      ∧ (w.start + w.limit < d.time → ∀ station, exec (.carriageQueryAnswer station) s = .next (After s d)))
    ∧ (d.die.carriage ≠ .querying → ∀ station, exec (.carriageQueryAnswer station) s = .next (After s d))
    ∧ (d.die.carriage = .moving ∨ d.die.carriage = .lost →
      ∃ t, exec (.carriageDone (some side)) s = .next t ∧ arrived t ∧ activated t ∧ kept t
        ∧ ∀ c, (d.station side).state = .ready → (d.station side).copy = some c → d.die.active = none →
          t.dev.spread.batch = (d.spread.batch + 1) % 65536
          ∧ t.dev.spread.purge = (d.profile (d.tables.formatMap.getD c.format default).profile).purge)
    ∧ (d.die.carriage = .moving → exec (.carriageDone none) s = .next (lost d)
      ∧ ∀ w, d.die.carriageTimer = some w →
        exec .carriageMoveExpiry s = .next (lost { d with time := max d.time (w.start + w.limit) }))
    ∧ (d.die.carriage = .lost → exec (.carriageDone none) s = .next (After s d))
    ∧ (d.die.carriage = .idle ∨ d.die.carriage = .querying →
      ∀ station, exec (.carriageDone station) s = .next (After s d))

/-- The press (R131, R132): each order and each message of the drive moves the press state as the rule's table says; an
order is sent on the bus and starts the 10 s limit; each change of state places a DIE_STATE notice; PRESS_START is
refused with the first reason that holds, and PRESS_STOP is accepted in every state. At STARTED a slot of NONE with the
chain hold clear is filled (R137, R139): a rod is drawn from the return buffer and its LOAD sent with its limit, or, with
no station ACTIVE and empty fill ON, staged empty. One DIE_STATE notice tells of an
event (log entry 14). The moment of an expiry is log entry 4. PRESS_STOP is taken in its own event (log entry 16). -/
def Obligations.PressCommands : Prop :=
  ∀ (tag : Byte) (s : State),
    let d := s.dev
    let press (p : PressState) (limit : Option Timer) (e : Device) : Device :=
      Device.notifyDie .pressState { e with die := { d.die with press := p, pressTimer := limit } }
    let still (e : Device) : Device := { e with die := { d.die with press := .stopped, pressTimer := none } }
    let run := d.die.press = .starting ∨ d.die.press = .running
    let stopping := press .stopping (some ⟨d.time, 10000⟩) { d with bus := d.bus ++ [.pressStop] }
    let failed (e : Device) : Device :=
      let f := if d.die.press = .stopped then still e else press .stopped none e
      { f with mail := d.mail ++ [.raise .pressDriveFault {}] }
    let start := Instr.pressStart tag
    let stop := Instr.pressStop tag
    let started := press .running none d
    let fills := d.spread.slot = .none ∧ d.spread.hold = false ∧ 0 < d.acc.returnCount
    let drawn := { d.acc with returnCount := d.acc.returnCount - 1 }
    let n := (d.spread.loadNumber + 1) % 256
    (Turn start s →
      (d.die.press ≠ .stopped → exec start s = .next (Served start s d (wrongState .pressNotStopped)))
      ∧ (d.die.press = .stopped → d.die.active = none → exec start s = .next (Served start s d (wrongState .noActiveDie)))
      ∧ (∀ k, d.die.press = .stopped → d.die.active.isSome → d.haltFault = some k →
        exec start s = .next (Served start s d ⟨.wrongState, detailOf Reason.faultSet.ctorIdx (kindNumber k), []⟩))
      ∧ (d.die.press = .stopped → d.die.active.isSome → d.haltFault = none → exec start s = .next (Served start s
          (press .starting (some ⟨d.time, 10000⟩) { d with bus := d.bus ++ [.pressStart] }) accepted)))
    ∧ (Turn stop s → exec stop s = .next (Served stop s (if run then stopping else d) accepted))
    ∧ (∀ rest, d.mail = .pressStop :: rest →
      (run → exec .pressStopOrder s = .next (After s { stopping with mail := rest }))
      ∧ (¬run → exec .pressStopOrder s = .next (After s { d with mail := rest })))
    ∧ (d.die.press = .starting →
      (¬fills ∨ (d.die.active.isSome ∧ d.die.identity = none) ∨ (d.die.active = none ∧ d.tables.spreader.emptyFill = false) →
        exec .pressStarted s = .next (After s started))
      ∧ (∀ who, fills → d.die.active.isSome → d.die.identity = some who → exec .pressStarted s = .next (After s { started with
          acc := drawn
          spread := { d.spread with
            slot := .loading, loadNumber := n, load := some ⟨n, ⟨d.time, d.tables.spreader.loadLimit * 1000⟩, who⟩ }
          bus := d.bus ++ [.load n] }))
      ∧ (fills → d.die.active = none → d.tables.spreader.emptyFill = true → exec .pressStarted s = .next (After s { started with
          acc := drawn
          spread := { d.spread with slot := .emptyStaged } })))
    ∧ (d.die.press ≠ .starting → exec .pressStarted s = .next (After s d))
    ∧ (d.die.press = .stopped → exec .pressHalted s = .next (After s (still d)))
    ∧ (d.die.press = .stopping → exec .pressHalted s = .next (After s (press .stopped none d)))
    ∧ (run → exec .pressHalted s = .next (After s d))
    ∧ exec .pressFaultReport s = .next (After s (failed d))
    ∧ ∀ w, d.die.pressTimer = some w →
      exec .pressAckExpiry s = .next (After s (failed { d with time := max d.time (w.start + w.limit) }))

/-- The zone unit's timers and requests (R53, R96, R102, R107): the periodic timer's expiry restarts it and starts a
round, or is counted while one is in flight; SAMPLE_NOW starts one or is refused; a settle timer runs out; an order to
recompute reaches the zones of its profile; ZONE_ACCEPT makes a zone, or ALL, unlearned and INVALID with a fresh
settle. The moment of an expiry is log entry 4. Settle timers run in whole seconds of the clock (log entry 6), and how
one is noted as run out is log entry 24. -/
def Obligations.ZoneTimersAndRequests : Prop :=
  ∀ s : State,
    let d := s.dev
    let begun (trigger : Trigger) (e : Device) : Device :=
      let n := (d.climate.exchange + 1) % 256
      { e with
        climate := { d.climate with
          periodicFrom := e.time
          exchange := n
          round := some ⟨trigger, e.clock, 0, .read, n, ⟨e.time, 250⟩, []⟩ }
        bus := d.bus ++ [.zoneRead 0 n] }
    let due := { d with time := max d.time (d.climate.periodicFrom + d.tables.sampling.period * 1000) }
    let unlearned (x : ZoneRt) : ZoneRt :=
      { x with identity := none, hold := false, settling := true, misses := 0, valid := false, settleFrom := some d.sec }
    (d.climate.round = none → exec .periodicTimerExpiry s = .next (After s (begun .periodic due)))
    ∧ (d.climate.round.isSome → exec .periodicTimerExpiry s = .next (After s (Device.bump .sampleOverruns { due with
        climate := { d.climate with periodicFrom := due.time } })))
    ∧ (∀ tag, Turn (.sampleNow tag) s →
      (d.climate.round = none → exec (.sampleNow tag) s =
        .next (Served (.sampleNow tag) s (begun .request d) accepted))
      ∧ (d.climate.round.isSome → exec (.sampleNow tag) s = .next (Served (.sampleNow tag) s d (wrongState .none))))
    ∧ (∀ (z : Nat) (e : ZoneEntry) (start : Nat), d.tables.zones[z]? = some e → (d.zone z).settleFrom = some start →
      exec (.settleTimerRunOut z) s = .next (After s { d with
        time := max d.time ((start + e.settle) * 1000)
        climate := { d.climate with zones := d.climate.zones.modify z fun x => { x with settleFrom := none } } }))
    ∧ (∀ (p : Nat) (rest : List Mail), d.mail = .recompute p :: rest → d.climate.zones.length = 12 →
      d.tables.zones.length ≤ 12 →
      ∃ t, exec (.setpointRecomputeOrder p) s = .next t ∧ t.dev.mail = rest ∧ t.dev.track = d.track
        ∧ t.dev.bus = d.bus ∧ t.dev.tables = d.tables
        ∧ ∀ z, t.dev.zone z =
          (let x := d.zone z
          if z < d.tables.zones.length ∧ x.profile = p then { x with
            effTemp := (d.profile p).temp.getD z 0
            effHum := min 1000 ((d.profile p).hum.getD z 0 + x.trim)
            settleFrom := some d.sec }
          else x))
    ∧ ∀ tag zone, Turn (.zoneAccept tag zone) s → d.climate.zones.length = 12 → d.tables.zones.length ≤ 12 →
      (zone = 0xFF → ∃ t, exec (.zoneAccept tag zone) s = .next t ∧ Replied (.zoneAccept tag zone) .accepted t.dev
        ∧ t.dev.track = d.track ∧ t.dev.mail = d.mail
        ∧ ∀ z, t.dev.zone z = if z < d.tables.zones.length then unlearned (d.zone z) else d.zone z)
      ∧ (zone.toNat < d.tables.zones.length → exec (.zoneAccept tag zone) s = .next (Served (.zoneAccept tag zone) s
          { d with climate := { d.climate with zones := d.climate.zones.modify zone.toNat unlearned } } accepted))
      ∧ (zone ≠ 0xFF → d.tables.zones.length ≤ zone.toNat →
        exec (.zoneAccept tag zone) s = .next (Served (.zoneAccept tag zone) s d indexRange))

/-- A READ reply that carries the number in flight (R97, R98, R100, R101, R104, R105): under a hold, or from a module
that is not the learned one, it is a mismatch; with settling pending it is the settling reply, which learns the module;
otherwise it is a reading, judged by the monitors unless the settle timer counts, with the ZONE_MONITOR notices and the
CLIMATE_DEVIATION raises that the edge mode asks for, temperature first (R106). A SET follows a reading or a settling
reply if the module holds other setpoints; otherwise the round goes on. Any other number is ignored, and so is a reply
after the READ's limit (log entry 34). Whether a settle timer counts is read from the clock (log entry 24). -/
def Obligations.ReadReplyTaken : Prop :=
  ∀ (number : Byte) (m : ModuleReply) (s : State),
    let d := s.dev
    let i := Instr.readReply number m
    let n := (d.climate.exchange + 1) % 256
    ((∀ r, d.climate.round = some r → r.phase = .read → r.number = number.toNat → r.timer.start + r.timer.limit < d.time) →
      exec i s = .next (After s d))
    ∧ ∀ (r : Round) (e : ZoneEntry), d.climate.round = some r → r.phase = .read → r.number = number.toNat →
      d.time ≤ r.timer.start + r.timer.limit →
      d.tables.zones[r.zone]? = some e → r.zone < d.climate.zones.length →
      let x := d.zone r.zone
      let heard := { x with misses := 0 }
      let known := x.identity = none ∨ x.identity = some m.moduleId.toNat
      let heater := if x.output = .ok ∧ m.output = .fault then [Mail.raise .heaterFault { zone := some r.zone }] else []
      let goesOn (outcome : ReadOutcome) (t : State) : Prop :=
        (r.zone + 1 < d.tables.zones.length →
          t.dev.climate.round = some { r with
            zone := r.zone + 1, number := n, timer := ⟨d.time, 250⟩, results := r.results ++ [⟨r.zone, outcome, none⟩] }
          ∧ t.dev.bus = d.bus ++ [.zoneRead (r.zone + 1) n])
        ∧ (d.tables.zones.length ≤ r.zone + 1 → t.dev.climate.round = none ∧ t.dev.bus = d.bus
          ∧ t.dev.counts.getD Count.sampleRounds.index 0 = (d.bump .sampleRounds).counts.getD Count.sampleRounds.index 0)
      let setOr (outcome : ReadOutcome) (t : State) : Prop :=
        let differs := m.heldTemp.toNat ≠ x.effTemp ∨ m.heldHum.toNat ≠ x.effHum
        (differs → t.dev.climate.round = some { r with phase := .set outcome, number := n, timer := ⟨d.time, 250⟩ }
          ∧ t.dev.bus = d.bus ++ [.zoneSet r.zone n x.effTemp x.effHum])
        ∧ (¬differs → goesOn outcome t)
      let judge (out : Bool) (band value setpoint : Nat) : Bool :=
        let difference := ((value : Int) - (setpoint : Int)).natAbs
        if d.settleCounting r.zone = true ∨ band = 0 then out
        else if out then decide (band / 2 < difference) else decide (band < difference)
      let leaves (was now : Bool) : Prop := was = false ∧ now = true ∧ e.edge ≠ .ret
      let returns (was now : Bool) : Prop := was = true ∧ now = false ∧ e.edge ≠ .leave
      let noted (monitor : Monitor) (was now : Bool) (value setpoint band : Nat) : List Notice :=
        if leaves was now then [.zoneMonitor r.zone monitor .leave value setpoint band d.clock]
        else if returns was now then [.zoneMonitor r.zone monitor .ret value setpoint band d.clock]
        else []
      let deviates (was now : Bool) : List Mail :=
        if leaves was now then [.raise .climateDeviation { zone := some r.zone }] else []
      let taken (y : ZoneRt) (after : State → Prop) : Prop :=
        ∃ t, exec i s = .next t ∧ t.dev.zone r.zone = y ∧ (∀ z, z ≠ r.zone → t.dev.zone z = d.zone z)
          ∧ t.dev.track = d.track ∧ after t
      (x.hold = true → taken heard fun t => goesOn .mismatch t ∧ t.dev.mail = d.mail)
      ∧ (x.hold = false → ¬known → taken { heard with valid := false, hold := true } fun t => goesOn .mismatch t
          ∧ t.dev.mail = d.mail ++ [.raise .moduleMismatch { zone := some r.zone }])
      ∧ (x.hold = false → known → x.settling = true →
        taken { heard with identity := some m.moduleId.toNat, settling := false, output := m.output } fun t =>
          setOr .settling t ∧ t.dev.mail = d.mail ++ heater)
      ∧ (x.hold = false → known → x.settling = false →
        let tempOut := judge x.tempOut e.tempBand m.temp.toNat x.effTemp
        let humOut := judge x.humOut e.humBand m.hum.toNat x.effHum
        taken { heard with
          reading := some ⟨m.temp.toNat, m.hum.toNat, d.clock⟩
          valid := true
          output := m.output
          tempOut := tempOut
          humOut := humOut } fun t =>
          setOr .reading t
          ∧ t.dev.mail = d.mail ++ heater ++ deviates x.tempOut tempOut ++ deviates x.humOut humOut
          ∧ (d.link.tx.isSome → d.link.notices.length + 2 ≤ 32 → ∃ rest, t.dev.link.notices = d.link.notices
              ++ noted .temperature x.tempOut tempOut m.temp.toNat x.effTemp e.tempBand
              ++ noted .humidity x.humOut humOut m.hum.toNat x.effHum e.humBand ++ rest
            ∧ ∀ z monitor edge value setpoint band time,
              Notice.zoneMonitor z monitor edge value setpoint band time ∉ rest))

/-- A missed READ, and the end of a SET (R97, R99, R103): a miss is counted, and the third in a row makes a VALID zone
INVALID with settling pending and ZONE_MODULE_LOST raised; a SET ends DONE or FAILED and changes no zone; the round then
reads the next zone, or ends with a SAMPLE_ROUND notice. An answer to another SET, or after the SET's limit (log entry
34), is ignored. The moment of an expiry is log entry 4. -/
def Obligations.MissesAndSetsEnd : Prop :=
  ∀ (s : State) (r : Round), s.dev.climate.round = some r →
    let d := s.dev
    let n := (d.climate.exchange + 1) % 256
    let x := d.zone r.zone
    let late := { d with time := max d.time (r.timer.start + r.timer.limit) }
    let goesOn (e : Device) (result : ZoneResult) : Device :=
      if r.zone + 1 < d.tables.zones.length then { e with
        climate := { e.climate with
          exchange := n
          round := some ⟨r.trigger, r.start, r.zone + 1, .read, n, ⟨e.time, 250⟩, r.results ++ [result]⟩ }
        bus := d.bus ++ [.zoneRead (r.zone + 1) n] }
      else Device.notify
        (.sampleRound r.trigger r.start e.clock ((r.results ++ [result]).map fun q =>
          ⟨q, (e.zone q.zone).valid, (e.zone q.zone).profile, (e.zone q.zone).trim⟩))
        (Device.bump .sampleRounds { e with climate := { e.climate with round := none } })
    let lost := x.valid = true ∧ x.misses = 2
    let missed : Device := { late.bump .readMisses with
      climate := { d.climate with zones := d.climate.zones.modify r.zone fun y =>
        if lost then { y with misses := 3, valid := false, settling := true } else { y with misses := min 3 (y.misses + 1) } }
      mail := d.mail ++ if lost then [.raise .zoneModuleLost { zone := some r.zone }] else [] }
    (r.phase = .read → r.zone < d.climate.zones.length →
      exec .readLimitExpiry s = .next (After s (goesOn missed ⟨r.zone, .miss, none⟩)))
    ∧ (∀ outcome, r.phase = .set outcome →
      (∀ (number : Byte) (ok : Bool), r.number = number.toNat → d.time ≤ r.timer.start + r.timer.limit →
        exec (.setReply number ok) s = .next (After s (goesOn d ⟨r.zone, outcome, some ok⟩)))
      ∧ exec .setLimitExpiry s = .next (After s (goesOn late ⟨r.zone, outcome, some false⟩)))
    ∧ ∀ (number : Byte) (ok : Bool), r.number ≠ number.toNat ∨ r.phase = .read ∨ r.timer.start + r.timer.limit < d.time →
      exec (.setReply number ok) s = .next (After s d)

/-- The gauge's answers (R53, R55, R168, R169, R170): a result for the measurement in flight corrects the moisture of
its rod, at a position, in a lane or in the strip slot, sets GAUGED with the deviation, moves the profile's factor by 4
within 128..512 when the deviation passes half the band, and raises GAUGE_DEVIATION beyond it; where no live record has the
rod's id, or the one that has it was born at another time, the result is late; a fail report or the limit raises
GAUGE_TIMEOUT; an order of a profile write sets the factor to 256. That no two live records share an id is a premise (R6).
The moment of an expiry is log entry 4. That a result for a record without product is late is the model's choice (log
entry 26). -/
def Obligations.GaugeOutcomes : Prop :=
  ∀ (number : Byte) (rod value : Half) (s : State),
    let d := s.dev
    let idle (e : Device) : Device := { e with gauge := { d.gauge with inFlight := none } }
    (∀ m, d.gauge.inFlight = some m → m.number = number.toNat → m.rod = rod.toNat →
      let measured := min 4000 value.toNat
      let deviation (x : Product) : Int := (x.moisture : Int) - (measured : Int)
      let corrected (r : Rod) (x : Product) : Rod := { r with
        flags := { r.flags with gauged := true }
        product := some { x with moisture := measured }
        gauge := some ⟨measured, deviation x, d.clock⟩ }
      let applied (r : Rod) (x : Product) (positions : List Content) (lanes : List LaneRt) (slot : Option StripSlot) : Prop :=
        let band := (d.profile x.profile).band
        exec (.gaugeResult number rod value) s = .next (After s { d.bump .gauged with
          track := { d.track with positions := positions }
          acc := { d.acc with lanes := lanes, slot := slot }
          gauge := { d.gauge with
            inFlight := none
            factors := d.gauge.factors.modify x.profile fun c =>
              if ((band / 2 : Nat) : Int) < deviation x then min 512 (c + 4)
              else if deviation x < -((band / 2 : Nat) : Int) then max 128 (c - 4)
              else c }
          mail := d.mail ++ if band ≠ 0 ∧ ((band : Int) < deviation x ∨ deviation x < -(band : Int)) then
            [.raise .gaugeDeviation { rod := some r.id }] else [] })
      let late : Prop := exec (.gaugeResult number rod value) s = .next (After s (Device.bump .gaugeLate (idle d)))
      (d.liveIds.Nodup → ∀ (r : Rod) (x : Product), r.id = m.rod → r.born = m.born → r.product = some x →
        (∀ k, d.track.positions[k]? = some (.loaded r) →
          applied r x (d.track.positions.set k (.loaded (corrected r x))) d.acc.lanes d.acc.slot)
        ∧ (∀ l k lane, d.acc.lanes[l]? = some lane → lane.records[k]? = some r →
          applied r x d.track.positions
            (d.acc.lanes.set l { lane with records := lane.records.set k (corrected r x) }) d.acc.slot)
        ∧ (∀ slot, d.acc.slot = some slot → slot.rod = r →
          applied r x d.track.positions d.acc.lanes (some { slot with rod := corrected r x })))
      ∧ ((∀ q ∈ d.liveRods, q.id = m.rod → q.born ≠ m.born) → late)
      ∧ ((∀ q ∈ d.liveRods, q.id = m.rod → q.product = none) → late))
    ∧ ((∀ m, d.gauge.inFlight = some m → m.number ≠ number.toNat ∨ m.rod ≠ rod.toNat) →
      exec (.gaugeResult number rod value) s = .next (After s (d.bump .gaugeLate)))
    ∧ (∀ m, d.gauge.inFlight = some m →
      let lost (e : Device) : Device := { idle e with
        mail := d.mail ++ [.raise .gaugeTimeout { rod := some m.rod, measurement := some m.number }] }
      (m.number = number.toNat → exec (.gaugeFailReport number) s = .next (After s (lost d)))
      ∧ exec .gaugeLimitExpiry s = .next (After s (lost { d with time := max d.time (m.timer.start + m.timer.limit) })))
    ∧ ((∀ m, d.gauge.inFlight = some m → m.number ≠ number.toNat) →
      exec (.gaugeFailReport number) s = .next (After s d))
    ∧ ∀ p rest, d.mail = .reset p :: rest → exec (.correctionResetOrder p) s = .next (After s { d with
        gauge := { d.gauge with factors := d.gauge.factors.modify p fun _ => 256 }
        mail := rest })

/-- The stripper's answers (R159, R160, R163): a done message of the current strip closes the record by its gate, counts
the strip, and sends the empty rod to the return buffer, or to spill with RETURN_OVERFLOW; a fault report or the limit
stalls the stripper; a done message of no strip is counted. The arbiter (`accEnd`) follows a completion. The moment of
an expiry is log entry 4.
Counts of rods wrap in 32 bits (log entry 37). -/
def Obligations.StripOutcomes : Prop :=
  ∀ (number : Byte) (s : State),
    let d := s.dev
    let busy := d.acc.stripper = .stripping ∨ d.acc.stripper = .stalled
    (∀ x, busy → d.acc.slot = some x → d.acc.number = number.toNat →
      let outcome := match x.gate with
        | .pack => CloseOutcome.packed
        | .rework => CloseOutcome.reworked
      let closed := Device.notify (.rodOut { x.rod with close := some ⟨outcome, d.clock⟩ }) d
      let room := d.acc.returnDeclared = true ∧ d.acc.returnCount < d.tables.acc.returnCap
      (room → exec (.stripDone number) s = .next (After s (Device.accEnd false (Device.bump .stripsDone (Device.fill { closed with
          acc := { d.acc with slot := none, timer := none, stripper := .idle, returnCount := d.acc.returnCount + 1 } })))))
      ∧ (¬room → exec (.stripDone number) s = .next (After s (Device.accEnd false (Device.bump .stripsDone { closed with
          acc := { d.acc with slot := none, timer := none, stripper := .idle }
          track := { d.track with spill := (d.track.spill + 1) % 4294967296 }
          mail := d.mail ++ [.raise .returnOverflow { strip := some d.acc.number }] })))))
    ∧ (d.acc.stripper = .idle ∨ d.acc.slot = none ∨ d.acc.number ≠ number.toNat →
      exec (.stripDone number) s = .next (After s (d.bump .lateDones)))
    ∧ (∀ x, d.acc.stripper = .stripping → d.acc.slot = some x →
      let stalled (e : Device) (kind : FaultKind) : State := After s { e.bump .stripFaults with
        acc := { d.acc with stripper := .stalled, timer := none }
        mail := d.mail ++ [.raise kind { lane := some x.lane, rod := some x.rod.id, strip := some d.acc.number }] }
      (d.acc.number = number.toNat → exec (.stripFaultReport number) s = .next (stalled d .stripFault))
      ∧ ∀ w, d.acc.timer = some w → exec .stripLimitExpiry s =
        .next (stalled { d with time := max d.time (w.start + w.limit) } .stripperTimeout))
    ∧ (d.acc.stripper ≠ .stripping ∨ d.acc.number ≠ number.toNat →
      exec (.stripFaultReport number) s = .next (After s d))

/-- STRIP_RETRY and STRIP_DISCARD settle a STALLED strip and are refused otherwise (R161); STRIP_PAUSE sets the pause, and
STRIP_RESUME clears it, after which an IDLE stripper takes the head of the lowest STRICT lane that holds a record, or else of
the first RATIO lane with a record and credit, cyclically from the round pointer, charging it; where RATIO lanes hold records
but none has credit, every RATIO lane's credit is its weight first (R156, R157, R162).
Counts of rods wrap in 32 bits (log entry 37). -/
def Obligations.StripRequests : Prop :=
  ∀ (tag : Byte) (s : State),
    let d := s.dev
    let retry := Instr.stripRetry tag
    let discard := Instr.stripDiscard tag
    let pause := Instr.stripPause tag
    let resume := Instr.stripResume tag
    let n := (d.acc.number + 1) % 256
    let ready (l : Nat) : Prop := (d.lane l).declared = true ∧ (d.lane l).records ≠ []
    let strict (l : Nat) : Prop := (d.laneEntry l).mode = .strict ∧ ready l
    let candidate (l : Nat) : Prop := (d.laneEntry l).mode = .ratio ∧ ready l ∧ 0 < (d.lane l).credit
    let granted (l : Nat) (r : Rod) (lanes : List LaneRt) (pointer : Nat) : Device := { d with
      acc := { d.acc with
        lanes := lanes
        pointer := pointer
        paused := false
        slot := some ⟨r, l, (d.laneEntry l).dest⟩
        number := n
        stripper := .stripping
        timer := some ⟨d.time, d.tables.acc.stripLimit * 1000⟩ }
      bus := d.bus ++ [.stripStart n r.id (d.laneEntry l).dest]
      mail := d.mail ++ [.retry .freePlace] }
    (∀ x, d.acc.stripper = .stalled → d.acc.slot = some x →
      (Turn retry s → exec retry s = .next (Served retry s { d with
        acc := { d.acc with
          number := n
          stripper := .stripping
          timer := some ⟨d.time, d.tables.acc.stripLimit * 1000⟩ }
        bus := d.bus ++ [.stripStart n x.rod.id x.gate] } (acceptedWith (u8 n))))
      ∧ (Turn discard s → exec discard s = .next (Served discard s (Device.accEnd false {
          Device.notify (.rodOut { x.rod with close := some ⟨.discarded, d.clock⟩ }) d with
            acc := { d.acc with slot := none, timer := none, stripper := .idle }
            track := { d.track with spill := (d.track.spill + 1) % 4294967296 } }) accepted)))
    ∧ (d.acc.stripper ≠ .stalled →
      (Turn retry s → exec retry s = .next (Served retry s d (wrongState .none)))
      ∧ (Turn discard s → exec discard s = .next (Served discard s d (wrongState .none))))
    ∧ (Turn pause s →
      exec pause s = .next (Served pause s { d with acc := { d.acc with paused := true } } accepted))
    ∧ (Turn resume s → d.acc.stripper ≠ .idle ∨ (∀ l, l < 4 → ¬ready l) →
      exec resume s = .next (Served resume s { d with acc := { d.acc with paused := false } } accepted))
    ∧ (Turn resume s → d.acc.stripper = .idle → ∀ (l : Nat) (r : Rod) (rest : List Rod), (d.lane l).records = r :: rest →
      (l < 4 → strict l → (∀ k, k < l → ¬strict k) → exec resume s = .next (Served resume s
        (granted l r (d.acc.lanes.modify l fun x => { x with records := rest }) d.acc.pointer) accepted))
      ∧ (∀ k, k < 4 → l = (d.acc.pointer + k) % 4 → candidate l → (∀ j, j < 4 → ¬strict j) →
        (∀ j, j < k → ¬candidate ((d.acc.pointer + j) % 4)) →
        let credit := (d.lane l).credit - 1
        exec resume s = .next (Served resume s
          (granted l r (d.acc.lanes.modify l fun x => { x with records := rest, credit := credit })
            (if credit = 0 then (l + 1) % 4 else l)) accepted))
      ∧ (∀ k, k < 4 → l = (d.acc.pointer + k) % 4 → (d.laneEntry l).mode = .ratio → (d.lane l).declared = true →
        0 < (d.laneEntry l).weight → (∀ j, j < 4 → ¬strict j) → (∀ j, j < 4 → ¬candidate j) →
        (∀ j, j < k → ¬((d.laneEntry ((d.acc.pointer + j) % 4)).mode = .ratio ∧ ready ((d.acc.pointer + j) % 4))) →
        let credit := (d.laneEntry l).weight - 1
        let refilled := d.acc.lanes.zipIdx.map fun p =>
          if (d.laneEntry p.2).mode = .ratio then { p.1 with credit := (d.laneEntry p.2).weight } else p.1
        exec resume s = .next (Served resume s
          (granted l r (refilled.modify l fun x => { x with records := rest, credit := credit })
            (if credit = 0 then (l + 1) % 4 else l)) accepted)))

/-- The host's declarations and corrections of the stores (R16, R154, R155, R164): each refusal by its condition;
LANE_DECLARE puts new UNTRACKED records behind those of the lane under new ids and answers with the id of the first, or 0 for
none; RETURN_DECLARE sets the count, which moves an established inventory by the difference; after each of the two the
inventory is established where R16 asks for it. ROD_ADD and ROD_REMOVE move the return buffer's count, or the spill count,
with the inventory count, and answer with what it has become. That ROD_ADD answers the count before the spreader unit's fill
decision of the same event draws a rod is the model's choice (log entry 26), and so is that LANE_DECLARE meets
its conditions in the order of R154's table, a declared lane before a count above its capacity (log entry 25); the detail of a FIELD_RANGE answer is a free
value (log entry 8), and counts wrap in 32 bits (log entry 37). -/
def Obligations.StoresDeclaredAndCorrected : Prop :=
  ∀ (tag lane count : Byte) (n : Half) (s : State),
    let d := s.dev
    let declare := Instr.laneDeclare tag lane count
    let setReturn := Instr.returnDeclare tag n
    let add := Instr.rodAdd tag n
    let remove := Instr.rodRemoveReturn tag n
    let spill := Instr.rodRemoveSpill tag lane n
    let c := d.acc.returnCount
    let outOfRange (kind : Byte) : Answer := ⟨.fieldRange, Config.plainRangeDetail kind, []⟩
    (Turn declare s → d.acc.lanes.length = 4 →
      (3 < lane.toNat → exec declare s = .next (Served declare s d indexRange))
      ∧ (lane.toNat ≤ 3 → (d.lane lane.toNat).declared = true →
        exec declare s = .next (Served declare s d (wrongState .none)))
      ∧ (lane.toNat ≤ 3 → (d.lane lane.toNat).declared = false → (d.laneEntry lane.toNat).capacity < count.toNat →
        exec declare s = .next (Served declare s d (outOfRange 0x12)))
      ∧ (lane.toNat ≤ 3 → (d.lane lane.toNat).declared = false → count.toNat ≤ (d.laneEntry lane.toNat).capacity →
        ∃ new : List Rod, new.length = count.toNat
          ∧ (∀ r ∈ new, r.product = none ∧ r.born = d.clock ∧ r.flags = {} ∧ r.gauge = none ∧ r.exit = none ∧ r.close = none)
          ∧ (d.liveIds.length + count.toNat ≤ 65535 → (new.map Rod.id).Nodup ∧ ∀ r ∈ new, r.id ∉ d.liveIds)
          ∧ (let e : Device := { d with
              track := { d.track with lastId := ((new.map Rod.id).getLast?).getD d.track.lastId }
              acc := { d.acc with lanes := d.acc.lanes.modify lane.toNat fun x =>
                { x with records := x.records ++ new, declared := true } } }
            exec declare s = .next (Served declare s (Device.accEnd (e.hasRoom lane.toNat) (Established e))
              (acceptedWith (u16 ((new.map Rod.id).headD 0)))))))
    ∧ (Turn setReturn s →
      (d.tables.acc.returnCap < n.toNat → exec setReturn s = .next (Served setReturn s d (outOfRange 0x13)))
      ∧ (n.toNat ≤ d.tables.acc.returnCap →
        let e : Device := { d with
          acc := { d.acc with returnCount := n.toNat, returnDeclared := true }
          track := { d.track with inventory := if d.track.established then
            (((d.track.inventory : Int) + (n.toNat : Int) - (c : Int)) % 4294967296).toNat else d.track.inventory } }
        exec setReturn s = .next (Served setReturn s (Device.accEnd false
          (if c < n.toNat then Device.fill (Established e) else Established e)) accepted)))
    ∧ (Turn add s →
      (n.toNat = 0 ∨ 1023 < n.toNat → exec add s = .next (Served add s d (outOfRange 0x10)))
      ∧ (1 ≤ n.toNat → n.toNat ≤ 1023 → d.acc.returnDeclared = false →
        exec add s = .next (Served add s d (wrongState .undeclared)))
      ∧ (1 ≤ n.toNat → n.toNat ≤ 1023 → d.acc.returnDeclared = true → d.tables.acc.returnCap < c + n.toNat →
        exec add s = .next (Served add s d (wrongState .noRoom)))
      ∧ (1 ≤ n.toNat → n.toNat ≤ 1023 → d.acc.returnDeclared = true → c + n.toNat ≤ d.tables.acc.returnCap →
        exec add s = .next (Served add s (Device.accEnd false (Device.fill (Device.inventoryAdd n.toNat { d with
          acc := { d.acc with returnCount := c + n.toNat } }))) (acceptedWith (u16 (c + n.toNat))))))
    ∧ (Turn remove s →
      (n.toNat = 0 → exec remove s = .next (Served remove s d (outOfRange 0x11)))
      ∧ (n.toNat ≠ 0 → c < n.toNat → exec remove s = .next (Served remove s d (wrongState .none)))
      ∧ (n.toNat ≠ 0 → n.toNat ≤ c → exec remove s = .next (Served remove s (Device.accEnd false (Device.inventorySub n.toNat
          { d with acc := { d.acc with returnCount := c - n.toNat } })) (acceptedWith (u16 (c - n.toNat))))))
    ∧ (Turn spill s →
      (1 < lane.toNat ∨ (lane = 1 ∧ n.toNat = 0) → exec spill s = .next (Served spill s d (outOfRange 0x11)))
      ∧ (lane = 1 → n.toNat ≠ 0 → d.track.spill < n.toNat → exec spill s = .next (Served spill s d (wrongState .none)))
      ∧ (lane = 1 → n.toNat ≠ 0 → n.toNat ≤ d.track.spill →
        exec spill s = .next (Served spill s (Device.accEnd false (Device.inventorySub n.toNat
          { d with track := { d.track with spill := d.track.spill - n.toNat } })) (acceptedWith (u32 (d.track.spill - n.toNat))))))

/-- A raise at the fault log (R174, R176 to R180): a masked kind is counted only; an unmasked one is also SET, fills an empty
first-fault record, places a FAULT notice, and hands the stop orders of its severity. The other kinds are as they were. -/
def Obligations.FaultRaiseTaken : Prop :=
  ∀ (k : FaultKind) (c : Context) (rest : List Mail) (s : State), s.dev.mail = .raise k c :: rest →
    s.dev.log.kinds.length = 23 →
    let d := s.dev
    let count := min 255 ((d.kindState k).count + 1)
    let severity := (d.faultSetting k).severity
    let orders := match severity with
      | .halt => [Mail.stop .haltFault, Mail.pressStop]
      | .hold => [Mail.stop .holdFault]
      | .note => []
    ∃ t, exec (.faultRaise k c) s = .next t ∧ (∀ j, j ≠ k → t.dev.kindState j = d.kindState j)
      ∧ t.dev.pace = d.pace ∧ t.dev.die = d.die ∧ t.dev.track = d.track ∧ t.dev.tables = d.tables
      ∧ ((d.faultSetting k).masked = true → t.dev.kindState k = ⟨(d.kindState k).set, count⟩
        ∧ t.dev.log.first = d.log.first ∧ t.dev.mail = rest ∧ t.dev.link = (Device.pump d).link)
      ∧ ((d.faultSetting k).masked = false → t.dev.kindState k = ⟨true, count⟩ ∧ t.dev.mail = rest ++ orders
        ∧ t.dev.log.first = some (d.log.first.getD ⟨k, severity, d.clock, c⟩)
        ∧ (d.link.notices.length < 32 → d.link.tx.isSome → t.dev.link.notices = d.link.notices ++
          [.fault k severity d.clock c count d.log.first.isNone d.pace.line d.pace.cause])
        ∧ (32 ≤ d.link.notices.length → d.link.tx.isSome → t.dev.link.notices = d.link.notices
          ∧ t.dev.link.droppedSince = min 65535 (d.link.droppedSince + 1)))

/-- FAULT_CLEAR (R184): each kind named, or every kind for ALL, is CLEAR with count 0, the first-fault record is emptied
if it holds one of them, and the reply is ACCEPTED; a kind above 22 refuses the request, and a list of no kind, or of
more than 23, is answered LENGTH_ERROR; a refused request clears nothing. The detail of a FIELD_RANGE answer is a free
value (log entry 8). -/
def Obligations.FaultClearClears : Prop :=
  ∀ (tag : Byte) (kinds : List Byte) (s : State), Turn (.faultClear tag kinds) s →
    let d := s.dev
    let i := Instr.faultClear tag kinds
    let named (k : FaultKind) : Prop := kinds = [0xFF] ∨ ∃ b ∈ kinds, b.toNat = kindNumber k
    let admitted := kinds = [0xFF] ∨ ∀ b ∈ kinds, b.toNat ≤ 22
    (kinds.length = 0 ∨ 23 < kinds.length → exec i s = .next (Served i s d ⟨.lengthError, 0, []⟩))
    ∧ (1 ≤ kinds.length → kinds.length ≤ 23 → ¬admitted →
      ∃ detail, exec i s = .next (Served i s d ⟨.fieldRange, detail, []⟩))
    ∧ (1 ≤ kinds.length → kinds.length ≤ 23 → admitted → d.log.kinds.length = 23 →
      ∃ t, exec i s = .next t ∧ Replied i .accepted t.dev ∧ (∀ k, named k → t.dev.kindState k = ⟨false, 0⟩)
        ∧ (∀ k, ¬named k → t.dev.kindState k = d.kindState k)
        ∧ (∀ f, d.log.first = some f → (named f.kind → t.dev.log.first = none) ∧ (¬named f.kind → t.dev.log.first = some f))
        ∧ (d.log.first = none → t.dev.log.first = none)
        ∧ t.dev.tables = d.tables ∧ t.dev.mail = d.mail ∧ t.dev.pace = d.pace ∧ t.dev.die = d.die
        ∧ t.dev.link.notices.length ≤ d.link.notices.length)

/-- Every step keeps the law on correction factors (R170), the law on the return buffer (R158) and what chapter 4 says
of the pacer, the line and the move in flight (R66). That the pacer is MOVING with no move in flight until a shift has
been reported done is log entry 11. -/
def Obligations.FactorReturnMoveLawsKept : Prop :=
  ∀ s t : State, step s = .next t →
    (FactorLaw s.dev → FactorLaw t.dev) ∧ (ReturnLaw s.dev → ReturnLaw t.dev) ∧ (MoveLaw s.dev → MoveLaw t.dev)

/-- Every step keeps the sizes of the host link's queues (R188, R190), and the order in which the link port serves
requests: one at a time, its replies freeing the head's place (R188). A reply whose request's place a RESTART has
freed holds none (log entry 38). -/
def Obligations.LinkLawsKept : Prop :=
  ∀ s t : State, step s = .next t → (QueueLaw s.dev → QueueLaw t.dev) ∧ (ServeLaw s.dev → ServeLaw t.dev)

/-- Every step keeps the law on the zone layout, which covers the L positions of the track (R2, R88), and the law on
trim (R91). The law on the layout covers the stored copy too, which is held as its tables (log entry 9). -/
def Obligations.LayoutAndTrimLawsKept : Prop :=
  ∀ s t : State, step s = .next t → (TunnelLaw s.dev → TunnelLaw t.dev) ∧ (TrimLaw s.dev → TrimLaw t.dev)

/-- Every step keeps the law on dies (R119) and the law on the press (R131): at most one station is ACTIVE, it stands
in the extrusion position and holds a record read with a correct check and fields in their ranges, and the press is
RUNNING or STARTING only while one is. That the format was mapped when the record was read is in DieMemoryOutcomes:
the map may have been written since. The check held is that of the record as read, over its wear at read (log entry
36). -/
def Obligations.DieAndPressLawKept : Prop :=
  ∀ s t : State, DieLaw s.dev → step s = .next t → DieLaw t.dev

/-- Every step keeps the law on lanes (R148): no lane holds more records and reservations than its capacity, and the
capacities sum to at most 240. The law covers the stored copy too, which is held as its tables (log entry 9). -/
def Obligations.LaneLawKept : Prop :=
  ∀ s t : State, LaneLaw s.dev → step s = .next t → LaneLaw t.dev

/-- Every step keeps the law on inventory (R17), while the laws on the tunnel and the lanes hold: while the inventory
is established its count is the sum of the rods in the tunnel, the lanes, the strip slot, the staged slot, the return
buffer and spill, in 32 bits. With them it keeps the law on rod ids (R6): no two live records share an id, and none
has id 0. Counts of rods wrap in 32 bits: the model's choice (log entry 37). The law on the tunnel covers the stored
copy, which is held as its tables (log entry 9). -/
def Obligations.InventoryAndIdLawsKept : Prop :=
  ∀ s t : State, TunnelLaw s.dev → LaneLaw s.dev → step s = .next t →
    (InventoryLaw s.dev → InventoryLaw t.dev) ∧ (IdLaw s.dev → IdLaw t.dev)

/-- Every law of Safety holds at reset. They cover the stored copy too, held as its tables (log entry 9), and at reset
the store was never written: the model's choice (log entry 1). -/
def Obligations.LawsAtReset : Prop :=
  let d := State.reset.dev
  FactorLaw d ∧ ReturnLaw d ∧ MoveLaw d ∧ QueueLaw d ∧ ServeLaw d ∧ TunnelLaw d ∧ TrimLaw d ∧ DieLaw d ∧ LaneLaw d
    ∧ InventoryLaw d ∧ IdLaw d
end

