-- ==== Sys2Proof/Laws/Coding.lean ====
section
/-! SUPPORT. The two-byte values of the host link, and what the byte coding of R199 gives back. -/

namespace Sys2Proof

theorem halfOf_toNat (a b : Byte) : (halfOf a b).toNat = b.toNat * 256 + a.toNat := by
  simp only [halfOf, BitVec.toNat_append]
  rw [← Nat.shiftLeft_add_eq_or_of_lt a.isLt, Nat.shiftLeft_eq]

@[simp] theorem low_halfOf (a b : Byte) : (halfOf a b).low = a := by
  apply BitVec.eq_of_toNat_eq
  have := a.isLt
  simp only [Half.low, BitVec.toNat_setWidth, halfOf_toNat]; omega

@[simp] theorem high_halfOf (a b : Byte) : (halfOf a b).high = b := by
  apply BitVec.eq_of_toNat_eq
  have := a.isLt; have := b.isLt
  simp only [Half.high, BitVec.toNat_setWidth, BitVec.toNat_ushiftRight, halfOf_toNat, Nat.shiftRight_eq_div_pow]; omega

@[simp] theorem halfOf_low_high (h : Half) : halfOf h.low h.high = h := by
  apply BitVec.eq_of_toNat_eq
  have := h.isLt
  simp only [halfOf_toNat, Half.low, Half.high, BitVec.toNat_setWidth, BitVec.toNat_ushiftRight, Nat.shiftRight_eq_div_pow]
  omega

theorem half_bytes (h : Half) : h.bytes = [h.low, h.high] := rfl

@[simp] theorem u8_length (n : Nat) : (u8 n).length = 1 := rfl

@[simp] theorem u16_length (n : Nat) : (u16 n).length = 2 := rfl

@[simp] theorem u32_length (n : Nat) : (u32 n).length = 4 := rfl

/-- A number below 256 is read back from its byte. -/
theorem leNat_u8 {n : Nat} (h : n < 256) : leNat (u8 n) = n := by
  simp [u8, leNat]; omega

/-- A number below 65536 is read back from its two bytes. -/
theorem leNat_u16 {n : Nat} (h : n < 65536) : leNat (u16 n) = n := by
  simp [u16, leNat]; omega

end Sys2Proof
end

