-- ==== Sys2Proof/Laws/State.lean ====
section
/-! SUPPORT. One lemma per field per update of the part, so that no later proof unfolds a record update. -/

namespace Sys2Proof.Machine

/-! The updates of Ops. -/

@[simp] theorem Device.bump_time (c : Count) (d : Device) : (d.bump c).time = d.time := rfl
@[simp] theorem Device.bump_tables (c : Count) (d : Device) : (d.bump c).tables = d.tables := rfl
@[simp] theorem Device.bump_stored (c : Count) (d : Device) : (d.bump c).stored = d.stored := rfl
@[simp] theorem Device.bump_track (c : Count) (d : Device) : (d.bump c).track = d.track := rfl
@[simp] theorem Device.bump_pace (c : Count) (d : Device) : (d.bump c).pace = d.pace := rfl
@[simp] theorem Device.bump_climate (c : Count) (d : Device) : (d.bump c).climate = d.climate := rfl
@[simp] theorem Device.bump_die (c : Count) (d : Device) : (d.bump c).die = d.die := rfl
@[simp] theorem Device.bump_spread (c : Count) (d : Device) : (d.bump c).spread = d.spread := rfl
@[simp] theorem Device.bump_acc (c : Count) (d : Device) : (d.bump c).acc = d.acc := rfl
@[simp] theorem Device.bump_gauge (c : Count) (d : Device) : (d.bump c).gauge = d.gauge := rfl
@[simp] theorem Device.bump_log (c : Count) (d : Device) : (d.bump c).log = d.log := rfl
@[simp] theorem Device.bump_link (c : Count) (d : Device) : (d.bump c).link = d.link := rfl
@[simp] theorem Device.bump_counts (c : Count) (d : Device) :
    (d.bump c).counts = d.counts.modify c.index fun n => (n + 1) % size32 := rfl
@[simp] theorem Device.bump_mail (c : Count) (d : Device) : (d.bump c).mail = d.mail := rfl
@[simp] theorem Device.bump_bus (c : Count) (d : Device) : (d.bump c).bus = d.bus := rfl

@[simp] theorem Device.post_time (m : Mail) (d : Device) : (d.post m).time = d.time := rfl
@[simp] theorem Device.post_tables (m : Mail) (d : Device) : (d.post m).tables = d.tables := rfl
@[simp] theorem Device.post_stored (m : Mail) (d : Device) : (d.post m).stored = d.stored := rfl
@[simp] theorem Device.post_track (m : Mail) (d : Device) : (d.post m).track = d.track := rfl
@[simp] theorem Device.post_pace (m : Mail) (d : Device) : (d.post m).pace = d.pace := rfl
@[simp] theorem Device.post_climate (m : Mail) (d : Device) : (d.post m).climate = d.climate := rfl
@[simp] theorem Device.post_die (m : Mail) (d : Device) : (d.post m).die = d.die := rfl
@[simp] theorem Device.post_spread (m : Mail) (d : Device) : (d.post m).spread = d.spread := rfl
@[simp] theorem Device.post_acc (m : Mail) (d : Device) : (d.post m).acc = d.acc := rfl
@[simp] theorem Device.post_gauge (m : Mail) (d : Device) : (d.post m).gauge = d.gauge := rfl
@[simp] theorem Device.post_log (m : Mail) (d : Device) : (d.post m).log = d.log := rfl
@[simp] theorem Device.post_link (m : Mail) (d : Device) : (d.post m).link = d.link := rfl
@[simp] theorem Device.post_counts (m : Mail) (d : Device) : (d.post m).counts = d.counts := rfl
@[simp] theorem Device.post_mail (m : Mail) (d : Device) : (d.post m).mail = d.mail ++ [m] := rfl
@[simp] theorem Device.post_bus (m : Mail) (d : Device) : (d.post m).bus = d.bus := rfl

@[simp] theorem Device.raise_time (k : FaultKind) (c : Context) (d : Device) : (d.raise k c).time = d.time := rfl
@[simp] theorem Device.raise_tables (k : FaultKind) (c : Context) (d : Device) : (d.raise k c).tables = d.tables := rfl
@[simp] theorem Device.raise_stored (k : FaultKind) (c : Context) (d : Device) : (d.raise k c).stored = d.stored := rfl
@[simp] theorem Device.raise_track (k : FaultKind) (c : Context) (d : Device) : (d.raise k c).track = d.track := rfl
@[simp] theorem Device.raise_pace (k : FaultKind) (c : Context) (d : Device) : (d.raise k c).pace = d.pace := rfl
@[simp] theorem Device.raise_climate (k : FaultKind) (c : Context) (d : Device) : (d.raise k c).climate = d.climate := rfl
@[simp] theorem Device.raise_die (k : FaultKind) (c : Context) (d : Device) : (d.raise k c).die = d.die := rfl
@[simp] theorem Device.raise_spread (k : FaultKind) (c : Context) (d : Device) : (d.raise k c).spread = d.spread := rfl
@[simp] theorem Device.raise_acc (k : FaultKind) (c : Context) (d : Device) : (d.raise k c).acc = d.acc := rfl
@[simp] theorem Device.raise_gauge (k : FaultKind) (c : Context) (d : Device) : (d.raise k c).gauge = d.gauge := rfl
@[simp] theorem Device.raise_log (k : FaultKind) (c : Context) (d : Device) : (d.raise k c).log = d.log := rfl
@[simp] theorem Device.raise_link (k : FaultKind) (c : Context) (d : Device) : (d.raise k c).link = d.link := rfl
@[simp] theorem Device.raise_counts (k : FaultKind) (c : Context) (d : Device) : (d.raise k c).counts = d.counts := rfl
@[simp] theorem Device.raise_mail (k : FaultKind) (c : Context) (d : Device) :
    (d.raise k c).mail = d.mail ++ [.raise k c] := rfl
@[simp] theorem Device.raise_bus (k : FaultKind) (c : Context) (d : Device) : (d.raise k c).bus = d.bus := rfl

@[simp] theorem Device.take_time (m : Mail) (d : Device) : (d.take m).time = d.time := rfl
@[simp] theorem Device.take_tables (m : Mail) (d : Device) : (d.take m).tables = d.tables := rfl
@[simp] theorem Device.take_stored (m : Mail) (d : Device) : (d.take m).stored = d.stored := rfl
@[simp] theorem Device.take_track (m : Mail) (d : Device) : (d.take m).track = d.track := rfl
@[simp] theorem Device.take_pace (m : Mail) (d : Device) : (d.take m).pace = d.pace := rfl
@[simp] theorem Device.take_climate (m : Mail) (d : Device) : (d.take m).climate = d.climate := rfl
@[simp] theorem Device.take_die (m : Mail) (d : Device) : (d.take m).die = d.die := rfl
@[simp] theorem Device.take_spread (m : Mail) (d : Device) : (d.take m).spread = d.spread := rfl
@[simp] theorem Device.take_acc (m : Mail) (d : Device) : (d.take m).acc = d.acc := rfl
@[simp] theorem Device.take_gauge (m : Mail) (d : Device) : (d.take m).gauge = d.gauge := rfl
@[simp] theorem Device.take_log (m : Mail) (d : Device) : (d.take m).log = d.log := rfl
@[simp] theorem Device.take_link (m : Mail) (d : Device) : (d.take m).link = d.link := rfl
@[simp] theorem Device.take_counts (m : Mail) (d : Device) : (d.take m).counts = d.counts := rfl
@[simp] theorem Device.take_mail (m : Mail) (d : Device) : (d.take m).mail = d.mail.erase m := rfl
@[simp] theorem Device.take_bus (m : Mail) (d : Device) : (d.take m).bus = d.bus := rfl

@[simp] theorem Device.send_time (m : BusMessage) (d : Device) : (d.send m).time = d.time := rfl
@[simp] theorem Device.send_tables (m : BusMessage) (d : Device) : (d.send m).tables = d.tables := rfl
@[simp] theorem Device.send_stored (m : BusMessage) (d : Device) : (d.send m).stored = d.stored := rfl
@[simp] theorem Device.send_track (m : BusMessage) (d : Device) : (d.send m).track = d.track := rfl
@[simp] theorem Device.send_pace (m : BusMessage) (d : Device) : (d.send m).pace = d.pace := rfl
@[simp] theorem Device.send_climate (m : BusMessage) (d : Device) : (d.send m).climate = d.climate := rfl
@[simp] theorem Device.send_die (m : BusMessage) (d : Device) : (d.send m).die = d.die := rfl
@[simp] theorem Device.send_spread (m : BusMessage) (d : Device) : (d.send m).spread = d.spread := rfl
@[simp] theorem Device.send_acc (m : BusMessage) (d : Device) : (d.send m).acc = d.acc := rfl
@[simp] theorem Device.send_gauge (m : BusMessage) (d : Device) : (d.send m).gauge = d.gauge := rfl
@[simp] theorem Device.send_log (m : BusMessage) (d : Device) : (d.send m).log = d.log := rfl
@[simp] theorem Device.send_link (m : BusMessage) (d : Device) : (d.send m).link = d.link := rfl
@[simp] theorem Device.send_counts (m : BusMessage) (d : Device) : (d.send m).counts = d.counts := rfl
@[simp] theorem Device.send_mail (m : BusMessage) (d : Device) : (d.send m).mail = d.mail := rfl
@[simp] theorem Device.send_bus (m : BusMessage) (d : Device) : (d.send m).bus = d.bus ++ [m] := rfl

@[simp] theorem Device.reply_time (f : Frame) (a : Answer) (d : Device) : (d.reply f a).time = d.time := rfl
@[simp] theorem Device.reply_tables (f : Frame) (a : Answer) (d : Device) : (d.reply f a).tables = d.tables := rfl
@[simp] theorem Device.reply_stored (f : Frame) (a : Answer) (d : Device) : (d.reply f a).stored = d.stored := rfl
@[simp] theorem Device.reply_track (f : Frame) (a : Answer) (d : Device) : (d.reply f a).track = d.track := rfl
@[simp] theorem Device.reply_pace (f : Frame) (a : Answer) (d : Device) : (d.reply f a).pace = d.pace := rfl
@[simp] theorem Device.reply_climate (f : Frame) (a : Answer) (d : Device) : (d.reply f a).climate = d.climate := rfl
@[simp] theorem Device.reply_die (f : Frame) (a : Answer) (d : Device) : (d.reply f a).die = d.die := rfl
@[simp] theorem Device.reply_spread (f : Frame) (a : Answer) (d : Device) : (d.reply f a).spread = d.spread := rfl
@[simp] theorem Device.reply_acc (f : Frame) (a : Answer) (d : Device) : (d.reply f a).acc = d.acc := rfl
@[simp] theorem Device.reply_gauge (f : Frame) (a : Answer) (d : Device) : (d.reply f a).gauge = d.gauge := rfl
@[simp] theorem Device.reply_log (f : Frame) (a : Answer) (d : Device) : (d.reply f a).log = d.log := rfl
@[simp] theorem Device.reply_counts (f : Frame) (a : Answer) (d : Device) : (d.reply f a).counts = d.counts := rfl
@[simp] theorem Device.reply_mail (f : Frame) (a : Answer) (d : Device) : (d.reply f a).mail = d.mail := rfl
@[simp] theorem Device.reply_bus (f : Frame) (a : Answer) (d : Device) : (d.reply f a).bus = d.bus := rfl

/-! The updates of the blocks. -/

@[simp] theorem Device.drawRod_time (d : Device) : (d.drawRod).time = d.time := rfl
@[simp] theorem Device.drawRod_tables (d : Device) : (d.drawRod).tables = d.tables := rfl
@[simp] theorem Device.drawRod_stored (d : Device) : (d.drawRod).stored = d.stored := rfl
@[simp] theorem Device.drawRod_track (d : Device) : (d.drawRod).track = d.track := rfl
@[simp] theorem Device.drawRod_pace (d : Device) : (d.drawRod).pace = d.pace := rfl
@[simp] theorem Device.drawRod_climate (d : Device) : (d.drawRod).climate = d.climate := rfl
@[simp] theorem Device.drawRod_die (d : Device) : (d.drawRod).die = d.die := rfl
@[simp] theorem Device.drawRod_spread (d : Device) : (d.drawRod).spread = d.spread := rfl
@[simp] theorem Device.drawRod_acc (d : Device) :
    (d.drawRod).acc = { d.acc with returnCount := d.acc.returnCount - 1 } := rfl
@[simp] theorem Device.drawRod_gauge (d : Device) : (d.drawRod).gauge = d.gauge := rfl
@[simp] theorem Device.drawRod_log (d : Device) : (d.drawRod).log = d.log := rfl
@[simp] theorem Device.drawRod_link (d : Device) : (d.drawRod).link = d.link := rfl
@[simp] theorem Device.drawRod_counts (d : Device) : (d.drawRod).counts = d.counts := rfl
@[simp] theorem Device.drawRod_mail (d : Device) : (d.drawRod).mail = d.mail := rfl
@[simp] theorem Device.drawRod_bus (d : Device) : (d.drawRod).bus = d.bus := rfl

@[simp] theorem Device.setHold_time (d : Device) : (d.setHold).time = d.time := rfl
@[simp] theorem Device.setHold_tables (d : Device) : (d.setHold).tables = d.tables := rfl
@[simp] theorem Device.setHold_stored (d : Device) : (d.setHold).stored = d.stored := rfl
@[simp] theorem Device.setHold_track (d : Device) : (d.setHold).track = d.track := rfl
@[simp] theorem Device.setHold_pace (d : Device) : (d.setHold).pace = d.pace := rfl
@[simp] theorem Device.setHold_climate (d : Device) : (d.setHold).climate = d.climate := rfl
@[simp] theorem Device.setHold_die (d : Device) : (d.setHold).die = d.die := rfl
@[simp] theorem Device.setHold_spread (d : Device) : (d.setHold).spread = { d.spread with hold := true } := rfl
@[simp] theorem Device.setHold_acc (d : Device) : (d.setHold).acc = d.acc := rfl
@[simp] theorem Device.setHold_gauge (d : Device) : (d.setHold).gauge = d.gauge := rfl
@[simp] theorem Device.setHold_log (d : Device) : (d.setHold).log = d.log := rfl
@[simp] theorem Device.setHold_link (d : Device) : (d.setHold).link = d.link := rfl
@[simp] theorem Device.setHold_counts (d : Device) : (d.setHold).counts = d.counts := rfl
@[simp] theorem Device.setHold_mail (d : Device) : (d.setHold).mail = d.mail := rfl
@[simp] theorem Device.setHold_bus (d : Device) : (d.setHold).bus = d.bus := rfl

@[simp] theorem Device.spillRod_time (d : Device) : (d.spillRod).time = d.time := rfl
@[simp] theorem Device.spillRod_tables (d : Device) : (d.spillRod).tables = d.tables := rfl
@[simp] theorem Device.spillRod_stored (d : Device) : (d.spillRod).stored = d.stored := rfl
@[simp] theorem Device.spillRod_track (d : Device) :
    (d.spillRod).track = { d.track with spill := (d.track.spill + 1) % size32 } := rfl
@[simp] theorem Device.spillRod_pace (d : Device) : (d.spillRod).pace = d.pace := rfl
@[simp] theorem Device.spillRod_climate (d : Device) : (d.spillRod).climate = d.climate := rfl
@[simp] theorem Device.spillRod_die (d : Device) : (d.spillRod).die = d.die := rfl
@[simp] theorem Device.spillRod_spread (d : Device) : (d.spillRod).spread = d.spread := rfl
@[simp] theorem Device.spillRod_acc (d : Device) : (d.spillRod).acc = d.acc := rfl
@[simp] theorem Device.spillRod_gauge (d : Device) : (d.spillRod).gauge = d.gauge := rfl
@[simp] theorem Device.spillRod_log (d : Device) : (d.spillRod).log = d.log := rfl
@[simp] theorem Device.spillRod_link (d : Device) : (d.spillRod).link = d.link := rfl
@[simp] theorem Device.spillRod_counts (d : Device) : (d.spillRod).counts = d.counts := rfl
@[simp] theorem Device.spillRod_mail (d : Device) : (d.spillRod).mail = d.mail := rfl
@[simp] theorem Device.spillRod_bus (d : Device) : (d.spillRod).bus = d.bus := rfl

@[simp] theorem Device.assignId_time (d : Device) : (d.assignId).time = d.time := rfl
@[simp] theorem Device.assignId_tables (d : Device) : (d.assignId).tables = d.tables := rfl
@[simp] theorem Device.assignId_stored (d : Device) : (d.assignId).stored = d.stored := rfl
@[simp] theorem Device.assignId_track (d : Device) : (d.assignId).track = { d.track with lastId := d.freeId } := rfl
@[simp] theorem Device.assignId_pace (d : Device) : (d.assignId).pace = d.pace := rfl
@[simp] theorem Device.assignId_climate (d : Device) : (d.assignId).climate = d.climate := rfl
@[simp] theorem Device.assignId_die (d : Device) : (d.assignId).die = d.die := rfl
@[simp] theorem Device.assignId_spread (d : Device) : (d.assignId).spread = d.spread := rfl
@[simp] theorem Device.assignId_acc (d : Device) : (d.assignId).acc = d.acc := rfl
@[simp] theorem Device.assignId_gauge (d : Device) : (d.assignId).gauge = d.gauge := rfl
@[simp] theorem Device.assignId_log (d : Device) : (d.assignId).log = d.log := rfl
@[simp] theorem Device.assignId_link (d : Device) : (d.assignId).link = d.link := rfl
@[simp] theorem Device.assignId_counts (d : Device) : (d.assignId).counts = d.counts := rfl
@[simp] theorem Device.assignId_mail (d : Device) : (d.assignId).mail = d.mail := rfl
@[simp] theorem Device.assignId_bus (d : Device) : (d.assignId).bus = d.bus := rfl

@[simp] theorem Device.modifyLane_time (l : Nat) (f : LaneRt → LaneRt) (d : Device) : (d.modifyLane l f).time = d.time := rfl
@[simp] theorem Device.modifyLane_tables (l : Nat) (f : LaneRt → LaneRt) (d : Device) :
    (d.modifyLane l f).tables = d.tables := rfl
@[simp] theorem Device.modifyLane_stored (l : Nat) (f : LaneRt → LaneRt) (d : Device) :
    (d.modifyLane l f).stored = d.stored := rfl
@[simp] theorem Device.modifyLane_track (l : Nat) (f : LaneRt → LaneRt) (d : Device) :
    (d.modifyLane l f).track = d.track := rfl
@[simp] theorem Device.modifyLane_pace (l : Nat) (f : LaneRt → LaneRt) (d : Device) : (d.modifyLane l f).pace = d.pace := rfl
@[simp] theorem Device.modifyLane_climate (l : Nat) (f : LaneRt → LaneRt) (d : Device) :
    (d.modifyLane l f).climate = d.climate := rfl
@[simp] theorem Device.modifyLane_die (l : Nat) (f : LaneRt → LaneRt) (d : Device) : (d.modifyLane l f).die = d.die := rfl
@[simp] theorem Device.modifyLane_spread (l : Nat) (f : LaneRt → LaneRt) (d : Device) :
    (d.modifyLane l f).spread = d.spread := rfl
@[simp] theorem Device.modifyLane_acc (l : Nat) (f : LaneRt → LaneRt) (d : Device) :
    (d.modifyLane l f).acc = { d.acc with lanes := d.acc.lanes.modify l f } := rfl
@[simp] theorem Device.modifyLane_gauge (l : Nat) (f : LaneRt → LaneRt) (d : Device) :
    (d.modifyLane l f).gauge = d.gauge := rfl
@[simp] theorem Device.modifyLane_log (l : Nat) (f : LaneRt → LaneRt) (d : Device) : (d.modifyLane l f).log = d.log := rfl
@[simp] theorem Device.modifyLane_link (l : Nat) (f : LaneRt → LaneRt) (d : Device) : (d.modifyLane l f).link = d.link := rfl
@[simp] theorem Device.modifyLane_counts (l : Nat) (f : LaneRt → LaneRt) (d : Device) :
    (d.modifyLane l f).counts = d.counts := rfl
@[simp] theorem Device.modifyLane_mail (l : Nat) (f : LaneRt → LaneRt) (d : Device) : (d.modifyLane l f).mail = d.mail := rfl
@[simp] theorem Device.modifyLane_bus (l : Nat) (f : LaneRt → LaneRt) (d : Device) : (d.modifyLane l f).bus = d.bus := rfl

@[simp] theorem Device.joinLane_time (reserved : Bool) (l : Nat) (r : Rod) (d : Device) :
    (d.joinLane reserved l r).time = d.time := rfl
@[simp] theorem Device.joinLane_tables (reserved : Bool) (l : Nat) (r : Rod) (d : Device) :
    (d.joinLane reserved l r).tables = d.tables := rfl
@[simp] theorem Device.joinLane_stored (reserved : Bool) (l : Nat) (r : Rod) (d : Device) :
    (d.joinLane reserved l r).stored = d.stored := rfl
@[simp] theorem Device.joinLane_track (reserved : Bool) (l : Nat) (r : Rod) (d : Device) :
    (d.joinLane reserved l r).track = d.track := rfl
@[simp] theorem Device.joinLane_pace (reserved : Bool) (l : Nat) (r : Rod) (d : Device) :
    (d.joinLane reserved l r).pace = d.pace := rfl
@[simp] theorem Device.joinLane_climate (reserved : Bool) (l : Nat) (r : Rod) (d : Device) :
    (d.joinLane reserved l r).climate = d.climate := rfl
@[simp] theorem Device.joinLane_die (reserved : Bool) (l : Nat) (r : Rod) (d : Device) :
    (d.joinLane reserved l r).die = d.die := rfl
@[simp] theorem Device.joinLane_spread (reserved : Bool) (l : Nat) (r : Rod) (d : Device) :
    (d.joinLane reserved l r).spread = d.spread := rfl
@[simp] theorem Device.joinLane_gauge (reserved : Bool) (l : Nat) (r : Rod) (d : Device) :
    (d.joinLane reserved l r).gauge = d.gauge := rfl
@[simp] theorem Device.joinLane_log (reserved : Bool) (l : Nat) (r : Rod) (d : Device) :
    (d.joinLane reserved l r).log = d.log := rfl
@[simp] theorem Device.joinLane_link (reserved : Bool) (l : Nat) (r : Rod) (d : Device) :
    (d.joinLane reserved l r).link = d.link := rfl
@[simp] theorem Device.joinLane_mail (reserved : Bool) (l : Nat) (r : Rod) (d : Device) :
    (d.joinLane reserved l r).mail = d.mail := rfl
@[simp] theorem Device.joinLane_bus (reserved : Bool) (l : Nat) (r : Rod) (d : Device) :
    (d.joinLane reserved l r).bus = d.bus := rfl

@[simp] theorem Device.startStrip_time (x : StripSlot) (d : Device) : (d.startStrip x).time = d.time := rfl
@[simp] theorem Device.startStrip_tables (x : StripSlot) (d : Device) : (d.startStrip x).tables = d.tables := rfl
@[simp] theorem Device.startStrip_stored (x : StripSlot) (d : Device) : (d.startStrip x).stored = d.stored := rfl
@[simp] theorem Device.startStrip_track (x : StripSlot) (d : Device) : (d.startStrip x).track = d.track := rfl
@[simp] theorem Device.startStrip_pace (x : StripSlot) (d : Device) : (d.startStrip x).pace = d.pace := rfl
@[simp] theorem Device.startStrip_climate (x : StripSlot) (d : Device) : (d.startStrip x).climate = d.climate := rfl
@[simp] theorem Device.startStrip_die (x : StripSlot) (d : Device) : (d.startStrip x).die = d.die := rfl
@[simp] theorem Device.startStrip_spread (x : StripSlot) (d : Device) : (d.startStrip x).spread = d.spread := rfl
@[simp] theorem Device.startStrip_gauge (x : StripSlot) (d : Device) : (d.startStrip x).gauge = d.gauge := rfl
@[simp] theorem Device.startStrip_log (x : StripSlot) (d : Device) : (d.startStrip x).log = d.log := rfl
@[simp] theorem Device.startStrip_link (x : StripSlot) (d : Device) : (d.startStrip x).link = d.link := rfl
@[simp] theorem Device.startStrip_counts (x : StripSlot) (d : Device) : (d.startStrip x).counts = d.counts := rfl
@[simp] theorem Device.startStrip_mail (x : StripSlot) (d : Device) : (d.startStrip x).mail = d.mail := rfl

@[simp] theorem Device.clearStrip_time (d : Device) : (d.clearStrip).time = d.time := rfl
@[simp] theorem Device.clearStrip_tables (d : Device) : (d.clearStrip).tables = d.tables := rfl
@[simp] theorem Device.clearStrip_stored (d : Device) : (d.clearStrip).stored = d.stored := rfl
@[simp] theorem Device.clearStrip_track (d : Device) : (d.clearStrip).track = d.track := rfl
@[simp] theorem Device.clearStrip_pace (d : Device) : (d.clearStrip).pace = d.pace := rfl
@[simp] theorem Device.clearStrip_climate (d : Device) : (d.clearStrip).climate = d.climate := rfl
@[simp] theorem Device.clearStrip_die (d : Device) : (d.clearStrip).die = d.die := rfl
@[simp] theorem Device.clearStrip_spread (d : Device) : (d.clearStrip).spread = d.spread := rfl
@[simp] theorem Device.clearStrip_gauge (d : Device) : (d.clearStrip).gauge = d.gauge := rfl
@[simp] theorem Device.clearStrip_log (d : Device) : (d.clearStrip).log = d.log := rfl
@[simp] theorem Device.clearStrip_link (d : Device) : (d.clearStrip).link = d.link := rfl
@[simp] theorem Device.clearStrip_counts (d : Device) : (d.clearStrip).counts = d.counts := rfl
@[simp] theorem Device.clearStrip_mail (d : Device) : (d.clearStrip).mail = d.mail := rfl
@[simp] theorem Device.clearStrip_bus (d : Device) : (d.clearStrip).bus = d.bus := rfl

@[simp] theorem Device.startMove_time (k : MoveKind) (l : Option Nat) (x : Option Disposition) (d : Device) :
    (d.startMove k l x).time = d.time := rfl
@[simp] theorem Device.startMove_tables (k : MoveKind) (l : Option Nat) (x : Option Disposition) (d : Device) :
    (d.startMove k l x).tables = d.tables := rfl
@[simp] theorem Device.startMove_stored (k : MoveKind) (l : Option Nat) (x : Option Disposition) (d : Device) :
    (d.startMove k l x).stored = d.stored := rfl
@[simp] theorem Device.startMove_track (k : MoveKind) (l : Option Nat) (x : Option Disposition) (d : Device) :
    (d.startMove k l x).track = d.track := rfl
@[simp] theorem Device.startMove_climate (k : MoveKind) (l : Option Nat) (x : Option Disposition) (d : Device) :
    (d.startMove k l x).climate = d.climate := rfl
@[simp] theorem Device.startMove_die (k : MoveKind) (l : Option Nat) (x : Option Disposition) (d : Device) :
    (d.startMove k l x).die = d.die := rfl
@[simp] theorem Device.startMove_spread (k : MoveKind) (l : Option Nat) (x : Option Disposition) (d : Device) :
    (d.startMove k l x).spread = d.spread := rfl
@[simp] theorem Device.startMove_acc (k : MoveKind) (l : Option Nat) (x : Option Disposition) (d : Device) :
    (d.startMove k l x).acc = d.acc := rfl
@[simp] theorem Device.startMove_gauge (k : MoveKind) (l : Option Nat) (x : Option Disposition) (d : Device) :
    (d.startMove k l x).gauge = d.gauge := rfl
@[simp] theorem Device.startMove_log (k : MoveKind) (l : Option Nat) (x : Option Disposition) (d : Device) :
    (d.startMove k l x).log = d.log := rfl
@[simp] theorem Device.startMove_link (k : MoveKind) (l : Option Nat) (x : Option Disposition) (d : Device) :
    (d.startMove k l x).link = d.link := rfl
@[simp] theorem Device.startMove_mail (k : MoveKind) (l : Option Nat) (x : Option Disposition) (d : Device) :
    (d.startMove k l x).mail = d.mail := rfl

@[simp] theorem Device.endMove_time (d : Device) : (d.endMove).time = d.time := rfl
@[simp] theorem Device.endMove_tables (d : Device) : (d.endMove).tables = d.tables := rfl
@[simp] theorem Device.endMove_stored (d : Device) : (d.endMove).stored = d.stored := rfl
@[simp] theorem Device.endMove_track (d : Device) : (d.endMove).track = d.track := rfl
@[simp] theorem Device.endMove_climate (d : Device) : (d.endMove).climate = d.climate := rfl
@[simp] theorem Device.endMove_die (d : Device) : (d.endMove).die = d.die := rfl
@[simp] theorem Device.endMove_spread (d : Device) : (d.endMove).spread = d.spread := rfl
@[simp] theorem Device.endMove_acc (d : Device) : (d.endMove).acc = d.acc := rfl
@[simp] theorem Device.endMove_gauge (d : Device) : (d.endMove).gauge = d.gauge := rfl
@[simp] theorem Device.endMove_log (d : Device) : (d.endMove).log = d.log := rfl
@[simp] theorem Device.endMove_link (d : Device) : (d.endMove).link = d.link := rfl
@[simp] theorem Device.endMove_counts (d : Device) : (d.endMove).counts = d.counts := rfl
@[simp] theorem Device.endMove_mail (d : Device) : (d.endMove).mail = d.mail := rfl
@[simp] theorem Device.endMove_bus (d : Device) : (d.endMove).bus = d.bus := rfl

@[simp] theorem Device.rest_time (d : Device) : (d.rest).time = d.time := rfl
@[simp] theorem Device.rest_tables (d : Device) : (d.rest).tables = d.tables := rfl
@[simp] theorem Device.rest_stored (d : Device) : (d.rest).stored = d.stored := rfl
@[simp] theorem Device.rest_track (d : Device) : (d.rest).track = d.track := rfl
@[simp] theorem Device.rest_climate (d : Device) : (d.rest).climate = d.climate := rfl
@[simp] theorem Device.rest_die (d : Device) : (d.rest).die = d.die := rfl
@[simp] theorem Device.rest_spread (d : Device) : (d.rest).spread = d.spread := rfl
@[simp] theorem Device.rest_acc (d : Device) : (d.rest).acc = d.acc := rfl
@[simp] theorem Device.rest_gauge (d : Device) : (d.rest).gauge = d.gauge := rfl
@[simp] theorem Device.rest_log (d : Device) : (d.rest).log = d.log := rfl
@[simp] theorem Device.rest_link (d : Device) : (d.rest).link = d.link := rfl
@[simp] theorem Device.rest_counts (d : Device) : (d.rest).counts = d.counts := rfl
@[simp] theorem Device.rest_mail (d : Device) : (d.rest).mail = d.mail := rfl
@[simp] theorem Device.rest_bus (d : Device) : (d.rest).bus = d.bus := rfl

@[simp] theorem Device.modifyZone_time (z : Nat) (f : ZoneRt → ZoneRt) (d : Device) : (d.modifyZone z f).time = d.time := rfl
@[simp] theorem Device.modifyZone_tables (z : Nat) (f : ZoneRt → ZoneRt) (d : Device) :
    (d.modifyZone z f).tables = d.tables := rfl
@[simp] theorem Device.modifyZone_stored (z : Nat) (f : ZoneRt → ZoneRt) (d : Device) :
    (d.modifyZone z f).stored = d.stored := rfl
@[simp] theorem Device.modifyZone_track (z : Nat) (f : ZoneRt → ZoneRt) (d : Device) :
    (d.modifyZone z f).track = d.track := rfl
@[simp] theorem Device.modifyZone_pace (z : Nat) (f : ZoneRt → ZoneRt) (d : Device) : (d.modifyZone z f).pace = d.pace := rfl
@[simp] theorem Device.modifyZone_climate (z : Nat) (f : ZoneRt → ZoneRt) (d : Device) :
    (d.modifyZone z f).climate = { d.climate with zones := d.climate.zones.modify z f } := rfl
@[simp] theorem Device.modifyZone_die (z : Nat) (f : ZoneRt → ZoneRt) (d : Device) : (d.modifyZone z f).die = d.die := rfl
@[simp] theorem Device.modifyZone_spread (z : Nat) (f : ZoneRt → ZoneRt) (d : Device) :
    (d.modifyZone z f).spread = d.spread := rfl
@[simp] theorem Device.modifyZone_acc (z : Nat) (f : ZoneRt → ZoneRt) (d : Device) : (d.modifyZone z f).acc = d.acc := rfl
@[simp] theorem Device.modifyZone_gauge (z : Nat) (f : ZoneRt → ZoneRt) (d : Device) :
    (d.modifyZone z f).gauge = d.gauge := rfl
@[simp] theorem Device.modifyZone_log (z : Nat) (f : ZoneRt → ZoneRt) (d : Device) : (d.modifyZone z f).log = d.log := rfl
@[simp] theorem Device.modifyZone_link (z : Nat) (f : ZoneRt → ZoneRt) (d : Device) : (d.modifyZone z f).link = d.link := rfl
@[simp] theorem Device.modifyZone_counts (z : Nat) (f : ZoneRt → ZoneRt) (d : Device) :
    (d.modifyZone z f).counts = d.counts := rfl
@[simp] theorem Device.modifyZone_mail (z : Nat) (f : ZoneRt → ZoneRt) (d : Device) : (d.modifyZone z f).mail = d.mail := rfl
@[simp] theorem Device.modifyZone_bus (z : Nat) (f : ZoneRt → ZoneRt) (d : Device) : (d.modifyZone z f).bus = d.bus := rfl

@[simp] theorem Device.endMeasurement_time (d : Device) : (d.endMeasurement).time = d.time := rfl
@[simp] theorem Device.endMeasurement_tables (d : Device) : (d.endMeasurement).tables = d.tables := rfl
@[simp] theorem Device.endMeasurement_stored (d : Device) : (d.endMeasurement).stored = d.stored := rfl
@[simp] theorem Device.endMeasurement_track (d : Device) : (d.endMeasurement).track = d.track := rfl
@[simp] theorem Device.endMeasurement_pace (d : Device) : (d.endMeasurement).pace = d.pace := rfl
@[simp] theorem Device.endMeasurement_climate (d : Device) : (d.endMeasurement).climate = d.climate := rfl
@[simp] theorem Device.endMeasurement_die (d : Device) : (d.endMeasurement).die = d.die := rfl
@[simp] theorem Device.endMeasurement_spread (d : Device) : (d.endMeasurement).spread = d.spread := rfl
@[simp] theorem Device.endMeasurement_acc (d : Device) : (d.endMeasurement).acc = d.acc := rfl
@[simp] theorem Device.endMeasurement_gauge (d : Device) :
    (d.endMeasurement).gauge = { d.gauge with inFlight := none } := rfl
@[simp] theorem Device.endMeasurement_log (d : Device) : (d.endMeasurement).log = d.log := rfl
@[simp] theorem Device.endMeasurement_link (d : Device) : (d.endMeasurement).link = d.link := rfl
@[simp] theorem Device.endMeasurement_counts (d : Device) : (d.endMeasurement).counts = d.counts := rfl
@[simp] theorem Device.endMeasurement_mail (d : Device) : (d.endMeasurement).mail = d.mail := rfl
@[simp] theorem Device.endMeasurement_bus (d : Device) : (d.endMeasurement).bus = d.bus := rfl

@[simp] theorem Device.modifyFactor_time (p : Nat) (f : Nat → Nat) (d : Device) : (d.modifyFactor p f).time = d.time := rfl
@[simp] theorem Device.modifyFactor_tables (p : Nat) (f : Nat → Nat) (d : Device) :
    (d.modifyFactor p f).tables = d.tables := rfl
@[simp] theorem Device.modifyFactor_stored (p : Nat) (f : Nat → Nat) (d : Device) :
    (d.modifyFactor p f).stored = d.stored := rfl
@[simp] theorem Device.modifyFactor_track (p : Nat) (f : Nat → Nat) (d : Device) :
    (d.modifyFactor p f).track = d.track := rfl
@[simp] theorem Device.modifyFactor_pace (p : Nat) (f : Nat → Nat) (d : Device) : (d.modifyFactor p f).pace = d.pace := rfl
@[simp] theorem Device.modifyFactor_climate (p : Nat) (f : Nat → Nat) (d : Device) :
    (d.modifyFactor p f).climate = d.climate := rfl
@[simp] theorem Device.modifyFactor_die (p : Nat) (f : Nat → Nat) (d : Device) : (d.modifyFactor p f).die = d.die := rfl
@[simp] theorem Device.modifyFactor_spread (p : Nat) (f : Nat → Nat) (d : Device) :
    (d.modifyFactor p f).spread = d.spread := rfl
@[simp] theorem Device.modifyFactor_acc (p : Nat) (f : Nat → Nat) (d : Device) : (d.modifyFactor p f).acc = d.acc := rfl
@[simp] theorem Device.modifyFactor_gauge (p : Nat) (f : Nat → Nat) (d : Device) :
    (d.modifyFactor p f).gauge = { d.gauge with factors := d.gauge.factors.modify p f } := rfl
@[simp] theorem Device.modifyFactor_log (p : Nat) (f : Nat → Nat) (d : Device) : (d.modifyFactor p f).log = d.log := rfl
@[simp] theorem Device.modifyFactor_link (p : Nat) (f : Nat → Nat) (d : Device) : (d.modifyFactor p f).link = d.link := rfl
@[simp] theorem Device.modifyFactor_counts (p : Nat) (f : Nat → Nat) (d : Device) :
    (d.modifyFactor p f).counts = d.counts := rfl
@[simp] theorem Device.modifyFactor_mail (p : Nat) (f : Nat → Nat) (d : Device) : (d.modifyFactor p f).mail = d.mail := rfl
@[simp] theorem Device.modifyFactor_bus (p : Nat) (f : Nat → Nat) (d : Device) : (d.modifyFactor p f).bus = d.bus := rfl

@[simp] theorem Device.setTables_time (f : Tables → Tables) (d : Device) : (d.setTables f).time = d.time := rfl
@[simp] theorem Device.setTables_tables (f : Tables → Tables) (d : Device) : (d.setTables f).tables = f d.tables := rfl
@[simp] theorem Device.setTables_stored (f : Tables → Tables) (d : Device) : (d.setTables f).stored = d.stored := rfl
@[simp] theorem Device.setTables_track (f : Tables → Tables) (d : Device) : (d.setTables f).track = d.track := rfl
@[simp] theorem Device.setTables_pace (f : Tables → Tables) (d : Device) : (d.setTables f).pace = d.pace := rfl
@[simp] theorem Device.setTables_climate (f : Tables → Tables) (d : Device) : (d.setTables f).climate = d.climate := rfl
@[simp] theorem Device.setTables_die (f : Tables → Tables) (d : Device) : (d.setTables f).die = d.die := rfl
@[simp] theorem Device.setTables_spread (f : Tables → Tables) (d : Device) : (d.setTables f).spread = d.spread := rfl
@[simp] theorem Device.setTables_acc (f : Tables → Tables) (d : Device) : (d.setTables f).acc = d.acc := rfl
@[simp] theorem Device.setTables_gauge (f : Tables → Tables) (d : Device) : (d.setTables f).gauge = d.gauge := rfl
@[simp] theorem Device.setTables_log (f : Tables → Tables) (d : Device) : (d.setTables f).log = d.log := rfl
@[simp] theorem Device.setTables_link (f : Tables → Tables) (d : Device) : (d.setTables f).link = d.link := rfl
@[simp] theorem Device.setTables_counts (f : Tables → Tables) (d : Device) : (d.setTables f).counts = d.counts := rfl
@[simp] theorem Device.setTables_mail (f : Tables → Tables) (d : Device) : (d.setTables f).mail = d.mail := rfl
@[simp] theorem Device.setTables_bus (f : Tables → Tables) (d : Device) : (d.setTables f).bus = d.bus := rfl

@[simp] theorem Device.modifyStation_time (side : Side) (f : Station → Station) (d : Device) :
    (d.modifyStation side f).time = d.time := rfl
@[simp] theorem Device.modifyStation_tables (side : Side) (f : Station → Station) (d : Device) :
    (d.modifyStation side f).tables = d.tables := rfl
@[simp] theorem Device.modifyStation_stored (side : Side) (f : Station → Station) (d : Device) :
    (d.modifyStation side f).stored = d.stored := rfl
@[simp] theorem Device.modifyStation_track (side : Side) (f : Station → Station) (d : Device) :
    (d.modifyStation side f).track = d.track := rfl
@[simp] theorem Device.modifyStation_pace (side : Side) (f : Station → Station) (d : Device) :
    (d.modifyStation side f).pace = d.pace := rfl
@[simp] theorem Device.modifyStation_climate (side : Side) (f : Station → Station) (d : Device) :
    (d.modifyStation side f).climate = d.climate := rfl
@[simp] theorem Device.modifyStation_die (side : Side) (f : Station → Station) (d : Device) :
    (d.modifyStation side f).die = d.die.modify side f := rfl
@[simp] theorem Device.modifyStation_spread (side : Side) (f : Station → Station) (d : Device) :
    (d.modifyStation side f).spread = d.spread := rfl
@[simp] theorem Device.modifyStation_acc (side : Side) (f : Station → Station) (d : Device) :
    (d.modifyStation side f).acc = d.acc := rfl
@[simp] theorem Device.modifyStation_gauge (side : Side) (f : Station → Station) (d : Device) :
    (d.modifyStation side f).gauge = d.gauge := rfl
@[simp] theorem Device.modifyStation_log (side : Side) (f : Station → Station) (d : Device) :
    (d.modifyStation side f).log = d.log := rfl
@[simp] theorem Device.modifyStation_link (side : Side) (f : Station → Station) (d : Device) :
    (d.modifyStation side f).link = d.link := rfl
@[simp] theorem Device.modifyStation_counts (side : Side) (f : Station → Station) (d : Device) :
    (d.modifyStation side f).counts = d.counts := rfl
@[simp] theorem Device.modifyStation_mail (side : Side) (f : Station → Station) (d : Device) :
    (d.modifyStation side f).mail = d.mail := rfl
@[simp] theorem Device.modifyStation_bus (side : Side) (f : Station → Station) (d : Device) :
    (d.modifyStation side f).bus = d.bus := rfl

@[simp] theorem Device.startRead_time (side : Side) (d : Device) : (d.startRead side).time = d.time := rfl
@[simp] theorem Device.startRead_tables (side : Side) (d : Device) : (d.startRead side).tables = d.tables := rfl
@[simp] theorem Device.startRead_stored (side : Side) (d : Device) : (d.startRead side).stored = d.stored := rfl
@[simp] theorem Device.startRead_track (side : Side) (d : Device) : (d.startRead side).track = d.track := rfl
@[simp] theorem Device.startRead_pace (side : Side) (d : Device) : (d.startRead side).pace = d.pace := rfl
@[simp] theorem Device.startRead_climate (side : Side) (d : Device) : (d.startRead side).climate = d.climate := rfl
@[simp] theorem Device.startRead_spread (side : Side) (d : Device) : (d.startRead side).spread = d.spread := rfl
@[simp] theorem Device.startRead_acc (side : Side) (d : Device) : (d.startRead side).acc = d.acc := rfl
@[simp] theorem Device.startRead_gauge (side : Side) (d : Device) : (d.startRead side).gauge = d.gauge := rfl
@[simp] theorem Device.startRead_log (side : Side) (d : Device) : (d.startRead side).log = d.log := rfl
@[simp] theorem Device.startRead_link (side : Side) (d : Device) : (d.startRead side).link = d.link := rfl
@[simp] theorem Device.startRead_counts (side : Side) (d : Device) : (d.startRead side).counts = d.counts := rfl
@[simp] theorem Device.startRead_mail (side : Side) (d : Device) : (d.startRead side).mail = d.mail := rfl

@[simp] theorem Device.startWrite_time (side : Side) (c : DieRecord) (d : Device) :
    (d.startWrite side c).time = d.time := rfl
@[simp] theorem Device.startWrite_tables (side : Side) (c : DieRecord) (d : Device) :
    (d.startWrite side c).tables = d.tables := rfl
@[simp] theorem Device.startWrite_stored (side : Side) (c : DieRecord) (d : Device) :
    (d.startWrite side c).stored = d.stored := rfl
@[simp] theorem Device.startWrite_track (side : Side) (c : DieRecord) (d : Device) :
    (d.startWrite side c).track = d.track := rfl
@[simp] theorem Device.startWrite_pace (side : Side) (c : DieRecord) (d : Device) :
    (d.startWrite side c).pace = d.pace := rfl
@[simp] theorem Device.startWrite_climate (side : Side) (c : DieRecord) (d : Device) :
    (d.startWrite side c).climate = d.climate := rfl
@[simp] theorem Device.startWrite_spread (side : Side) (c : DieRecord) (d : Device) :
    (d.startWrite side c).spread = d.spread := rfl
@[simp] theorem Device.startWrite_acc (side : Side) (c : DieRecord) (d : Device) : (d.startWrite side c).acc = d.acc := rfl
@[simp] theorem Device.startWrite_gauge (side : Side) (c : DieRecord) (d : Device) :
    (d.startWrite side c).gauge = d.gauge := rfl
@[simp] theorem Device.startWrite_log (side : Side) (c : DieRecord) (d : Device) : (d.startWrite side c).log = d.log := rfl
@[simp] theorem Device.startWrite_link (side : Side) (c : DieRecord) (d : Device) :
    (d.startWrite side c).link = d.link := rfl
@[simp] theorem Device.startWrite_counts (side : Side) (c : DieRecord) (d : Device) :
    (d.startWrite side c).counts = d.counts := rfl
@[simp] theorem Device.startWrite_mail (side : Side) (c : DieRecord) (d : Device) :
    (d.startWrite side c).mail = d.mail := rfl

@[simp] theorem Device.startLoad_time (i : Identity) (d : Device) : (d.startLoad i).time = d.time := rfl
@[simp] theorem Device.startLoad_tables (i : Identity) (d : Device) : (d.startLoad i).tables = d.tables := rfl
@[simp] theorem Device.startLoad_stored (i : Identity) (d : Device) : (d.startLoad i).stored = d.stored := rfl
@[simp] theorem Device.startLoad_track (i : Identity) (d : Device) : (d.startLoad i).track = d.track := rfl
@[simp] theorem Device.startLoad_pace (i : Identity) (d : Device) : (d.startLoad i).pace = d.pace := rfl
@[simp] theorem Device.startLoad_climate (i : Identity) (d : Device) : (d.startLoad i).climate = d.climate := rfl
@[simp] theorem Device.startLoad_die (i : Identity) (d : Device) : (d.startLoad i).die = d.die := rfl
@[simp] theorem Device.startLoad_acc (i : Identity) (d : Device) : (d.startLoad i).acc = d.acc := rfl
@[simp] theorem Device.startLoad_gauge (i : Identity) (d : Device) : (d.startLoad i).gauge = d.gauge := rfl
@[simp] theorem Device.startLoad_log (i : Identity) (d : Device) : (d.startLoad i).log = d.log := rfl
@[simp] theorem Device.startLoad_link (i : Identity) (d : Device) : (d.startLoad i).link = d.link := rfl
@[simp] theorem Device.startLoad_counts (i : Identity) (d : Device) : (d.startLoad i).counts = d.counts := rfl
@[simp] theorem Device.startLoad_mail (i : Identity) (d : Device) : (d.startLoad i).mail = d.mail := rfl

@[simp] theorem Device.mapBeyond_time (id : Nat) (f : Rod → Rod) (d : Device) : (d.mapBeyond id f).time = d.time := rfl
@[simp] theorem Device.mapBeyond_tables (id : Nat) (f : Rod → Rod) (d : Device) : (d.mapBeyond id f).tables = d.tables := rfl
@[simp] theorem Device.mapBeyond_stored (id : Nat) (f : Rod → Rod) (d : Device) : (d.mapBeyond id f).stored = d.stored := rfl
@[simp] theorem Device.mapBeyond_pace (id : Nat) (f : Rod → Rod) (d : Device) : (d.mapBeyond id f).pace = d.pace := rfl
@[simp] theorem Device.mapBeyond_climate (id : Nat) (f : Rod → Rod) (d : Device) :
    (d.mapBeyond id f).climate = d.climate := rfl
@[simp] theorem Device.mapBeyond_die (id : Nat) (f : Rod → Rod) (d : Device) : (d.mapBeyond id f).die = d.die := rfl
@[simp] theorem Device.mapBeyond_spread (id : Nat) (f : Rod → Rod) (d : Device) : (d.mapBeyond id f).spread = d.spread := rfl
@[simp] theorem Device.mapBeyond_gauge (id : Nat) (f : Rod → Rod) (d : Device) : (d.mapBeyond id f).gauge = d.gauge := rfl
@[simp] theorem Device.mapBeyond_log (id : Nat) (f : Rod → Rod) (d : Device) : (d.mapBeyond id f).log = d.log := rfl
@[simp] theorem Device.mapBeyond_link (id : Nat) (f : Rod → Rod) (d : Device) : (d.mapBeyond id f).link = d.link := rfl
@[simp] theorem Device.mapBeyond_counts (id : Nat) (f : Rod → Rod) (d : Device) : (d.mapBeyond id f).counts = d.counts := rfl
@[simp] theorem Device.mapBeyond_mail (id : Nat) (f : Rod → Rod) (d : Device) : (d.mapBeyond id f).mail = d.mail := rfl
@[simp] theorem Device.mapBeyond_bus (id : Nat) (f : Rod → Rod) (d : Device) : (d.mapBeyond id f).bus = d.bus := rfl

/-! The operations that place a notice or a frame touch the link port and the counts only. -/

@[simp] theorem Device.notify_time (n : Notice) (d : Device) : (d.notify n).time = d.time := by
  unfold Device.notify; split <;> rfl
@[simp] theorem Device.notify_tables (n : Notice) (d : Device) : (d.notify n).tables = d.tables := by
  unfold Device.notify; split <;> rfl
@[simp] theorem Device.notify_stored (n : Notice) (d : Device) : (d.notify n).stored = d.stored := by
  unfold Device.notify; split <;> rfl
@[simp] theorem Device.notify_track (n : Notice) (d : Device) : (d.notify n).track = d.track := by
  unfold Device.notify; split <;> rfl
@[simp] theorem Device.notify_pace (n : Notice) (d : Device) : (d.notify n).pace = d.pace := by
  unfold Device.notify; split <;> rfl
@[simp] theorem Device.notify_climate (n : Notice) (d : Device) : (d.notify n).climate = d.climate := by
  unfold Device.notify; split <;> rfl
@[simp] theorem Device.notify_die (n : Notice) (d : Device) : (d.notify n).die = d.die := by
  unfold Device.notify; split <;> rfl
@[simp] theorem Device.notify_spread (n : Notice) (d : Device) : (d.notify n).spread = d.spread := by
  unfold Device.notify; split <;> rfl
@[simp] theorem Device.notify_acc (n : Notice) (d : Device) : (d.notify n).acc = d.acc := by
  unfold Device.notify; split <;> rfl
@[simp] theorem Device.notify_gauge (n : Notice) (d : Device) : (d.notify n).gauge = d.gauge := by
  unfold Device.notify; split <;> rfl
@[simp] theorem Device.notify_log (n : Notice) (d : Device) : (d.notify n).log = d.log := by
  unfold Device.notify; split <;> rfl
@[simp] theorem Device.notify_mail (n : Notice) (d : Device) : (d.notify n).mail = d.mail := by
  unfold Device.notify; split <;> rfl
@[simp] theorem Device.notify_bus (n : Notice) (d : Device) : (d.notify n).bus = d.bus := by
  unfold Device.notify; split <;> rfl

@[simp] theorem Device.notifyLine_time (e : LineEvent) (d : Device) : (d.notifyLine e).time = d.time := by
  simp [Device.notifyLine]
@[simp] theorem Device.notifyLine_tables (e : LineEvent) (d : Device) : (d.notifyLine e).tables = d.tables := by
  simp [Device.notifyLine]
@[simp] theorem Device.notifyLine_stored (e : LineEvent) (d : Device) : (d.notifyLine e).stored = d.stored := by
  simp [Device.notifyLine]
@[simp] theorem Device.notifyLine_track (e : LineEvent) (d : Device) : (d.notifyLine e).track = d.track := by
  simp [Device.notifyLine]
@[simp] theorem Device.notifyLine_pace (e : LineEvent) (d : Device) : (d.notifyLine e).pace = d.pace := by
  simp [Device.notifyLine]
@[simp] theorem Device.notifyLine_climate (e : LineEvent) (d : Device) : (d.notifyLine e).climate = d.climate := by
  simp [Device.notifyLine]
@[simp] theorem Device.notifyLine_die (e : LineEvent) (d : Device) : (d.notifyLine e).die = d.die := by
  simp [Device.notifyLine]
@[simp] theorem Device.notifyLine_spread (e : LineEvent) (d : Device) : (d.notifyLine e).spread = d.spread := by
  simp [Device.notifyLine]
@[simp] theorem Device.notifyLine_acc (e : LineEvent) (d : Device) : (d.notifyLine e).acc = d.acc := by
  simp [Device.notifyLine]
@[simp] theorem Device.notifyLine_gauge (e : LineEvent) (d : Device) : (d.notifyLine e).gauge = d.gauge := by
  simp [Device.notifyLine]
@[simp] theorem Device.notifyLine_log (e : LineEvent) (d : Device) : (d.notifyLine e).log = d.log := by
  simp [Device.notifyLine]
@[simp] theorem Device.notifyLine_mail (e : LineEvent) (d : Device) : (d.notifyLine e).mail = d.mail := by
  simp [Device.notifyLine]
@[simp] theorem Device.notifyLine_bus (e : LineEvent) (d : Device) : (d.notifyLine e).bus = d.bus := by
  simp [Device.notifyLine]

@[simp] theorem Device.notifyDie_time (e : DieEvent) (d : Device) : (d.notifyDie e).time = d.time := by
  simp [Device.notifyDie]
@[simp] theorem Device.notifyDie_tables (e : DieEvent) (d : Device) : (d.notifyDie e).tables = d.tables := by
  simp [Device.notifyDie]
@[simp] theorem Device.notifyDie_stored (e : DieEvent) (d : Device) : (d.notifyDie e).stored = d.stored := by
  simp [Device.notifyDie]
@[simp] theorem Device.notifyDie_track (e : DieEvent) (d : Device) : (d.notifyDie e).track = d.track := by
  simp [Device.notifyDie]
@[simp] theorem Device.notifyDie_pace (e : DieEvent) (d : Device) : (d.notifyDie e).pace = d.pace := by
  simp [Device.notifyDie]
@[simp] theorem Device.notifyDie_climate (e : DieEvent) (d : Device) : (d.notifyDie e).climate = d.climate := by
  simp [Device.notifyDie]
@[simp] theorem Device.notifyDie_die (e : DieEvent) (d : Device) : (d.notifyDie e).die = d.die := by
  simp [Device.notifyDie]
@[simp] theorem Device.notifyDie_spread (e : DieEvent) (d : Device) : (d.notifyDie e).spread = d.spread := by
  simp [Device.notifyDie]
@[simp] theorem Device.notifyDie_acc (e : DieEvent) (d : Device) : (d.notifyDie e).acc = d.acc := by
  simp [Device.notifyDie]
@[simp] theorem Device.notifyDie_gauge (e : DieEvent) (d : Device) : (d.notifyDie e).gauge = d.gauge := by
  simp [Device.notifyDie]
@[simp] theorem Device.notifyDie_log (e : DieEvent) (d : Device) : (d.notifyDie e).log = d.log := by
  simp [Device.notifyDie]
@[simp] theorem Device.notifyDie_mail (e : DieEvent) (d : Device) : (d.notifyDie e).mail = d.mail := by
  simp [Device.notifyDie]
@[simp] theorem Device.notifyDie_bus (e : DieEvent) (d : Device) : (d.notifyDie e).bus = d.bus := by
  simp [Device.notifyDie]

@[simp] theorem Device.closeRod_time (o : CloseOutcome) (r : Rod) (d : Device) : (d.closeRod o r).time = d.time := by
  simp [Device.closeRod]
@[simp] theorem Device.closeRod_tables (o : CloseOutcome) (r : Rod) (d : Device) : (d.closeRod o r).tables = d.tables := by
  simp [Device.closeRod]
@[simp] theorem Device.closeRod_stored (o : CloseOutcome) (r : Rod) (d : Device) : (d.closeRod o r).stored = d.stored := by
  simp [Device.closeRod]
@[simp] theorem Device.closeRod_track (o : CloseOutcome) (r : Rod) (d : Device) : (d.closeRod o r).track = d.track := by
  simp [Device.closeRod]
@[simp] theorem Device.closeRod_pace (o : CloseOutcome) (r : Rod) (d : Device) : (d.closeRod o r).pace = d.pace := by
  simp [Device.closeRod]
@[simp] theorem Device.closeRod_climate (o : CloseOutcome) (r : Rod) (d : Device) :
    (d.closeRod o r).climate = d.climate := by
  simp [Device.closeRod]
@[simp] theorem Device.closeRod_die (o : CloseOutcome) (r : Rod) (d : Device) : (d.closeRod o r).die = d.die := by
  simp [Device.closeRod]
@[simp] theorem Device.closeRod_spread (o : CloseOutcome) (r : Rod) (d : Device) : (d.closeRod o r).spread = d.spread := by
  simp [Device.closeRod]
@[simp] theorem Device.closeRod_acc (o : CloseOutcome) (r : Rod) (d : Device) : (d.closeRod o r).acc = d.acc := by
  simp [Device.closeRod]
@[simp] theorem Device.closeRod_gauge (o : CloseOutcome) (r : Rod) (d : Device) : (d.closeRod o r).gauge = d.gauge := by
  simp [Device.closeRod]
@[simp] theorem Device.closeRod_log (o : CloseOutcome) (r : Rod) (d : Device) : (d.closeRod o r).log = d.log := by
  simp [Device.closeRod]
@[simp] theorem Device.closeRod_mail (o : CloseOutcome) (r : Rod) (d : Device) : (d.closeRod o r).mail = d.mail := by
  simp [Device.closeRod]
@[simp] theorem Device.closeRod_bus (o : CloseOutcome) (r : Rod) (d : Device) : (d.closeRod o r).bus = d.bus := by
  simp [Device.closeRod]

@[simp] theorem Device.pump_time (d : Device) : (d.pump).time = d.time := by
  unfold Device.pump; split <;> [rfl; (split <;> [rfl; (split <;> [rfl; (split <;> rfl)])])]
@[simp] theorem Device.pump_tables (d : Device) : (d.pump).tables = d.tables := by
  unfold Device.pump; split <;> [rfl; (split <;> [rfl; (split <;> [rfl; (split <;> rfl)])])]
@[simp] theorem Device.pump_stored (d : Device) : (d.pump).stored = d.stored := by
  unfold Device.pump; split <;> [rfl; (split <;> [rfl; (split <;> [rfl; (split <;> rfl)])])]
@[simp] theorem Device.pump_track (d : Device) : (d.pump).track = d.track := by
  unfold Device.pump; split <;> [rfl; (split <;> [rfl; (split <;> [rfl; (split <;> rfl)])])]
@[simp] theorem Device.pump_pace (d : Device) : (d.pump).pace = d.pace := by
  unfold Device.pump; split <;> [rfl; (split <;> [rfl; (split <;> [rfl; (split <;> rfl)])])]
@[simp] theorem Device.pump_climate (d : Device) : (d.pump).climate = d.climate := by
  unfold Device.pump; split <;> [rfl; (split <;> [rfl; (split <;> [rfl; (split <;> rfl)])])]
@[simp] theorem Device.pump_die (d : Device) : (d.pump).die = d.die := by
  unfold Device.pump; split <;> [rfl; (split <;> [rfl; (split <;> [rfl; (split <;> rfl)])])]
@[simp] theorem Device.pump_spread (d : Device) : (d.pump).spread = d.spread := by
  unfold Device.pump; split <;> [rfl; (split <;> [rfl; (split <;> [rfl; (split <;> rfl)])])]
@[simp] theorem Device.pump_acc (d : Device) : (d.pump).acc = d.acc := by
  unfold Device.pump; split <;> [rfl; (split <;> [rfl; (split <;> [rfl; (split <;> rfl)])])]
@[simp] theorem Device.pump_gauge (d : Device) : (d.pump).gauge = d.gauge := by
  unfold Device.pump; split <;> [rfl; (split <;> [rfl; (split <;> [rfl; (split <;> rfl)])])]
@[simp] theorem Device.pump_log (d : Device) : (d.pump).log = d.log := by
  unfold Device.pump; split <;> [rfl; (split <;> [rfl; (split <;> [rfl; (split <;> rfl)])])]
@[simp] theorem Device.pump_counts (d : Device) : (d.pump).counts = d.counts := by
  unfold Device.pump; split <;> [rfl; (split <;> [rfl; (split <;> [rfl; (split <;> rfl)])])]
@[simp] theorem Device.pump_mail (d : Device) : (d.pump).mail = d.mail := by
  unfold Device.pump; split <;> [rfl; (split <;> [rfl; (split <;> [rfl; (split <;> rfl)])])]
@[simp] theorem Device.pump_bus (d : Device) : (d.pump).bus = d.bus := by
  unfold Device.pump; split <;> [rfl; (split <;> [rfl; (split <;> [rfl; (split <;> rfl)])])]

@[simp] theorem Device.receive_time (f : Frame) (d : Device) : (d.receive f).time = d.time := by
  unfold Device.receive; dsimp only; split <;> [rfl; (split <;> rfl)]
@[simp] theorem Device.receive_tables (f : Frame) (d : Device) : (d.receive f).tables = d.tables := by
  unfold Device.receive; dsimp only; split <;> [rfl; (split <;> rfl)]
@[simp] theorem Device.receive_stored (f : Frame) (d : Device) : (d.receive f).stored = d.stored := by
  unfold Device.receive; dsimp only; split <;> [rfl; (split <;> rfl)]
@[simp] theorem Device.receive_track (f : Frame) (d : Device) : (d.receive f).track = d.track := by
  unfold Device.receive; dsimp only; split <;> [rfl; (split <;> rfl)]
@[simp] theorem Device.receive_pace (f : Frame) (d : Device) : (d.receive f).pace = d.pace := by
  unfold Device.receive; dsimp only; split <;> [rfl; (split <;> rfl)]
@[simp] theorem Device.receive_climate (f : Frame) (d : Device) : (d.receive f).climate = d.climate := by
  unfold Device.receive; dsimp only; split <;> [rfl; (split <;> rfl)]
@[simp] theorem Device.receive_die (f : Frame) (d : Device) : (d.receive f).die = d.die := by
  unfold Device.receive; dsimp only; split <;> [rfl; (split <;> rfl)]
@[simp] theorem Device.receive_spread (f : Frame) (d : Device) : (d.receive f).spread = d.spread := by
  unfold Device.receive; dsimp only; split <;> [rfl; (split <;> rfl)]
@[simp] theorem Device.receive_acc (f : Frame) (d : Device) : (d.receive f).acc = d.acc := by
  unfold Device.receive; dsimp only; split <;> [rfl; (split <;> rfl)]
@[simp] theorem Device.receive_gauge (f : Frame) (d : Device) : (d.receive f).gauge = d.gauge := by
  unfold Device.receive; dsimp only; split <;> [rfl; (split <;> rfl)]
@[simp] theorem Device.receive_log (f : Frame) (d : Device) : (d.receive f).log = d.log := by
  unfold Device.receive; dsimp only; split <;> [rfl; (split <;> rfl)]
@[simp] theorem Device.receive_mail (f : Frame) (d : Device) : (d.receive f).mail = d.mail := by
  unfold Device.receive; dsimp only; split <;> [rfl; (split <;> rfl)]
@[simp] theorem Device.receive_bus (f : Frame) (d : Device) : (d.receive f).bus = d.bus := by
  unfold Device.receive; dsimp only; split <;> [rfl; (split <;> rfl)]

end Sys2Proof.Machine
end

