-- ==== Sys2Proof/Laws/Operations.lean ====
section
/-! SUPPORT. What each shared operation can do, once: a later proof takes the case it needs from here and does not unfold the
operation. -/

namespace Sys2Proof.Machine

/-! Limits. -/

/-- An answer comes within its limit up to the moment at which the limit is reached. -/
theorem Device.within_iff (d : Device) (t : Timer) : d.within t = true ↔ d.time ≤ t.start + t.limit :=
  decide_eq_true_iff

/-! The host link. -/

/-- A notice joins the queue, or is dropped and counted (R190). -/
theorem Device.notify_cases (n : Notice) (d : Device) :
    (d.link.notices.length < maxNotices ∧ d.notify n = { d with link := { d.link with notices := d.link.notices ++ [n] } })
      ∨ (maxNotices ≤ d.link.notices.length ∧ d.notify n =
          { d.bump .noticesDropped with link := { d.link with droppedSince := min 65535 (d.link.droppedSince + 1) } }) := by
  rcases Nat.lt_or_ge d.link.notices.length maxNotices with h | h
  · exact .inl ⟨h, by simp [Device.notify, h]⟩
  · exact .inr ⟨h, by simp [Device.notify, Nat.not_lt.mpr h]⟩

/-- A good frame joins the request queue, or is answered QUEUE_FULL, or is discarded (R188). -/
theorem Device.receive_cases (f : Frame) (d : Device) :
    (d.link.queue.length < maxRequests ∧ d.receive f = { d.bump .framesGood with
        link := { d.link with queue := d.link.queue ++ [⟨f, .waiting⟩] } })
      ∨ (maxRequests ≤ d.link.queue.length ∧ d.link.queueFull = none ∧ d.receive f = { d.bump .framesGood with
        link := { d.link with queueFull := some ⟨f.kind, f.tag, .queueFull, 0, [], false⟩ } })
      ∨ (maxRequests ≤ d.link.queue.length ∧ d.link.queueFull.isSome ∧ d.receive f = d.bump .framesGood) := by
  rcases Nat.lt_or_ge d.link.queue.length maxRequests with h | h
  · exact .inl ⟨h, by simp [Device.receive, h]⟩
  · cases hq : d.link.queueFull with
    | none => exact .inr (.inl ⟨h, rfl, by simp [Device.receive, Nat.not_lt.mpr h, hq]⟩)
    | some r => exact .inr (.inr ⟨h, rfl, by simp [Device.receive, Nat.not_lt.mpr h, hq]⟩)

/-- The transmitter changes nothing but the link (R190). -/
theorem Device.pump_link_only (d : Device) : d.pump = { d with link := d.pump.link } := by
  simp only [Device.pump]; repeat' split
  all_goals rfl

/-! The spreader unit. -/

/-- A fill decision leaves the part as it is, or draws an empty rod and starts a load, or stages the empty rod (R137). -/
theorem Device.fill_cases (d : Device) :
    d.fill = d
      ∨ (d.spread.slot = .none ∧ d.spread.hold = false ∧ 0 < d.acc.returnCount
        ∧ ((∃ i, d.die.press = .running ∧ d.die.active.isSome ∧ d.die.identity = some i ∧ d.fill = d.drawRod.startLoad i)
          ∨ (d.tables.spreader.emptyFill = true ∧ ¬(d.die.press = .running ∧ d.die.active.isSome)
            ∧ d.fill = { d.drawRod with spread := { d.spread with slot := .emptyStaged } }))) := by
  by_cases h : d.spread.slot = .none ∧ d.spread.hold = false
  · simp only [Device.fill, h, and_self, if_true, Device.decideFill]
    by_cases hp : d.die.press = .running ∧ d.die.active.isSome
    · rw [if_pos hp]
      cases hi : d.die.identity with
      | none => exact .inl rfl
      | some i =>
        by_cases hr : 0 < d.acc.returnCount
        · exact .inr ⟨trivial, trivial, hr, .inl ⟨i, hp.1, hp.2, rfl, by simp [hr]⟩⟩
        · exact .inl (by simp [hr])
    · rw [if_neg hp]
      by_cases he : d.tables.spreader.emptyFill ∧ 0 < d.acc.returnCount
      · exact .inr ⟨trivial, trivial, he.2, .inr ⟨he.1, hp, by rw [if_pos he]⟩⟩
      · exact .inl (by rw [if_neg he])
  · exact .inl (by simp [Device.fill, h])

/-- Clearing the chain hold leaves the part as it is, or makes a fill decision (R137, R138). -/
theorem Device.clearHold_cases (d : Device) :
    (d.spread.hold = false ∧ d.clearHold = d)
      ∨ (d.spread.hold = true ∧ d.clearHold = { d with spread := { d.spread with hold := false } }.fill) := by
  cases h : d.spread.hold
  · exact .inl ⟨rfl, by simp [Device.clearHold, h]⟩
  · exact .inr ⟨rfl, by simp [Device.clearHold, h]⟩

/-! The tunnel track. -/

/-- Rods are added to an established inventory only, and nothing else changes (R17). -/
theorem Device.inventoryAdd_only (n : Nat) (d : Device) :
    d.inventoryAdd n = { d with track := { d.track with
      inventory := if d.track.established then (d.track.inventory + n) % size32 else d.track.inventory } } := by
  unfold Device.inventoryAdd; split <;> rfl

/-- Rods are taken from an established inventory only, and nothing else changes (R17). -/
theorem Device.inventorySub_only (n : Nat) (d : Device) :
    d.inventorySub n = { d with track := { d.track with
      inventory := if d.track.established then (d.track.inventory + size32 - n % size32) % size32
        else d.track.inventory } } := by
  unfold Device.inventorySub; split <;> rfl

/-- The test for establishment leaves the part as it is, or establishes the inventory at the sum and says so (R16). -/
theorem Device.establish_cases (d : Device) :
    d.establish = d
      ∨ (d.track.established = false ∧ d.complete = true ∧ d.establish =
          { d with track := { d.track with established := true, inventory := d.rodSum % size32 } }.notifyLine
            .inventoryEstablished) := by
  by_cases h : d.track.established = false ∧ d.complete = true
  · exact .inr ⟨h.1, h.2, by rw [Device.establish, if_pos h]⟩
  · exact .inl (by rw [Device.establish, if_neg h])

/-- The exit check leaves the part as it is, or marks the rod at the last position UNDERDRY and raises ROD_UNDERDRY (R41). -/
theorem exitCheck_cases (d : Device) :
    exitCheck d = d
      ∨ ∃ r, d.exitContent = .loaded r ∧ d.overMoist r = true ∧ r.flags.underdry = false ∧ exitCheck d =
          { d with track := { d.track with
              positions := d.track.positions.dropLast
                ++ [Content.loaded { r with flags := { r.flags with underdry := true } }] } }.raise
            .rodUnderdry { rod := some r.id } := by
  unfold exitCheck
  split
  · rename_i r hr
    split
    · rename_i h
      exact .inr ⟨r, hr, h.1, h.2, rfl⟩
    · exact .inl rfl
  all_goals exact .inl rfl

/-- The raises of an update are handed in order, and change nothing else (R38). -/
theorem raiseStressed_mail (ids : List Nat) (d : Device) :
    raiseStressed ids d = { d with mail := d.mail ++ ids.map fun id => .raise .rodStressed { rod := some id } } := by
  induction ids generalizing d with
  | nil => simp [raiseStressed]
  | cons id ids ih =>
    have h : raiseStressed (id :: ids) d = raiseStressed ids (d.raise .rodStressed { rod := some id }) := rfl
    rw [h, ih]
    simp [Device.raise, Device.post]

/-- An update changes the track and the mail only (R26, R27, R38, R40). -/
theorem update_only (d : Device) :
    update d = { d with track := (update d).track, mail := (update d).mail } := by
  simp only [update]
  split
  · rfl
  · rw [raiseStressed_mail]; rfl

/-- What an update leaves of the track: the positions, brought forward if the interval is above 0, keep their number; no
count of rods and no id changes (R26, R27). -/
theorem update_track (d : Device) :
    (update d).track.positions.length = d.track.positions.length ∧ (update d).track.lastId = d.track.lastId
      ∧ (update d).track.established = d.track.established ∧ (update d).track.inventory = d.track.inventory
      ∧ (update d).track.spill = d.track.spill := by
  simp only [update]
  split
  · exact ⟨rfl, rfl, rfl, rfl, rfl⟩
  · rw [raiseStressed_mail]
    simp [Device.post]

/-- The update and the exit check of an attempt change the track and the mail only (R26, R27, R74). -/
theorem exitCheck_update_only (d : Device) :
    exitCheck (update d) =
      { d with track := (exitCheck (update d)).track, mail := (exitCheck (update d)).mail } := by
  obtain h | ⟨r, _, _, _, h⟩ := exitCheck_cases (update d) <;> rw [h]
  · exact update_only d
  · rw [update_only d]; rfl

/-- An update dries by 256 while a reset of the profile's factor waits, and by the factor otherwise (R43). -/
theorem Device.correction_cases (d : Device) (p : Nat) :
    (Mail.reset p ∈ d.mail ∧ d.correction p = 256)
      ∨ (Mail.reset p ∉ d.mail ∧ d.correction p = d.gauge.factors.getD p 0) := by
  by_cases h : Mail.reset p ∈ d.mail
  · exact .inl ⟨h, if_pos h⟩
  · exact .inr ⟨h, if_neg h⟩

/-! The accumulator unit. -/

/-- An empty rod joins the return buffer with a fill decision, or goes to spill with RETURN_OVERFLOW raised (R163). -/
theorem Device.returnRod_cases (c : Context) (d : Device) :
    (d.acc.returnDeclared = true ∧ d.acc.returnCount < d.tables.acc.returnCap
        ∧ d.returnRod c = { d with acc := { d.acc with returnCount := d.acc.returnCount + 1 } }.fill)
      ∨ (¬(d.acc.returnDeclared = true ∧ d.acc.returnCount < d.tables.acc.returnCap)
        ∧ d.returnRod c = d.spillRod.raise .returnOverflow c) := by
  by_cases h : d.acc.returnDeclared = true ∧ d.acc.returnCount < d.tables.acc.returnCap
  · exact .inl ⟨h.1, h.2, by rw [Device.returnRod, if_pos h]⟩
  · exact .inr ⟨h, by rw [Device.returnRod, if_neg h]⟩

/-- A grant is made by an IDLE stripper that is not paused, from the head of the lane chosen (R156). -/
theorem Device.grant_some {d e : Device} (h : d.grant = some e) :
    d.acc.stripper = .idle ∧ d.acc.paused = false ∧ ∃ l c r rest, d.chooseLane = some (l, c) ∧ (c.lane l).records = r :: rest
      ∧ e = (c.modifyLane l fun x => { x with records := rest }).startStrip ⟨r, l, (c.laneEntry l).dest⟩ := by
  unfold Device.grant at h
  split at h
  · rename_i hi
    split at h
    · rename_i p hc
      obtain ⟨l, c⟩ := p
      simp only [Device.grantFrom] at h
      split at h
      · cases h
      · rename_i r rest hr
        cases h
        exact ⟨hi.1, hi.2, l, c, r, rest, hc, hr, rfl⟩
    · cases h
  · cases h

/-- The lane chosen is a STRICT lane that holds a record, with nothing charged, or a RATIO lane, with the credits and the
pointer after its charge (R156, R157). -/
theorem Device.chooseLane_cases {d c : Device} {l : Nat} (h : d.chooseLane = some (l, c)) :
    (c = d ∧ l < 4 ∧ (d.laneEntry l).mode = .strict ∧ d.laneReady l = true)
      ∨ (d.candidate l = true ∧ c = d.charge l) ∨ (d.refill.candidate l = true ∧ c = d.refill.charge l) := by
  unfold Device.chooseLane at h
  split at h
  · rename_i k hk
    cases h
    have hm := List.mem_of_find?_eq_some hk
    have hp := List.find?_some hk
    simp only [Bool.and_eq_true, decide_eq_true_eq] at hp
    exact .inl ⟨rfl, List.mem_range.mp hm, hp.1, hp.2⟩
  · unfold Device.ratioChoice at h
    split at h
    · rename_i k hk
      cases h
      exact .inr (.inl ⟨List.find?_some hk, rfl⟩)
    · split at h
      · simp only [Option.map_eq_some_iff, Prod.mk.injEq] at h
        obtain ⟨k, hk, rfl, rfl⟩ := h
        exact .inr (.inr ⟨List.find?_some hk, rfl⟩)
      · cases h

/-- The end of an event at the unit grants and reports, or reports a free place, or does nothing (R152, R156). -/
theorem Device.accEnd_cases (freed : Bool) (d : Device) :
    (∃ e, d.grant = some e ∧ d.accEnd freed = e.post (.retry .freePlace))
      ∨ (d.grant = none ∧ d.accEnd freed = if freed then d.post (.retry .freePlace) else d) := by
  cases h : d.grant with
  | none => exact .inr ⟨rfl, by simp [Device.accEnd, h]⟩
  | some e => exact .inl ⟨e, rfl, by simp [Device.accEnd, h]⟩

/-! The pacing unit. -/

/-- A stop order leaves the line STOPPED with no due pending, and a pacer that a move does not hold IDLE (R65). -/
theorem Device.stopLine_pace (cause : StopCause) (d : Device) :
    (d.stopLine cause).pace = { d.pace with
      line := .stopped
      cause := if d.pace.line = .running then cause else d.pace.cause
      due := false
      pitch := ⟨d.watch d.pace.pitch, none⟩
      pacer := if d.pace.pacer = .moving ∨ d.pace.pacer = .unresolved then d.pace.pacer else .idle
      reason := none } := by
  simp only [Device.stopLine]
  split <;> cases d.pace.pacer <;> simp

/-- An attempt ends while a load is in flight, and changes nothing; otherwise it sets the chain hold, runs the update and the
exit check, and comes to its disposition (R73, R74). -/
theorem Device.attempt_cases (kind : MoveKind) (d : Device) :
    (d.spread.slot = .loading ∧ d.attempt kind = (d, .ended .loadInFlight))
      ∨ (d.spread.slot ≠ .loading ∧ d.attempt kind = (exitCheck (update d.setHold)).reserveAndMove kind) := by
  by_cases hs : d.spread.slot = .loading
  · exact .inl ⟨hs, if_pos hs⟩
  · exact .inr ⟨hs, if_neg hs⟩

/-- The disposition of an attempt ends it with no room for the exit record, or starts a move: with a reservation for an exit
record, and without one otherwise (R74, R76). -/
theorem Device.reserveAndMove_cases (kind : MoveKind) (e : Device) :
    (∃ r l, e.exitContent = .loaded r ∧ l = e.laneFor (dispositionOf r) r ∧ e.hasRoom l = true ∧ e.reserveAndMove kind =
        ((e.modifyLane l LaneRt.reserve).startMove kind (some l) (some (dispositionOf r)), .started))
      ∨ (∃ r, e.exitContent = .loaded r ∧ e.hasRoom (e.laneFor (dispositionOf r) r) = false
        ∧ e.reserveAndMove kind = (e, .ended .laneFull))
      ∨ (e.exitContent.rod? = none ∧ e.reserveAndMove kind = (e.startMove kind none none, .started)) := by
  unfold Device.reserveAndMove
  split
  · rename_i r hc
    dsimp only
    split
    · rename_i hr
      exact .inl ⟨r, _, hc, rfl, hr, rfl⟩
    · rename_i hr
      exact .inr (.inl ⟨r, hc, by simpa using hr, rfl⟩)
  all_goals rename_i hc; exact .inr (.inr ⟨by rw [hc]; rfl, rfl⟩)

/-- A due is lost, kept for after the move, taken up by an attempt, or is nothing to an IDLE pacer (R72). -/
theorem Device.due_cases (d : Device) :
    (d.pace.pacer = .waiting ∧ d.due = d.pacedAttempt)
      ∨ ((d.pace.pacer = .moving ∨ d.pace.pacer = .unresolved) ∧ d.pace.due = false
        ∧ d.due = { d with pace := { d.pace with due := true } })
      ∨ (((d.pace.pacer = .moving ∨ d.pace.pacer = .unresolved) ∧ d.pace.due = true ∨ d.pace.pacer = .deferred)
        ∧ d.due = d.loseDue)
      ∨ (d.pace.pacer = .idle ∧ d.due = d) := by
  unfold Device.due
  cases hp : d.pace.pacer <;> cases hd : d.pace.due <;> simp

/-! The die carriage unit. -/

/-- Changing a station changes that station and no other. -/
@[simp] theorem Device.station_modifyStation (side o : Side) (f : Station → Station) (d : Device) :
    (d.modifyStation side f).station o = if o = side then f (d.station o) else d.station o := by
  cases side <;> cases o <;> rfl

/-- An event of the unit leaves the part as its act does, with a DIE_STATE notice if a station or the carriage changed (R127). -/
theorem dieEvent_cases (act : Device → Device) (d : Device) :
    (dieChanged d.die (act d).die = false ∧ dieEvent act d = act d)
      ∨ (dieChanged d.die (act d).die = true
        ∧ dieEvent act d = (act d).notifyDie (dieEventOf d.die (act d).die)) := by
  cases h : dieChanged d.die (act d).die
  · exact .inl ⟨rfl, by simp [dieEvent, h]⟩
  · exact .inr ⟨rfl, by simp [dieEvent, h]⟩

/-- An answer to the carriage query counts while the carriage is QUERYING and within the limit only (R128). -/
theorem Device.queryAnswer_cases (station : Option Side) (d : Device) :
    ((d.die.carriage ≠ .querying ∨ d.queryOpen = false) ∧ d.queryAnswer station = d)
      ∨ (d.die.carriage = .querying ∧ d.queryOpen = true
        ∧ ((∃ side, station = some side ∧ d.queryAnswer station = (d.carriageAt side).activate false side)
          ∨ (station = none ∧ d.queryAnswer station = d.queryFailed))) := by
  by_cases h : d.die.carriage = .querying ∧ d.queryOpen = true
  · refine .inr ⟨h.1, h.2, ?_⟩
    cases station with
    | none => exact .inr ⟨rfl, by simp [Device.queryAnswer, h]⟩
    | some side => exact .inl ⟨side, rfl, by simp [Device.queryAnswer, h]⟩
  · refine .inl ⟨?_, by simp [Device.queryAnswer, h]⟩
    by_cases hc : d.die.carriage = .querying
    · exact .inr (by simpa [hc] using h)
    · exact .inl hc

/-- A press that is already in a state is set to it without a word; otherwise a notice says so, and RUNNING makes a fill
decision (R131, R137). -/
theorem Device.setPress_cases (p : PressState) (d : Device) :
    (d.die.press = p ∧ d.setPress p = d)
      ∨ (d.die.press ≠ p ∧ p ≠ .running ∧ d.setPress p = { d with die := { d.die with press := p } }.notifyDie .pressState)
      ∨ (d.die.press ≠ p ∧ p = .running
        ∧ d.setPress p = ({ d with die := { d.die with press := p } }.notifyDie .pressState).fill) := by
  by_cases h : d.die.press = p
  · subst h
    exact .inl ⟨rfl, by simp only [Device.setPress, if_true]⟩
  · by_cases hr : p = .running
    · exact .inr (.inr ⟨h, hr, by simp only [Device.setPress, if_neg h, if_pos hr]⟩)
    · exact .inr (.inl ⟨h, hr, by simp only [Device.setPress, if_neg h, if_neg hr]⟩)

/-- A stop order at the press is sent on to a press that starts or runs, and is nothing otherwise (R131). -/
theorem Device.stopPress_cases (d : Device) :
    ((d.die.press = .starting ∨ d.die.press = .running)
        ∧ d.stopPress = ((d.send .pressStop).startPressLimit).setPress .stopping)
      ∨ ((d.die.press = .stopped ∨ d.die.press = .stopping) ∧ d.stopPress = d) := by
  unfold Device.stopPress
  cases d.die.press <;> simp

/-- A station becomes ACTIVE only from READY, at the carriage, with its copy as the identity; otherwise nothing changes
(R119). -/
theorem Device.activate_cases (byCarriage : Bool) (side : Side) (d : Device) :
    d.activate byCarriage side = d
      ∨ ∃ c, (d.station side).state = .ready ∧ d.die.carriage = .idle ∧ d.die.position = some side ∧ d.die.active = none
        ∧ (d.station side).copy = some c := by
  unfold Device.activate
  split
  · rename_i h
    split
    · rename_i c hc
      exact .inr ⟨c, h.1, h.2.1, h.2.2.1, h.2.2.2, hc⟩
    · exact .inl rfl
  · exact .inl rfl

/-! The zone unit. -/

/-- Changing a zone index changes that one and no other. -/
theorem Device.zone_modifyZone (z k : Nat) (f : ZoneRt → ZoneRt) (d : Device) (h : k < d.climate.zones.length) :
    (d.modifyZone z f).zone k = if k = z then f (d.zone k) else d.zone k := by
  simp only [Device.zone, Device.modifyZone, List.getD_eq_getElem?_getD, List.getElem?_modify]
  by_cases hk : k = z
  · subst hk; simp [h]
  · simp [hk, Ne.symm hk]

/-- The round goes on to the next zone of the layout, or ends (R97, R111). -/
theorem Device.nextZone_cases (r : Round) (outcome : ReadOutcome) (set : Option Bool) (d : Device) :
    (r.zone + 1 < d.tables.zones.length
        ∧ d.nextZone r outcome set = d.sendRead r (r.zone + 1) (r.results ++ [⟨r.zone, outcome, set⟩]))
      ∨ (d.tables.zones.length ≤ r.zone + 1
        ∧ d.nextZone r outcome set = d.endRound r (r.results ++ [⟨r.zone, outcome, set⟩])) := by
  rcases Nat.lt_or_ge (r.zone + 1) d.tables.zones.length with h | h
  · exact .inl ⟨h, by simp [Device.nextZone, h]⟩
  · exact .inr ⟨h, by simp [Device.nextZone, Nat.not_lt.mpr h]⟩

/-! The fault log. -/

/-- A masked raise is counted only; an unmasked one runs the whole sequence (R176). -/
theorem Device.takeRaise_cases (k : FaultKind) (c : Context) (d : Device) :
    ((d.faultSetting k).masked = true ∧ d.takeRaise k c = d.countRaise k)
      ∨ ((d.faultSetting k).masked = false ∧ d.takeRaise k c =
        ((((d.countRaise k).setStatus k).fillFirst k c).faultNotice k c d.log.first.isNone).faultAction
          (d.faultSetting k).severity) := by
  cases h : (d.faultSetting k).masked
  · exact .inr ⟨rfl, by simp [Device.takeRaise, h]⟩
  · exact .inl ⟨rfl, by simp [Device.takeRaise, h]⟩

/-! Declarations and establishment. -/

/-- The test for establishment does what R16 says, with the sum over the places written out. -/
theorem Device.establish_eq (d : Device) : d.establish = Established d := by
  have holds : Content.holdsRod = fun c => c.rod?.isSome || decide (c = .empty) := by funext c; cases c <;> rfl
  have all : d.complete = decide ((∀ c ∈ d.track.positions, c ≠ .unknown) ∧ (∀ l ∈ d.acc.lanes, l.declared = true)
      ∧ d.acc.returnDeclared = true) := by
    simp only [Device.complete, Bool.and_assoc]
    rw [Bool.eq_iff_iff]
    simp
  have sum : d.rodSum % size32 = (d.track.positions.countP (fun c => c.rod?.isSome || decide (c = .empty))
      + (d.acc.lanes.map fun l => l.records.length).sum + (if d.acc.slot = none then 0 else 1)
      + (if d.spread.slot = .none then 0 else 1) + d.acc.returnCount + d.track.spill) % 4294967296 := by
    simp only [Device.rodSum, holds, size32]
    cases d.acc.slot <;> rfl
  simp only [Device.establish, Established, all, sum, decide_eq_true_eq]
  split
  · simp [Device.notifyLine]
  · rfl

/-- A change that changes no lane leaves the lanes as they are. -/
theorem modify_lane_self (ls : List LaneRt) (l : Nat) (f : LaneRt → LaneRt) (h : ∀ x, f x = x) : ls.modify l f = ls := by
  rw [show f = id from funext h]
  refine List.ext_getElem? fun i => ?_
  rw [List.getElem?_modify]
  split <;> simp

/-- Two changes of one lane are one change. -/
theorem modify_lane_twice (ls : List LaneRt) (l : Nat) (f g : LaneRt → LaneRt) :
    (ls.modify l f).modify l g = ls.modify l fun x => g (f x) := by
  refine List.ext_getElem? fun i => ?_
  simp only [List.getElem?_modify]
  split <;> simp [Function.comp_def]

/-- A lane takes `n` records at its tail, untracked and born now; the first has the next free id (R154). -/
theorem Device.declareMany_eq (lane n : Nat) (d : Device) : ∃ new : List Rod, new.length = n
    ∧ (∀ r ∈ new, r.product = none ∧ r.born = d.clock ∧ r.flags = {} ∧ r.gauge = none ∧ r.exit = none ∧ r.close = none)
    ∧ (new.map Rod.id).headD 0 = (if n = 0 then 0 else d.freeId)
    ∧ d.declareMany lane n = { d with
        track := { d.track with lastId := ((new.map Rod.id).getLast?).getD d.track.lastId }
        acc := { d.acc with lanes := d.acc.lanes.modify lane fun x => { x with records := x.records ++ new } } } := by
  induction n generalizing d with
  | zero =>
    refine ⟨[], rfl, by simp, rfl, ?_⟩
    simp only [Device.declareMany, List.append_nil]
    rw [modify_lane_self _ _ _ fun x => rfl]
    rfl
  | succ n ih =>
    obtain ⟨new, length, untracked, _, eq⟩ := ih (d.declareOne lane)
    refine ⟨d.untracked d.freeId none :: new, by simp [length], ?_, by simp [Device.untracked], ?_⟩
    · intro r hr
      rcases List.mem_cons.1 hr with rfl | hr
      · simp [Device.untracked]
      · exact untracked r hr
    · rw [Device.declareMany, eq]
      simp only [Device.declareOne, Device.modifyLane, Device.assignId, modify_lane_twice]
      congr 2
      · cases new with
        | nil => rfl
        | cons a as => simp [List.getLast?_eq_some_getLast, Device.untracked]
      · simp

end Sys2Proof.Machine
end

