-- ==== Sys2Proof/Laws/PerInstr.lean ====
section
/-! SUPPORT. The family `Frame` of per-command lemmas: the frame of a well-formed request fits the host link (R187, R199), and an
event or a hand-over has none. -/

namespace Sys2Proof.Laws.Frame

/-- The frame of a well-formed request has a body of at most 250 bytes, so that its length byte can count it (R187, R199). -/
def Statement (i : Instr) : Prop := ∀ f, WellFormed i = true → i.frame? = some f → f.body.length ≤ maxBody

/-- A command without a frame. -/
theorem none_fits {i : Instr} (h : i.frame? = none) : Statement i := by
  intro f _ hf; simp [h] at hf

/-- A request whose body's length is known. -/
theorem some_fits {i : Instr} {g : Sys2Proof.Frame} (h : i.frame? = some g)
    (hl : WellFormed i = true → g.body.length ≤ maxBody) :
    Statement i := by
  intro f hw hf
  rw [h] at hf
  cases hf
  exact hl hw

/-- The body of a table write whose entries fit. -/
theorem write_fits (tag table count : Byte) (start : Half) (entries : List Byte) (size : Nat)
    (h : entriesFit size count entries = true) : (writeFrame tag table start count entries).body.length ≤ maxBody := by
  simp only [entriesFit, Bool.and_eq_true, decide_eq_true_eq] at h
  simp [writeFrame, Half.bytes]; omega

theorem powerUp (lost presenceA clampA presenceB clampB : Bool) :
    Statement (.powerUp lost presenceA clampA presenceB clampB) := none_fits rfl

theorem hostFrame (bytes : List Byte) : Statement (.hostFrame bytes) := none_fits rfl

theorem frameGapTimeout : Statement .frameGapTimeout := none_fits rfl

theorem frameSent : Statement .frameSent := none_fits rfl

theorem unknownRequest (kind tag : Byte) (body : List Byte) : Statement (.unknownRequest kind tag body) := by
  refine some_fits rfl fun h => ?_
  simp only [WellFormed, Bool.and_eq_true, decide_eq_true_eq] at h
  exact h.1

theorem tableWriteNotWritten (kind tag table : Byte) (start : Half) (count : Byte) (entries : List Byte) :
    Statement (.tableWriteNotWritten kind tag table start count entries) := by
  refine some_fits rfl fun h => ?_
  simp only [WellFormed, Bool.or_eq_true, Bool.and_eq_true, decide_eq_true_eq] at h
  rcases h with h | h
  · simp [h.2, Half.bytes, maxBody]
  · have := h.2; simp [Half.bytes]; omega

theorem tableWriteTunnel (tag : Byte) (start : Half) (count : Byte) (entries : List Byte) :
    Statement (.tableWriteTunnel tag start count entries) := some_fits rfl (write_fits _ _ _ _ _ 2)

theorem tableReadTunnel (tag : Byte) (start : Half) (count : Byte) :
    Statement (.tableReadTunnel tag start count) := some_fits rfl fun _ => Nat.le_of_ble_eq_true rfl

theorem tableWriteProfile (tag : Byte) (start : Half) (count : Byte) (entries : List Byte) :
    Statement (.tableWriteProfile tag start count entries) := some_fits rfl (write_fits _ _ _ _ _ 110)

theorem tableReadProfile (tag : Byte) (start : Half) (count : Byte) :
    Statement (.tableReadProfile tag start count) := some_fits rfl fun _ => Nat.le_of_ble_eq_true rfl

theorem tableWriteFormatMap (tag : Byte) (start : Half) (count : Byte) (entries : List Byte) :
    Statement (.tableWriteFormatMap tag start count entries) := some_fits rfl (write_fits _ _ _ _ _ 2)

theorem tableReadFormatMap (tag : Byte) (start : Half) (count : Byte) :
    Statement (.tableReadFormatMap tag start count) := some_fits rfl fun _ => Nat.le_of_ble_eq_true rfl

theorem tableWriteZoneLayout (tag : Byte) (start : Half) (count : Byte) (entries : List Byte) :
    Statement (.tableWriteZoneLayout tag start count entries) := some_fits rfl (write_fits _ _ _ _ _ 15)

theorem tableReadZoneLayout (tag : Byte) (start : Half) (count : Byte) :
    Statement (.tableReadZoneLayout tag start count) := some_fits rfl fun _ => Nat.le_of_ble_eq_true rfl

theorem tableWriteLanes (tag : Byte) (start : Half) (count : Byte) (entries : List Byte) :
    Statement (.tableWriteLanes tag start count entries) := some_fits rfl (write_fits _ _ _ _ _ 4)

theorem tableReadLanes (tag : Byte) (start : Half) (count : Byte) : Statement (.tableReadLanes tag start count) :=
  some_fits rfl fun _ => Nat.le_of_ble_eq_true rfl

theorem tableWriteDisposition (tag : Byte) (start : Half) (count : Byte) (entries : List Byte) :
    Statement (.tableWriteDisposition tag start count entries) := some_fits rfl (write_fits _ _ _ _ _ 1)

theorem tableReadDisposition (tag : Byte) (start : Half) (count : Byte) :
    Statement (.tableReadDisposition tag start count) := some_fits rfl fun _ => Nat.le_of_ble_eq_true rfl

theorem tableWritePacing (tag : Byte) (start : Half) (count : Byte) (entries : List Byte) :
    Statement (.tableWritePacing tag start count entries) := some_fits rfl (write_fits _ _ _ _ _ 7)

theorem tableReadPacing (tag : Byte) (start : Half) (count : Byte) :
    Statement (.tableReadPacing tag start count) := some_fits rfl fun _ => Nat.le_of_ble_eq_true rfl

theorem tableWriteSampling (tag : Byte) (start : Half) (count : Byte) (entries : List Byte) :
    Statement (.tableWriteSampling tag start count entries) := some_fits rfl (write_fits _ _ _ _ _ 3)

theorem tableReadSampling (tag : Byte) (start : Half) (count : Byte) :
    Statement (.tableReadSampling tag start count) := some_fits rfl fun _ => Nat.le_of_ble_eq_true rfl

theorem tableWriteFaultSettings (tag : Byte) (start : Half) (count : Byte) (entries : List Byte) :
    Statement (.tableWriteFaultSettings tag start count entries) := some_fits rfl (write_fits _ _ _ _ _ 2)

theorem tableReadFaultSettings (tag : Byte) (start : Half) (count : Byte) :
    Statement (.tableReadFaultSettings tag start count) := some_fits rfl fun _ => Nat.le_of_ble_eq_true rfl

theorem tableWriteDieSettings (tag : Byte) (start : Half) (count : Byte) (entries : List Byte) :
    Statement (.tableWriteDieSettings tag start count entries) := some_fits rfl (write_fits _ _ _ _ _ 3)

theorem tableReadDieSettings (tag : Byte) (start : Half) (count : Byte) :
    Statement (.tableReadDieSettings tag start count) := some_fits rfl fun _ => Nat.le_of_ble_eq_true rfl

theorem tableWriteGaugeSettings (tag : Byte) (start : Half) (count : Byte) (entries : List Byte) :
    Statement (.tableWriteGaugeSettings tag start count entries) := some_fits rfl (write_fits _ _ _ _ _ 3)

theorem tableReadGaugeSettings (tag : Byte) (start : Half) (count : Byte) :
    Statement (.tableReadGaugeSettings tag start count) := some_fits rfl fun _ => Nat.le_of_ble_eq_true rfl

theorem tableWriteSpreaderSettings (tag : Byte) (start : Half) (count : Byte) (entries : List Byte) :
    Statement (.tableWriteSpreaderSettings tag start count entries) := some_fits rfl (write_fits _ _ _ _ _ 2)

theorem tableReadSpreaderSettings (tag : Byte) (start : Half) (count : Byte) :
    Statement (.tableReadSpreaderSettings tag start count) := some_fits rfl fun _ => Nat.le_of_ble_eq_true rfl

theorem tableWriteAccumulatorSettings (tag : Byte) (start : Half) (count : Byte) (entries : List Byte) :
    Statement (.tableWriteAccumulatorSettings tag start count entries) := some_fits rfl (write_fits _ _ _ _ _ 3)

theorem tableReadAccumulatorSettings (tag : Byte) (start : Half) (count : Byte) :
    Statement (.tableReadAccumulatorSettings tag start count) := some_fits rfl fun _ => Nat.le_of_ble_eq_true rfl

theorem tableReadPosition (tag : Byte) (start : Half) (count : Byte) :
    Statement (.tableReadPosition tag start count) := some_fits rfl fun _ => Nat.le_of_ble_eq_true rfl

theorem tableReadLaneContent (tag : Byte) (place : Half) (count lane : Byte) :
    Statement (.tableReadLaneContent tag place count lane) := some_fits rfl fun _ => Nat.le_of_ble_eq_true rfl

theorem tableReadZoneState (tag : Byte) (start : Half) (count : Byte) :
    Statement (.tableReadZoneState tag start count) := some_fits rfl fun _ => Nat.le_of_ble_eq_true rfl

theorem tableReadDieStation (tag : Byte) (start : Half) (count : Byte) :
    Statement (.tableReadDieStation tag start count) := some_fits rfl fun _ => Nat.le_of_ble_eq_true rfl

theorem tableReadProfileState (tag : Byte) (start : Half) (count : Byte) :
    Statement (.tableReadProfileState tag start count) := some_fits rfl fun _ => Nat.le_of_ble_eq_true rfl

theorem tableReadCounters (tag : Byte) (start : Half) (count : Byte) :
    Statement (.tableReadCounters tag start count) := some_fits rfl fun _ => Nat.le_of_ble_eq_true rfl

theorem lineRun (tag : Byte) : Statement (.lineRun tag) := some_fits rfl fun _ => Nat.le_of_ble_eq_true rfl

theorem lineStop (tag : Byte) : Statement (.lineStop tag) := some_fits rfl fun _ => Nat.le_of_ble_eq_true rfl

theorem stopOrder (cause : StopCause) : Statement (.stopOrder cause) := none_fits rfl

theorem jog (tag : Byte) : Statement (.jog tag) := some_fits rfl fun _ => Nat.le_of_ble_eq_true rfl

theorem paceRestart (tag : Byte) : Statement (.paceRestart tag) := some_fits rfl fun _ => Nat.le_of_ble_eq_true rfl

theorem moveResolveMoved (tag : Byte) : Statement (.moveResolveMoved tag) :=
  some_fits rfl fun _ => Nat.le_of_ble_eq_true rfl

theorem moveResolveNotMoved (tag outcome : Byte) : Statement (.moveResolveNotMoved tag outcome) :=
  some_fits rfl fun _ => Nat.le_of_ble_eq_true rfl

theorem pitchTimerExpiry : Statement .pitchTimerExpiry := none_fits rfl

theorem pressScrewPulse (edge : Edge) (wait : Nat) : Statement (.pressScrewPulse edge wait) := none_fits rfl

theorem attemptRetry (report : PaceReport) : Statement (.attemptRetry report) := none_fits rfl

theorem moveDone (number : Byte) (seen : Sighting) : Statement (.moveDone number seen) := none_fits rfl

theorem moveLimitExpiry : Statement .moveLimitExpiry := none_fits rfl

theorem shiftDoneReport (late : Bool) : Statement (.shiftDoneReport late) := none_fits rfl

theorem standstillExpiry : Statement .standstillExpiry := none_fits rfl

theorem talliesHanded (pairs : List (Nat × Nat)) : Statement (.talliesHanded pairs) := none_fits rfl

theorem rodFind (tag : Byte) (id : Half) : Statement (.rodFind tag id) :=
  some_fits rfl fun _ => Nat.le_of_ble_eq_true rfl

theorem rodMark (tag : Byte) (id : Half) : Statement (.rodMark tag id) :=
  some_fits rfl fun _ => Nat.le_of_ble_eq_true rfl

theorem trackForget (tag : Byte) : Statement (.trackForget tag) := some_fits rfl fun _ => Nat.le_of_ble_eq_true rfl

theorem loadDone (number : Byte) : Statement (.loadDone number) := none_fits rfl

theorem loadFailed (number : Byte) : Statement (.loadFailed number) := none_fits rfl

theorem loadLimitExpiry : Statement .loadLimitExpiry := none_fits rfl

theorem batchNew (tag : Byte) : Statement (.batchNew tag) := some_fits rfl fun _ => Nat.le_of_ble_eq_true rfl

theorem presenceEvent (side : Side) (on : Bool) : Statement (.presenceEvent side on) := none_fits rfl

theorem debounceExpiry (side : Side) : Statement (.debounceExpiry side) := none_fits rfl

theorem clampEvent (side : Side) (closed : Bool) : Statement (.clampEvent side closed) := none_fits rfl

theorem buttonEvent (side : Side) : Statement (.buttonEvent side) := none_fits rfl

theorem memoryReadReply (side : Side) (number : Byte) (bytes : Option (List Byte)) :
    Statement (.memoryReadReply side number bytes) := none_fits rfl

theorem memoryExchangeExpiry (side : Side) : Statement (.memoryExchangeExpiry side) := none_fits rfl

theorem memoryWriteReply (side : Side) (number : Byte) (ok : Bool) :
    Statement (.memoryWriteReply side number ok) := none_fits rfl

theorem dieRelease (tag station : Byte) : Statement (.dieRelease tag station) :=
  some_fits rfl fun _ => Nat.le_of_ble_eq_true rfl

theorem dieKeep (tag station : Byte) : Statement (.dieKeep tag station) :=
  some_fits rfl fun _ => Nat.le_of_ble_eq_true rfl

theorem dieReread (tag station : Byte) : Statement (.dieReread tag station) :=
  some_fits rfl fun _ => Nat.le_of_ble_eq_true rfl

theorem dieSwap (tag station : Byte) : Statement (.dieSwap tag station) :=
  some_fits rfl fun _ => Nat.le_of_ble_eq_true rfl

theorem carriageQueryAnswer (station : Option Side) : Statement (.carriageQueryAnswer station) := none_fits rfl

theorem carriageQueryExpiry : Statement .carriageQueryExpiry := none_fits rfl

theorem carriageDone (station : Option Side) : Statement (.carriageDone station) := none_fits rfl

theorem carriageMoveExpiry : Statement .carriageMoveExpiry := none_fits rfl

theorem pressStart (tag : Byte) : Statement (.pressStart tag) := some_fits rfl fun _ => Nat.le_of_ble_eq_true rfl

theorem pressStop (tag : Byte) : Statement (.pressStop tag) := some_fits rfl fun _ => Nat.le_of_ble_eq_true rfl

theorem pressStopOrder : Statement .pressStopOrder := none_fits rfl

theorem pressStarted : Statement .pressStarted := none_fits rfl

theorem pressHalted : Statement .pressHalted := none_fits rfl

theorem pressFaultReport : Statement .pressFaultReport := none_fits rfl

theorem pressAckExpiry : Statement .pressAckExpiry := none_fits rfl

theorem periodicTimerExpiry : Statement .periodicTimerExpiry := none_fits rfl

theorem sampleNow (tag : Byte) : Statement (.sampleNow tag) := some_fits rfl fun _ => Nat.le_of_ble_eq_true rfl

theorem readReply (number : Byte) (reply : ModuleReply) : Statement (.readReply number reply) := none_fits rfl

theorem readLimitExpiry : Statement .readLimitExpiry := none_fits rfl

theorem setReply (number : Byte) (ok : Bool) : Statement (.setReply number ok) := none_fits rfl

theorem setLimitExpiry : Statement .setLimitExpiry := none_fits rfl

theorem settleTimerRunOut (zone : Nat) : Statement (.settleTimerRunOut zone) := none_fits rfl

theorem setpointRecomputeOrder (profile : Nat) : Statement (.setpointRecomputeOrder profile) := none_fits rfl

theorem zoneAccept (tag zone : Byte) : Statement (.zoneAccept tag zone) :=
  some_fits rfl fun _ => Nat.le_of_ble_eq_true rfl

theorem gaugeResult (number : Byte) (rod value : Half) : Statement (.gaugeResult number rod value) := none_fits rfl

theorem gaugeFailReport (number : Byte) : Statement (.gaugeFailReport number) := none_fits rfl

theorem gaugeLimitExpiry : Statement .gaugeLimitExpiry := none_fits rfl

theorem correctionResetOrder (profile : Nat) : Statement (.correctionResetOrder profile) := none_fits rfl

theorem stripDone (number : Byte) : Statement (.stripDone number) := none_fits rfl

theorem stripFaultReport (number : Byte) : Statement (.stripFaultReport number) := none_fits rfl

theorem stripLimitExpiry : Statement .stripLimitExpiry := none_fits rfl

theorem stripRetry (tag : Byte) : Statement (.stripRetry tag) := some_fits rfl fun _ => Nat.le_of_ble_eq_true rfl

theorem stripDiscard (tag : Byte) : Statement (.stripDiscard tag) := some_fits rfl fun _ => Nat.le_of_ble_eq_true rfl

theorem stripPause (tag : Byte) : Statement (.stripPause tag) := some_fits rfl fun _ => Nat.le_of_ble_eq_true rfl

theorem stripResume (tag : Byte) : Statement (.stripResume tag) := some_fits rfl fun _ => Nat.le_of_ble_eq_true rfl

theorem laneDeclare (tag lane count : Byte) : Statement (.laneDeclare tag lane count) :=
  some_fits rfl fun _ => Nat.le_of_ble_eq_true rfl

theorem returnDeclare (tag : Byte) (count : Half) : Statement (.returnDeclare tag count) :=
  some_fits rfl fun _ => Nat.le_of_ble_eq_true rfl

theorem rodAdd (tag : Byte) (count : Half) : Statement (.rodAdd tag count) :=
  some_fits rfl fun _ => Nat.le_of_ble_eq_true rfl

theorem rodRemoveReturn (tag : Byte) (count : Half) : Statement (.rodRemoveReturn tag count) :=
  some_fits rfl fun _ => Nat.le_of_ble_eq_true rfl

theorem rodRemoveSpill (tag place : Byte) (count : Half) : Statement (.rodRemoveSpill tag place count) :=
  some_fits rfl fun _ => Nat.le_of_ble_eq_true rfl

theorem faultRaise (kind : FaultKind) (context : Context) : Statement (.faultRaise kind context) := none_fits rfl

theorem faultRead (tag : Byte) : Statement (.faultRead tag) := some_fits rfl fun _ => Nat.le_of_ble_eq_true rfl

theorem faultClear (tag : Byte) (kinds : List Byte) : Statement (.faultClear tag kinds) := by
  refine some_fits rfl fun h => ?_
  simp only [WellFormed, Bool.and_eq_true, decide_eq_true_eq] at h
  exact Nat.le_trans h.2 (by decide)

theorem status (tag : Byte) : Statement (.status tag) := some_fits rfl fun _ => Nat.le_of_ble_eq_true rfl

theorem store (tag : Byte) : Statement (.store tag) := some_fits rfl fun _ => Nat.le_of_ble_eq_true rfl

theorem storeWriteEnd (ok : Bool) : Statement (.storeWriteEnd ok) := none_fits rfl

theorem storeLimitExpiry : Statement .storeLimitExpiry := none_fits rfl

theorem restart (tag : Byte) : Statement (.restart tag) := some_fits rfl fun _ => Nat.le_of_ble_eq_true rfl

end Sys2Proof.Laws.Frame
end

