-- ==== Sys2Proof/Laws/Requests.lean ====
section
/-! SUPPORT. What serving a request does, once for all request commands. -/

namespace Sys2Proof.Machine

theorem frameOf_eq {i : Instr} {f : Frame} (h : i.frame? = some f) : frameOf i = f := by simp [frameOf, h]

theorem Turn.nextRequest {i : Instr} {s : State} (h : Turn i s) : s.dev.nextRequest = some (frameOf i) := by
  obtain ⟨h1, h2⟩ := h
  obtain ⟨f, hf⟩ := Option.isSome_iff_exists.mp h1
  rw [h2, frameOf_eq hf, hf]

/-- A request that may be served now is handed to its owner. -/
theorem Device.request_turn {d : Device} {f : Frame} (own : Device → Device × Option Answer)
    (h : d.nextRequest = some f) : d.request f own = d.serve f own := by
  simp [Device.request, h]

/-- A request whose operands have their layout's length and whose turn it is: its owner acts, and one reply carries the
owner's answer. -/
theorem Device.ask_turn {i : Instr} {s : State} (own : Device → Device × Answer) (h : Turn i s)
    (hl : (frameOf i).request?.isSome) : s.dev.ask i own = (own s.dev).1.reply (frameOf i) (own s.dev).2 := by
  rw [Device.ask, Device.request_turn _ h.nextRequest]
  simp [Device.serve, hl]

/-- A meaning that asks an owner, run on a request whose turn it is. -/
theorem run_ask {i : Instr} {s : State} (own : Device → Device × Answer) (h : Turn i s)
    (hl : (frameOf i).request?.isSome) :
    run (fun d => d.ask i own) s = .next (Served i s (own s.dev).1 (own s.dev).2) := by
  simp [run, Device.ask_turn own h hl, Served]

/-- A request whose turn it is not arrives: it is received, and served only if its turn has then come. -/
theorem Device.request_arrives {d : Device} {f : Frame} (own : Device → Device × Option Answer)
    (h : d.nextRequest ≠ some f) :
    d.request f own = if (d.receive f).nextRequest = some f then (d.receive f).serve f own else d.receive f := by
  simp [Device.request, h]

/-- An event's meaning ends in the state after the event. -/
theorem run_after (act : Device → Device) (s : State) : run act s = .next (After s (act s.dev)) := rfl

/-- A limit that counts is reached at its moment, and its event follows. -/
theorem expire_some (t : Nat) (act : Device → Device) (d : Device) :
    expire (some t) act d = act { d with time := max d.time t } := rfl

/-- A limit that does not count has no expiry. -/
theorem expire_none (act : Device → Device) (d : Device) : expire none act d = d := rfl

end Sys2Proof.Machine
end

