-- ==== Sys2Proof/Tests/Slice0.lean ====
section
/-! SUPPORT. The model's own tests: ill-formed commands that WellFormed refuses, request frames written out from the layouts of
section 11.6, single steps with the numbers of the spec's worked examples, and for each statement with hypotheses a state and
operands that meet them. -/

namespace Sys2Proof.Tests

open Sys2Proof.Machine

/-! A few states to start from. -/

/-- The part at reset with CONFIG_DEFAULTED taken by nobody: nothing waits between its blocks. -/
def d0 : Device := { Device.reset with mail := [] }

def onPace (f : Pace → Pace) (d : Device) : Device := { d with pace := f d.pace }
def onTrack (f : Track → Track) (d : Device) : Device := { d with track := f d.track }
def onDie (f : DieUnit → DieUnit) (d : Device) : Device := { d with die := f d.die }
def onAcc (f : Accumulator → Accumulator) (d : Device) : Device := { d with acc := f d.acc }
def onSpread (f : Spreader → Spreader) (d : Device) : Device := { d with spread := f d.spread }
def onGauge (f : Gauge → Gauge) (d : Device) : Device := { d with gauge := f d.gauge }
def onClimate (f : Climate → Climate) (d : Device) : Device := { d with climate := f d.climate }
def onLink (f : Link → Link) (d : Device) : Device := { d with link := f d.link }
def onLog (f : FaultLog → FaultLog) (d : Device) : Device := { d with log := f d.log }

/-- The part with no command waiting. -/
def still (d : Device) : State := ⟨d, []⟩

/-- The part with a request at the head of its queue. -/
def asked (i : Instr) (d : Device) : State :=
  still { d with mail := [], link := { d.link with queue := [⟨frameOf i, .waiting⟩] } }

theorem turn_asked (i : Instr) (d : Device) (h : i.frame?.isSome) : Turn i (asked i d) := by
  obtain ⟨f, hf⟩ := Option.isSome_iff_exists.mp h
  refine ⟨h, ?_⟩
  simp [asked, still, Device.nextRequest, frameOf, hf]

/-- The state that an outcome leaves, or the state at reset if it leaves none. -/
def after (o : Host.Outcome State Fault Refusal) : Device :=
  match o with
  | .next s => s.dev
  | .fault _ => Device.reset
  | .refused _ => Device.reset

/-- The owner's answer to the request served: the last reply of the line, or the one being sent. -/
def answered (d : Device) : Option (Status × Half) :=
  match d.link.tx with
  | some ⟨.reply r, _⟩ => some (r.status, r.detail)
  | _ => d.link.replies.getLast?.map fun r => (r.status, r.detail)

/-- A TRACKED record of profile 0 with this moisture and stress. -/
def rod (id moisture stress : Nat) : Rod :=
  ⟨id, 0, {}, some ⟨0, 0, 0, .a, 1, 100, moisture, stress, List.replicate 6 0⟩, none, none, none⟩

/-! Ill-formed commands (WellFormed refuses each). -/

theorem test_wf_unknownRequest_of_a_known_request : WellFormed (.unknownRequest 0x03 1 []) = false := by decide
theorem test_wf_unknownRequest_too_long : WellFormed (.unknownRequest 0x00 1 (List.replicate 251 0)) = false := by decide +kernel
theorem test_wf_notWritten_read_of_a_known_table : WellFormed (.tableWriteNotWritten 1 1 16 0 1 []) = false := by decide
theorem test_wf_notWritten_write_of_a_written_table : WellFormed (.tableWriteNotWritten 2 1 0 0 1 []) = false := by decide
theorem test_wf_writeTunnel_length : WellFormed (.tableWriteTunnel 1 0 1 [0]) = false := by decide
theorem test_wf_writeProfile_length : WellFormed (.tableWriteProfile 1 0 1 []) = false := by decide
theorem test_wf_writeProfile_three : WellFormed (.tableWriteProfile 1 0 3 (List.replicate 330 0)) = false := by decide +kernel
theorem test_wf_writeFormatMap_length : WellFormed (.tableWriteFormatMap 1 0 1 [0]) = false := by decide
theorem test_wf_writeZoneLayout_length : WellFormed (.tableWriteZoneLayout 1 0 1 [0]) = false := by decide
theorem test_wf_writeLanes_length : WellFormed (.tableWriteLanes 1 0 1 [0, 0, 0]) = false := by decide
theorem test_wf_writeDisposition_length : WellFormed (.tableWriteDisposition 1 0 2 [0]) = false := by decide
theorem test_wf_writePacing_length : WellFormed (.tableWritePacing 1 0 1 [0]) = false := by decide
theorem test_wf_writeSampling_length : WellFormed (.tableWriteSampling 1 0 1 [0]) = false := by decide
theorem test_wf_writeFaultSettings_length : WellFormed (.tableWriteFaultSettings 1 0 1 [0]) = false := by decide
theorem test_wf_writeDieSettings_length : WellFormed (.tableWriteDieSettings 1 0 1 [0]) = false := by decide
theorem test_wf_writeGaugeSettings_length : WellFormed (.tableWriteGaugeSettings 1 0 1 [0]) = false := by decide
theorem test_wf_writeSpreaderSettings_length : WellFormed (.tableWriteSpreaderSettings 1 0 1 [0]) = false := by decide
theorem test_wf_writeAccumulatorSettings_length : WellFormed (.tableWriteAccumulatorSettings 1 0 1 [0]) = false := by decide
theorem test_wf_notMoved_of_moved : WellFormed (.moveResolveNotMoved 1 0) = false := by decide
theorem test_wf_spill_of_return : WellFormed (.rodRemoveSpill 1 0 5) = false := by decide
theorem test_wf_faultClear_empty : WellFormed (.faultClear 1 []) = false := by decide
theorem test_wf_faultClear_too_many : WellFormed (.faultClear 1 (List.replicate 24 0)) = false := by decide
theorem test_wf_memoryReadReply_length : WellFormed (.memoryReadReply .a 1 (some [0])) = false := by decide
theorem test_wf_settle_of_no_zone : WellFormed (.settleTimerRunOut 12) = false := by decide
theorem test_wf_recompute_of_no_profile : WellFormed (.setpointRecomputeOrder 8) = false := by decide
theorem test_wf_reset_of_no_profile : WellFormed (.correctionResetOrder 8) = false := by decide
theorem test_wf_tallies_exceeding : WellFormed (.talliesHanded [(3, 4)]) = false := by decide
theorem test_wf_stopOrder_without_cause : WellFormed (.stopOrder .none) = false := by decide

/-! Frames written out byte by byte from section 11.6, and the command each spells. -/

theorem test_frame_lineRun : Frame.command ⟨0x03, 9, []⟩ = .lineRun 9 := by decide
theorem test_frame_tableWrite : Frame.command ⟨0x02, 9, [8, 0x05, 0x00, 1, 0, 2]⟩ = .tableWriteFaultSettings 9 5 1 [0, 2] := by
  decide
theorem test_frame_laneContent : Frame.command ⟨0x01, 9, [17, 0x02, 0x01, 4, 3]⟩ = .tableReadLaneContent 9 0x0102 4 3 := by
  decide
theorem test_frame_rodRemove : Frame.command ⟨0x11, 9, [1, 0x2C, 0x01]⟩ = .rodRemoveSpill 9 1 300 := by decide
theorem test_frame_faultClear : Frame.command ⟨0x1B, 9, [0xFF]⟩ = .faultClear 9 [0xFF] := by decide
theorem test_frame_wrong_length : Frame.command ⟨0x0D, 9, []⟩ = .unknownRequest 0x0D 9 [] := by decide
/-- The CRC-16 of R187 is that of its published check value: polynomial 0x1021, initial 0xFFFF, over "123456789". -/
theorem test_crc16 : crc16 [0x31, 0x32, 0x33, 0x34, 0x35, 0x36, 0x37, 0x38, 0x39] = 0x29B1 := by decide +kernel

/-! The spec's worked examples. -/

/-- Chapter 1, allocation across the wrap: 65534, 1 and 2 are live. -/
theorem test_allocation_across_the_wrap : firstFree [65534, 1, 2] 3 65533 = 65535 ∧ firstFree [65534, 65535, 1, 2] 4 65535 = 3
    ∧ firstFree [65534, 65535, 1, 2, 3] 5 3 = 4 ∧ firstFree [65534, 1, 2, 65535] 4 65533 = 3 := by decide

/-- Section 2.7, case 1: Me 1575, F 2464, K 3609, ΔM 27, E 5, S 120. -/
theorem test_drying_case_1 : equilibrium [0, 0, 0, 0, 0, 0, 0, 1450, 1700, 0, 0] 750 = 1575 ∧ tempFactor 8 780 = 2464
    ∧ dryRate 1500 2464 256 = 3609 ∧ moistureLoss 3000 1575 3609 90 = 27 ∧ excess 15 90 27 = 5
    ∧ newStress .dry 0 4 90 100 5 = 120 := by decide

/-- Section 2.7, case 2: S 2010, and 1980 in a RELAX zone. -/
theorem test_drying_case_2 : newStress .dry 0 4 90 1990 5 = 2010 ∧ newStress .relax 20 4 90 1990 5 = 1980 := by decide

/-- Section 2.7, case 3: Me 1325, F 624, K 914, no loss, S 1920. -/
theorem test_drying_case_3 : equilibrium [0, 0, 0, 0, 0, 0, 1200, 1450, 0, 0, 0] 650 = 1325 ∧ tempFactor 8 550 = 624
    ∧ dryRate 1500 624 256 = 914 ∧ moistureLoss 1300 1325 914 90 = 0 ∧ excess 15 90 0 = 0
    ∧ newStress .relax 120 4 90 2100 0 = 1920 := by decide

/-- Section 2.7, case 4: Me 1500, F clamped to 256, K 375, ΔM 19, no excess. -/
theorem test_drying_case_4 : equilibrium [500, 700, 900, 1100, 1300, 1500, 1700, 1900, 2100, 2300, 2500] 500 = 1500
    ∧ tempFactor 8 100 = 256 ∧ dryRate 1500 256 256 = 375 ∧ moistureLoss 2950 1500 375 600 = 19 ∧ excess 15 600 19 = 0 := by
  decide

/-- Chapter 5, a humidity monitor with band 50 and setpoint 750: 790 IN, 805 OUT, 780 OUT, 775 IN; RETURN tells of the last. -/
theorem test_humidity_monitor : judged false 50 (gap 790 750) = false ∧ judged false 50 (gap 805 750) = true
    ∧ judged true 50 (gap 780 750) = true ∧ judged true 50 (gap 775 750) = false ∧ tells .ret .leave = false
    ∧ tells .ret .ret = true := by decide

/-- Chapter 5, trim: 45 rises to its maximum of 50 when more than half of 40 rods exceed, and falls when none does. -/
theorem test_trim : trimmed (defaultZone .dry 159 80 0) (40, 23) 45 = 50 ∧ trimmed (defaultZone .dry 159 80 0) (40, 20) 45 = 45
    ∧ trimmed (defaultZone .dry 159 80 0) (40, 0) 45 = 40 ∧ trimmed (defaultZone .dry 159 80 0) (0, 0) 3 = 0 := by decide

/-- Chapter 9, three rods past the gauge: 75 moves C from 256 to 260, −140 moves it back. -/
theorem test_gauge_factor : corrected 100 75 256 = 260 ∧ corrected 100 (-140) 260 = 256 ∧ corrected 100 50 256 = 256
    ∧ corrected 100 51 511 = 512 := by decide

/-- Chapter 8, sharing the stripper: the lanes granted, with the credits and the pointer after each grant. -/
def sharing (credit0 credit1 pointer : Nat) : Device :=
  onAcc (fun a => { a with
    lanes := [⟨true, [rod 1 0 0], 0, credit0⟩, ⟨true, [rod 2 0 0], 0, credit1⟩, ⟨true, [], 0, 1⟩, ⟨true, [], 0, 1⟩]
    pointer := pointer }) d0

def choice (d : Device) : Option (Nat × Nat × Nat × Nat) :=
  d.chooseLane.map fun c => (c.1, (c.2.lane 0).credit, (c.2.lane 1).credit, c.2.acc.pointer)

theorem test_sharing_the_stripper : choice (sharing 4 2 0) = some (0, 3, 2, 0) ∧ choice (sharing 1 2 0) = some (0, 0, 2, 1)
    ∧ choice (sharing 0 2 1) = some (1, 0, 1, 1) ∧ choice (sharing 0 1 1) = some (1, 0, 0, 2)
    ∧ choice (sharing 0 0 2) = some (0, 3, 2, 0) := by decide

/-- Chapter 3, a write with clamped values: a humidity setpoint of 1050 and an Ac of 0 are held as 1000 and 1, two clamped. -/
theorem test_profile_clamps :
    let written := { defaultProfile with ac := 0, hum := [750, 750, 1050, 750, 750, 750, 750, 750, 750, 750, 750, 750] }
    let v := readFields profileSpec written.bytes
    profileClamps v = 2 ∧ (profileOf v).ac = 1 ∧ (profileOf v).hum.getD 2 0 = 1000 ∧ badField? profileSpec v = none := by decide

/-- Chapter 10, two faults: kind 10 stops the line with HOLD, kind 9 with HALT also stops the press, a masked kind 11 only
counts. -/
theorem test_fault_heater : (after (exec (.faultRaise .heaterFault { zone := some 2 }) (still d0))).mail = [.stop .holdFault] := by
  decide
theorem test_fault_mismatch :
    (after (exec (.faultRaise .moduleMismatch { zone := some 3 }) (still d0))).mail = [.stop .haltFault, .pressStop] := by decide
theorem test_fault_masked :
    let d := { d0 with tables := { d0.tables with faults := d0.tables.faults.set 11 ⟨true, .note⟩ } }
    let e := after (exec (.faultRaise .climateDeviation { zone := some 5 }) (still d))
    e.kindState .climateDeviation = ⟨false, 1⟩ ∧ e.log.first = none ∧ e.link.notices = [] := by decide

/-! Single steps on small states. -/

/-- R64: a line with undeclared stores is refused with UNDECLARED, reason 2. -/
theorem test_lineRun_undeclared :
    answered (after (exec (.lineRun 1) (asked (.lineRun 1) (onLink (fun l => { l with tx := none }) d0))))
      = some (.wrongState, 2) := by decide

/-- R65: LINE_STOP on a RUNNING line leaves it STOPPED with cause REQUEST. -/
theorem test_lineStop :
    let e := after (exec (.lineStop 1) (asked (.lineStop 1) (onPace (fun p => { p with line := .running, pacer := .waiting }) d0)))
    e.pace.line = .stopped ∧ e.pace.cause = .request ∧ e.pace.pacer = .idle := by decide

/-- R145: the batch number wraps from 65535 to 0. -/
theorem test_batchNew_wraps :
    (after (exec (.batchNew 1) (asked (.batchNew 1) (onSpread (fun s => { s with batch := 65535 }) d0)))).spread.batch = 0 := by
  decide

/-- R188: a fifth request is answered QUEUE_FULL, and a sixth is discarded while that answer waits. -/
theorem test_queue_full :
    let full := onLink (fun l => { l with queue := List.replicate 4 ⟨⟨0x03, 1, []⟩, .waiting⟩ }) d0
    let e := full.receive ⟨0x04, 2, []⟩
    e.link.queueFull.map Reply.tag = some 2 ∧ e.link.queue.length = 4
      ∧ (e.receive ⟨0x04, 3, []⟩).link.queueFull.map Reply.tag = some 2 := by decide

/-- R154: LANE_DECLARE of 2 records gives lane 3 the next two ids. -/
theorem test_laneDeclare :
    let d := onAcc (fun a => { a with stripper := .stalled }) (onTrack (fun t => { t with positions := [], lastId := 65535 }) d0)
    let e := after (exec (.laneDeclare 1 3 2) (asked (.laneDeclare 1 3 2) d))
    (e.lane 3).records.map Rod.id = [1, 2] ∧ (e.lane 3).declared = true := by decide

/-- R164: ROD_REMOVE of more rods than the return buffer holds is refused and changes nothing. -/
theorem test_rodRemove_too_many :
    let d := onAcc (fun a => { a with returnDeclared := true, returnCount := 3 }) d0
    (after (exec (.rodRemoveReturn 1 4) (asked (.rodRemoveReturn 1 4) d))).acc.returnCount = 3 := by decide

/-- R7, R12: an empty rod at the exit, seen bare, goes to spill while the return buffer is undeclared, with RETURN_OVERFLOW. -/
theorem test_shift_of_an_empty_rod :
    let d := onTrack (fun t => { t with positions := [.gap, .empty] })
      (onPace (fun p => { p with pacer := .moving, inFlight := some ⟨7, none, none⟩ }) d0)
    let e := after (exec (.moveDone 7 .bare) (still d))
    e.track.positions = [.gap, .gap] ∧ e.track.spill = 1
      ∧ e.mail = [.raise .returnOverflow { move := some 7 }, .shiftDone false] := by decide

/-- R70: an edge 1 ms after the last counted edge is no edge; at 2 ms it counts. -/
theorem test_screw_pulse :
    let d := onPace (fun p => { p with line := .running, pacer := .moving, force := ⟨.follow, 600, 40, .rising⟩, lastEdge := some 0 }) d0
    (after (exec (.pressScrewPulse .rising 1) (still d))).pace.pulses = 0
      ∧ (after (exec (.pressScrewPulse .rising 2) (still d))).pace.pulses = 1
      ∧ (after (exec (.pressScrewPulse .falling 9) (still d))).pace.pulses = 0 := by decide

/-- R115, R118: a record whose check is one off is rejected with CHECK_FAILED. -/
theorem test_die_check :
    let bytes (check : Nat) : List Byte := u32 1 ++ u8 0 ++ u16 100 ++ u32 10 ++ u32 1000 ++ u16 check
    (dieRecordOf (bytes 346)).isSome ∧ dieRecordOf (bytes 347) = none := by decide

/-- R43, R53: a write of profile 2 has an update dry by 256 before the gauge unit has taken its order; profile 3 keeps its
factor. -/
def factors300 (d : Device) : Device := onGauge (fun g => { g with factors := List.replicate 8 300 }) d

theorem test_correction_while_a_reset_waits :
    let d := factors300 { d0 with mail := [.reset 2, .recompute 2] }
    d.correction 2 = 256 ∧ d.correction 3 = 300 := by decide

/-- R98: a reply 251 ms after its READ is ignored; the round still waits. -/
theorem test_late_read_reply :
    let reply := Instr.readReply 1 ⟨700, 750, 7, .ok, 700, 750⟩
    (after (exec reply (still { d0 with time := 251 }))).climate.round = d0.climate.round
      ∧ ((after (exec reply (still { d0 with time := 250 }))).zone 0).identity = some 7 := by decide

/-- R127, R128: a query's end without a named station changes the carriage state only, by an answer as by the expiry. -/
def dieEvents (d : Device) : List DieEvent :=
  d.link.notices.filterMap fun n =>
    match n with
    | .dieState _ _ _ _ _ _ why => some why
    | _ => none

theorem test_query_names_neither_station :
    dieEvents (after (exec (.carriageQueryAnswer none) (still d0))) = [.carriageState]
      ∧ dieEvents (after (exec .carriageQueryExpiry (still d0))) = [.carriageState] := by decide

/-- R195: a write that ends after its 3 s leaves no usable copy. -/
theorem test_late_store_end :
    let late : Device := onLink (fun l => { l with
      queue := [⟨⟨0x1F, 1, []⟩, .serving⟩], storeWrite := some ⟨defaultTables, ⟨0, 3000⟩⟩ }) { d0 with time := 3001 }
    (after (exec (.storeWriteEnd true) (still late))).stored = none := by decide

/-- R199: a SET of 700 tenths of a degree and 750 per mille under number 9, low byte first; a START of rod 0x0102 to REWORK. -/
theorem test_bus_items : (BusMessage.zoneSet 3 9 700 750).items = [9, 0xBC, 0x02, 0xEE, 0x02]
    ∧ (BusMessage.stripStart 4 0x0102 .rework).items = [4, 0x02, 0x01, 1]
    ∧ busItems? (.moveDone 7 .bare) = some [7, 1, 0]
    ∧ busItems? (.memoryReadReply .a 9 (some [1, 2])) = some [1, 2, 9] := by decide

/-! For each statement with hypotheses, a state and operands that meet them, clause by clause. -/

/-- The turn of any request comes in some state: the clauses whose only hypothesis is `Turn`. -/
theorem test_witness_turn (i : Instr) (h : i.frame?.isSome) : ∃ s, Turn i s := ⟨asked i d0, turn_asked i d0 h⟩

theorem test_witness_StepRunsFrontCommand :
    (∃ (d : Device) (m : Mail) (ms : List Mail), d.mail = m :: ms) ∧ ∃ d : Device, d.ownCommand = none :=
  ⟨⟨Device.reset, _, _, rfl⟩, ⟨d0, by decide +kernel⟩⟩

/-- A request in turn; and the gap of a partial frame, the only limit reached, its place among the limits being the second. -/
theorem test_witness_StepRunsFrontCommand_own :
    (∃ (d : Device) (f : Frame), d.mail = [] ∧ d.nextRequest = some f)
      ∧ (∃ (d : Device) (before : List (Option Nat × Instr)) (later : List (Option Nat × Instr)), d.mail = []
        ∧ d.nextRequest = none ∧ d.limits = before ++ (some 6, .frameGapTimeout) :: later ∧ d.time = 6
        ∧ (∀ q ∈ before, ∀ t, q.1 = some t → d.time < t) ∧ d.ownCommand = some .frameGapTimeout)
      ∧ ∃ d : Device, d.mail = [] ∧ d.nextRequest = none ∧ ∀ q ∈ d.limits, ∀ t, q.1 = some t → d.time < t := by
  refine ⟨⟨(asked (.status 1) d0).dev, _, rfl, rfl⟩,
    ⟨onLink (fun l => { l with collecting := some [], tx := none }) { d0 with time := 6 }, [(none, .frameSent)], _, rfl, rfl, rfl,
      rfl, ?_, rfl⟩, ⟨d0, rfl, rfl, by decide +kernel⟩⟩
  intro q hq t ht
  cases List.mem_singleton.1 hq
  cases ht

/-- A copy of some tables with their check. -/
def copyOf (t : Tables) : StoredCopy := ⟨t, crc16 t.bytes⟩

theorem copy_usable (t : Tables) : (copyOf t).check = crc16 (copyOf t).tables.bytes := rfl

/-- A copy of some tables with a check that does not match. -/
def badCopy (t : Tables) : StoredCopy := ⟨t, crc16 t.bytes + 1⟩

theorem bad_unusable (t : Tables) : (badCopy t).check ≠ crc16 (badCopy t).tables.bytes := by
  show crc16 t.bytes + 1 ≠ crc16 t.bytes
  generalize crc16 t.bytes = c
  bv_omega

theorem test_witness_PowerUpLoadsOneSource :
    (∃ (lost : Bool) (s : State), lost = true ∧ s.dev.stored.isSome) ∧ (∃ s : State, s.dev.stored = none)
      ∧ (∃ (c : StoredCopy) (s : State), s.dev.stored = some c ∧ c.check ≠ crc16 c.tables.bytes)
      ∧ ∃ (c : StoredCopy) (s : State), s.dev.stored = some c ∧ c.check = crc16 c.tables.bytes :=
  ⟨⟨true, still { d0 with stored := some ⟨defaultTables, 0⟩ }, rfl, rfl⟩, ⟨still d0, rfl⟩,
    ⟨badCopy defaultTables, still { d0 with stored := some (badCopy defaultTables) }, rfl, bad_unusable defaultTables⟩,
    ⟨copyOf defaultTables, still { d0 with stored := some (copyOf defaultTables) }, rfl, copy_usable defaultTables⟩⟩

theorem test_witness_RequestCodingRoundTrip : ∃ i f, WellFormed i = true ∧ i.frame? = some f :=
  ⟨.rodRemoveSpill 1 2 300, _, by decide, rfl⟩

/-- A request queue of four. -/
def fullQueue (d : Device) : Device :=
  onLink (fun l => { l with queue := List.replicate 4 ⟨⟨0x03, 1, []⟩, .waiting⟩ }) d

theorem test_witness_HostFrameTaken :
    (∃ (f : Frame) (s : State), f.body.length ≤ 250 ∧ s.dev.link.collecting = none ∧ s.dev.link.queue.length < 4)
      ∧ (∃ (f : Frame) (s : State), f.body.length ≤ 250 ∧ s.dev.link.collecting = none ∧ 4 ≤ s.dev.link.queue.length
          ∧ s.dev.link.queueFull = none)
      ∧ ∃ (f : Frame) (s : State) (check : Half), f.body.length ≤ 250 ∧ s.dev.link.collecting = none
          ∧ check ≠ crc16 (u8 (f.body.length + 2) ++ [f.kind, f.tag] ++ f.body) :=
  ⟨⟨⟨3, 1, List.replicate 250 0⟩, still d0, Nat.le_of_eq List.length_replicate, rfl, by decide⟩, ⟨⟨3, 1, []⟩, still (fullQueue d0), by decide, rfl, by decide, rfl⟩,
    ⟨⟨3, 1, []⟩, still d0, 0, by decide, rfl, by decide +kernel⟩⟩

/-- A COLLECTING framer with all of a frame but its last check byte, or but its length; a queue and an answer that are full. -/
theorem test_witness_HostFrameTaken_collecting :
    (∃ (f : Frame) (held bytes : List Byte) (d : Device), d.link.collecting = some held ∧ d.time + 1 = d.link.lastByte + 6
        ∧ bytes.length = 1 ∧ held ++ bytes = (frameBytes f).drop 1)
      ∧ (∃ d : Device, 4 ≤ d.link.queue.length ∧ d.link.queueFull.isSome)
      ∧ (∃ (bytes : List Byte) (d : Device), d.link.collecting = none ∧ bytes ≠ [] ∧ 0xE7 ∉ bytes)
      ∧ (∃ (f : Frame) (part rest : List Byte) (d : Device), d.link.collecting = none ∧ part = [] ∧ rest ≠ []
        ∧ part ++ rest = (frameBytes f).drop 1)
      ∧ (∃ (n : Byte) (d : Device), n.toNat = 253 ∧ d.link.collecting = some [] ∧ d.time < d.link.lastByte + 6)
      ∧ ∃ (held : List Byte) (d : Device), d.link.collecting = some held ∧ d.link.lastByte + 6 = d.time :=
  ⟨⟨⟨3, 1, []⟩, ((frameBytes ⟨3, 1, []⟩).drop 1).dropLast, [((frameBytes ⟨3, 1, []⟩).getLast?).getD 0],
      onLink (fun l => { l with collecting := some ((frameBytes ⟨3, 1, []⟩).drop 1).dropLast }) { d0 with time := 5 }, rfl, rfl, rfl,
      by decide +kernel⟩,
    ⟨onLink (fun l => { l with queueFull := some ⟨3, 1, .queueFull, 0, [], false⟩ }) (fullQueue d0), by decide, rfl⟩,
    ⟨[0, 0xE6], d0, rfl, by decide, by decide⟩, ⟨⟨3, 1, []⟩, [], _, d0, rfl, rfl, by decide +kernel, rfl⟩,
    ⟨253, onLink (fun l => { l with collecting := some [] }) d0, rfl, rfl, by decide⟩,
    ⟨[4], onLink (fun l => { l with collecting := some [4] }) { d0 with time := 6 }, rfl, rfl⟩⟩

/-- R187: lengths 1 and 253 end the frame at once, and are counted among the frames with a bad check (count 1 of R192). -/
theorem test_bad_length :
    (after (exec (.hostFrame [0xE7, 1]) (still d0))).counts.getD 1 0 = 1
      ∧ (after (exec (.hostFrame [0xE7, 253]) (still d0))).counts.getD 1 0 = 1
      ∧ (after (exec (.hostFrame [0xE7, 2]) (still d0))).link.collecting = some [2] := by decide

theorem test_witness_FramerAndTransmitterEvents :
    (∃ (s : State) (bytes : List Byte), s.dev.link.collecting = some bytes)
      ∧ (∃ (s : State) (r : Reply) (start : Nat), s.dev.link.tx = some ⟨.reply r, start⟩ ∧ r.holds = true)
      ∧ (∃ (s : State) (r : Reply) (start : Nat), s.dev.link.tx = some ⟨.reply r, start⟩ ∧ r.holds = false)
      ∧ ∃ (s : State) (n : Notice) (sequence dropped start : Nat), s.dev.link.tx = some ⟨.notice n sequence dropped, start⟩ :=
  ⟨⟨still (onLink (fun l => { l with collecting := some [5] }) d0), _, rfl⟩,
    ⟨still (onLink (fun l => { l with tx := some ⟨.reply ⟨3, 1, .accepted, 0, [], true⟩, 0⟩ }) d0), _, _, rfl, rfl⟩,
    ⟨still (onLink (fun l => { l with tx := some ⟨.reply ⟨3, 1, .queueFull, 0, [], false⟩, 0⟩ }) d0), _, _, rfl, rfl⟩,
    ⟨still d0, _, _, _, _, rfl⟩⟩

theorem test_witness_PlainRequestsAnswered :
    (∃ kind tag body s, 1 ≤ kind.toNat ∧ kind.toNat ≤ 32 ∧ WellFormed (.unknownRequest kind tag body) = true
        ∧ Turn (.unknownRequest kind tag body) s)
      ∧ (∃ kind tag body s, 32 < kind.toNat ∧ WellFormed (.unknownRequest kind tag body) = true
        ∧ Turn (.unknownRequest kind tag body) s)
      ∧ (∃ kind tag table start count entries s, 16 ≤ table.toNat ∧ table.toNat ≤ 21
          ∧ WellFormed (.tableWriteNotWritten kind tag table start count entries) = true
          ∧ Turn (.tableWriteNotWritten kind tag table start count entries) s)
      ∧ ∃ kind tag table start count entries s, 21 < table.toNat
          ∧ WellFormed (.tableWriteNotWritten kind tag table start count entries) = true
          ∧ Turn (.tableWriteNotWritten kind tag table start count entries) s :=
  ⟨⟨32, 1, [0], _, by decide, by decide, by decide, turn_asked _ d0 rfl⟩,
    ⟨33, 1, [], _, by decide, by decide, turn_asked _ d0 rfl⟩,
    ⟨2, 1, 16, 0, 1, [0], _, by decide, by decide, by decide, turn_asked _ d0 rfl⟩,
    ⟨1, 1, 22, 0, 1, [], _, by decide, by decide, turn_asked _ d0 rfl⟩⟩

/-- A STORE served at 0 whose write is in flight at this time. -/
def storing (time : Nat) (d : Device) : Device :=
  onLink (fun l => { l with
    queue := [⟨⟨0x1F, 1, []⟩, .serving⟩]
    storeWrite := some ⟨defaultTables, ⟨0, 3000⟩⟩ }) { d with time := time }

theorem test_witness_StoreWritesTheCopy :
    (∃ (f : Frame) (w : StoreWrite) (s : State), s.dev.link.storeWrite = some w ∧ s.dev.serving = some f
        ∧ s.dev.time = w.timer.start + w.timer.limit)
      ∧ ∃ (f : Frame) (w : StoreWrite) (s : State), s.dev.link.storeWrite = some w ∧ s.dev.serving = some f
        ∧ s.dev.time = w.timer.start + w.timer.limit + 1 :=
  ⟨⟨_, _, still (storing 3000 d0), rfl, rfl, rfl⟩, ⟨_, _, still (storing 3001 d0), rfl, rfl, rfl⟩⟩

/-- A station with a die, whose record was read with a wear of 10 and the check of those bytes. -/
def withDie (state : StationState) (wear : Nat) : Station :=
  { Station.reset with presence := true, clamp := true, state := state, copy := some ⟨5, 0, 100, wear, 1000, 350⟩,
                       wearAtRead := some 10 }

/-- A read in flight at a station. -/
def reading (number : Nat) : Station :=
  { Station.reset with presence := true, clamp := true, state := .reading, exchange := number,
                       inFlight := some ⟨none, number, ⟨0, 500⟩⟩ }

/-- A write-back in flight at a station. -/
def writing (number : Nat) : Station :=
  { withDie .writing 12 with exchange := number, inFlight := some ⟨some 12, number, ⟨0, 500⟩⟩ }

theorem test_witness_RestartRefusedInFlight :
    (∃ tag s, Turn (.restart tag) s ∧ s.dev.pace.pacer = .moving)
      ∧ (∃ tag s, Turn (.restart tag) s ∧ s.dev.pace.pacer = .unresolved)
      ∧ (∃ tag s, Turn (.restart tag) s ∧ s.dev.pace.pacer = .idle ∧ s.dev.spread.slot = .loading)
      ∧ (∃ tag s, Turn (.restart tag) s ∧ s.dev.pace.pacer = .idle ∧ s.dev.spread.slot = .none
          ∧ s.dev.acc.stripper = .stripping)
      ∧ (∃ tag s, Turn (.restart tag) s ∧ s.dev.pace.pacer = .idle ∧ s.dev.spread.slot = .none
          ∧ s.dev.acc.stripper = .stalled ∧ s.dev.gauge.inFlight.isSome = true)
      ∧ (∃ tag s, Turn (.restart tag) s ∧ s.dev.pace.pacer = .idle ∧ s.dev.spread.slot = .none ∧ s.dev.acc.stripper = .idle
          ∧ s.dev.gauge.inFlight = none ∧ s.dev.die.stationB.inFlight.isSome = true)
      ∧ (∃ tag s, Turn (.restart tag) s ∧ s.dev.pace.pacer = .idle ∧ s.dev.spread.slot = .none ∧ s.dev.acc.stripper = .idle
          ∧ s.dev.gauge.inFlight = none ∧ s.dev.die.stationA.inFlight = none ∧ s.dev.die.stationB.inFlight = none
          ∧ s.dev.die.carriage = .moving)
      ∧ (∃ tag s, Turn (.restart tag) s ∧ s.dev.pace.pacer = .idle ∧ s.dev.spread.slot = .none ∧ s.dev.acc.stripper = .idle
          ∧ s.dev.gauge.inFlight = none ∧ s.dev.die.stationA.inFlight = none ∧ s.dev.die.stationB.inFlight = none
          ∧ s.dev.die.carriage = .querying ∧ s.dev.die.press = .stopping)
      ∧ ∃ tag s, Turn (.restart tag) s ∧ ServeLaw s.dev :=
  ⟨⟨1, _, turn_asked _ (onPace (fun p => { p with pacer := .moving }) d0) rfl, rfl⟩,
    ⟨1, _, turn_asked _ (onPace (fun p => { p with pacer := .unresolved }) d0) rfl, rfl⟩,
    ⟨1, _, turn_asked _ (onSpread (fun p => { p with slot := .loading }) d0) rfl, rfl, rfl⟩,
    ⟨1, _, turn_asked _ (onAcc (fun p => { p with stripper := .stripping }) d0) rfl, rfl, rfl, rfl⟩,
    ⟨1, _, turn_asked _ (onAcc (fun p => { p with stripper := .stalled }) (onGauge (fun g => { g with
      inFlight := some ⟨1, 2, 0, ⟨0, 15000⟩⟩ }) d0)) rfl, rfl, rfl, rfl, rfl⟩,
    ⟨1, _, turn_asked _ (onDie (fun u => { u with stationB := reading 1 }) d0) rfl, rfl, rfl, rfl, rfl, rfl⟩,
    ⟨1, _, turn_asked _ (onDie (fun u => { u with carriage := .moving }) d0) rfl, rfl, rfl, rfl, rfl, rfl, rfl, rfl⟩,
    ⟨1, _, turn_asked _ (onDie (fun u => { u with press := .stopping }) d0) rfl, rfl, rfl, rfl, rfl, rfl, rfl, rfl, rfl⟩,
    ⟨1, _, turn_asked _ d0 rfl, by decide, by decide, (by intro r h; cases h), by decide⟩⟩

theorem test_witness_RestartAccepted : ∃ tag s, Turn (.restart tag) s ∧ s.dev.restartBar = none :=
  ⟨1, _, turn_asked _ d0 rfl, by decide⟩

/-- Station A ACTIVE at the carriage, with a die of this wear. -/
def extruding (wear : Nat) (d : Device) : Device :=
  onDie (fun u => { u with
    stationA := withDie .active wear, active := some .a, identity := some ⟨.a, 5, 0, 100⟩, position := some .a
    carriage := .idle, carriageTimer := none }) d

/-- A slot that a fill decision may fill (R137). -/
def Fillable (d : Device) : Prop := d.spread.slot = .none ∧ d.spread.hold = false ∧ 0 < d.acc.returnCount

/-- One rod in the return buffer. -/
def stocked (d : Device) : Device := onAcc (fun a => { a with returnDeclared := true, returnCount := 1 }) d

theorem test_witness_SingleEntryTableWrites :
    (∃ tag s, ∃ x : DieSettings, 10 ≤ x.debounce ∧ x.debounce ≤ 2560 ∧ 5 ≤ x.carriageLimit ∧ x.carriageLimit ≤ 120
        ∧ Turn (.tableWriteDieSettings tag 0 1 x.bytes) s)
      ∧ (∃ tag s, ∃ x : SamplingEntry, 5 ≤ x.period ∧ x.period ≤ 600 ∧ Turn (.tableWriteSampling tag 0 1 x.bytes) s)
      ∧ (∃ tag s, ∃ x : PacingEntry, x.period < 50 ∧ 1 ≤ x.pulses ∧ x.pulses ≤ 65535 ∧ 2 ≤ x.moveLimit ∧ x.moveLimit ≤ 60
          ∧ Turn (.tableWritePacing tag 0 1 x.bytes) s)
      ∧ (∃ tag s, ∃ x : PacingEntry, 50 ≤ x.period ∧ x.period ≤ 36000 ∧ 1 ≤ x.pulses ∧ x.pulses ≤ 65535 ∧ 2 ≤ x.moveLimit
          ∧ x.moveLimit ≤ 60 ∧ Turn (.tableWritePacing tag 0 1 x.bytes) s)
      ∧ (∃ tag s, ∃ x : SpreaderSettings, 1 ≤ x.loadLimit ∧ x.loadLimit ≤ 30 ∧ x.emptyFill = false
          ∧ Turn (.tableWriteSpreaderSettings tag 0 1 x.bytes) s)
      ∧ (∃ tag s, ∃ x : SpreaderSettings, 1 ≤ x.loadLimit ∧ x.loadLimit ≤ 30 ∧ x.emptyFill = true ∧ Fillable s.dev
          ∧ ¬(s.dev.die.press = .running ∧ s.dev.die.active.isSome) ∧ Turn (.tableWriteSpreaderSettings tag 0 1 x.bytes) s)
      ∧ (∃ tag s, ∃ x : SpreaderSettings, 1 ≤ x.loadLimit ∧ x.loadLimit ≤ 30 ∧ x.emptyFill = true ∧ Fillable s.dev
          ∧ s.dev.die.press = .running ∧ s.dev.die.active.isSome ∧ s.dev.die.identity.isSome
          ∧ Turn (.tableWriteSpreaderSettings tag 0 1 x.bytes) s)
      ∧ (∃ tag s, ∃ x : GaugeSettings, 1 ≤ x.limit ∧ x.limit ≤ 60 ∧ x.position = some 479
          ∧ (∀ p, x.position = some p → p ≤ 1535 ∧ p ≤ s.dev.tables.length - 1)
          ∧ Turn (.tableWriteGaugeSettings tag 0 1 x.bytes) s)
      ∧ ∃ tag s, ∃ x : AccSettings, 2 ≤ x.stripLimit ∧ x.stripLimit ≤ 60 ∧ x.returnCap ≤ 1023
          ∧ s.dev.acc.returnCount = x.returnCap ∧ Turn (.tableWriteAccumulatorSettings tag 0 1 x.bytes) s :=
  ⟨⟨1, _, ⟨10, 120⟩, by decide, by decide, by decide, by decide, turn_asked _ d0 rfl⟩,
    ⟨1, _, ⟨false, 600⟩, by decide, by decide, turn_asked _ d0 rfl⟩,
    ⟨1, _, ⟨.follow, 49, 1, .falling, 2⟩, by decide, by decide, by decide, by decide, by decide, turn_asked _ d0 rfl⟩,
    ⟨1, _, ⟨.fixed, 36000, 65535, .falling, 60⟩, by decide, by decide, by decide, by decide, by decide, by decide,
      turn_asked _ d0 rfl⟩,
    ⟨1, _, ⟨30, false⟩, by decide, by decide, rfl, turn_asked _ d0 rfl⟩,
    ⟨1, _, ⟨1, true⟩, by decide, by decide, rfl, ⟨rfl, rfl, by decide⟩, by decide, turn_asked _ (stocked d0) rfl⟩,
    ⟨1, _, ⟨8, true⟩, by decide, by decide, rfl, ⟨rfl, rfl, by decide⟩, rfl, rfl, rfl, turn_asked _
      (onDie (fun u => { u with press := .running }) (extruding 10 (stocked d0))) rfl⟩,
    ⟨1, _, ⟨some 479, 60⟩, by decide, by decide, rfl, (by intro p h; cases h; decide), turn_asked _ d0 rfl⟩,
    ⟨1, _, ⟨60, 5⟩, by decide, by decide, by decide, rfl, turn_asked _ (onAcc (fun a => { a with returnCount := 5 }) d0) rfl⟩⟩

theorem test_witness_MapAndFaultSettingsWrites :
    (∃ (tag : Byte) (start : Half) (es : List MapEntry) (s : State), es ≠ [] ∧ start.toNat + es.length = 64
        ∧ (∀ e ∈ es, e.profile ≤ 7)
        ∧ Turn (.tableWriteFormatMap tag start (BitVec.ofNat 8 es.length) (es.map MapEntry.bytes).flatten) s)
      ∧ ∃ (tag : Byte) (start : Half) (es : List FaultSetting) (s : State), es ≠ [] ∧ start.toNat + es.length = 23
        ∧ Turn (.tableWriteFaultSettings tag start (BitVec.ofNat 8 es.length) (es.map FaultSetting.bytes).flatten) s :=
  ⟨⟨1, 62, [⟨false, 7⟩, ⟨true, 3⟩], _, by decide, by decide, by decide, turn_asked _ d0 rfl⟩,
    ⟨1, 22, [⟨true, .halt⟩], _, by decide, by decide, turn_asked _ d0 rfl⟩⟩

theorem test_witness_ProfileWriteReplacesAndOrders :
    ∃ (tag : Byte) (start : Half) (es : List Profile) (s : State), es ≠ [] ∧ es.length = 2 ∧ start.toNat + es.length = 8
      ∧ (∀ p ∈ es, p.Writable ∧ (s.dev.laneEntry p.lane).capacity ≠ 0)
      ∧ Turn (.tableWriteProfile tag start (BitVec.ofNat 8 es.length) (es.map Profile.bytes).flatten) s :=
  ⟨1, 6, [{ defaultProfile with ac := 0 }, defaultProfile], _, by decide, rfl, rfl,
    (by unfold Profile.Writable Within; decide), turn_asked _ d0 rfl⟩

theorem test_witness_TunnelWriteMovesTheEnd :
    ∃ (tag : Byte) (length : Nat) (first : List ZoneEntry) (z : ZoneEntry) (s : State), length = 401 ∧ 32 ≤ length
      ∧ length ≤ 1536 ∧ (∀ c ∈ s.dev.track.positions, c = .unknown) ∧ s.dev.tables.zones = first ++ [z]
      ∧ (∀ y, first.getLast? = some y → y.last < length - 1) ∧ z.governing = length - 1
      ∧ (∀ p, s.dev.tables.gauge.position = some p → p ≤ length - 1)
      ∧ Turn (.tableWriteTunnel tag 0 1 (u16 length)) s :=
  ⟨1, 401, defaultTables.zones.dropLast, defaultZone .cool 479 400 0, _, rfl, by decide, by decide,
    (fun _ h => List.eq_of_mem_replicate h), rfl, (by intro y h; cases h; decide), rfl, (by intro p h; cases h),
    turn_asked _ d0 rfl⟩

/-- The hypotheses of ZoneLayoutWriteRelaysZones. -/
def LayoutAdmits (tag : Byte) (start : Half) (es zs : List ZoneEntry) (s : State) : Prop :=
  es.length ≤ 16 ∧ (∀ e ∈ es, e.Writable) ∧ newLayout s.dev.tables.zones start.toNat es = some zs
    ∧ (structural s.dev.tables.zones zs = false ∨ s.dev.anyLoaded = false) ∧ layoutConflict zs s.dev.tables.length = none
    ∧ s.dev.climate.zones.length = 12 ∧ zs.length ≤ 12
    ∧ Turn (.tableWriteZoneLayout tag start (BitVec.ofNat 8 es.length) (es.map ZoneEntry.bytes).flatten) s

/-- The part with no position, so that no rod is in the tunnel. -/
def noPosition (d : Device) : Device := onTrack (fun t => { t with positions := [] }) d

theorem test_witness_ZoneLayoutWriteRelaysZones :
    (∃ tag es zs s, LayoutAdmits tag 0 es zs s ∧ zs.length = 1 ∧ structural s.dev.tables.zones zs = true)
      ∧ ∃ tag start es zs s, LayoutAdmits tag start es zs s ∧ start = 5 ∧ structural s.dev.tables.zones zs = false
          ∧ ∃ e, zs[5]? = some e ∧ e.trimMax < (s.dev.zone 5).trim :=
  ⟨⟨1, [defaultZone .dry 479 300 0], _, asked _ (noPosition d0),
      ⟨by decide, (by unfold ZoneEntry.Writable; decide), rfl, .inr (by decide), by decide, by decide, by decide,
        turn_asked _ _ rfl⟩, rfl, by decide⟩,
    ⟨1, 5, [{ defaultZone .cool 479 400 0 with trimMax := 20 }], _,
      asked _ (onClimate (fun c => { c with zones := c.zones.map fun x => { x with trim := 30 } }) d0),
      ⟨by decide, (by unfold ZoneEntry.Writable; decide), rfl, .inl (by decide), by decide, by decide, by decide,
        turn_asked _ _ rfl⟩, rfl, by decide, _, rfl, by decide⟩⟩

theorem test_witness_LaneTableWrites :
    (∃ (tag : Byte) (start : Half) (es : List LaneEntry) (s : State), es ≠ [] ∧ start.toNat + es.length = 4
        ∧ (∀ e ∈ es, e.Writable)
        ∧ (let lanes := s.dev.tables.lanes.take start.toNat ++ es ++ s.dev.tables.lanes.drop (start.toNat + es.length)
          (∀ l, l < 4 → (s.dev.lane l).records.length + (s.dev.lane l).reservations ≤ (lanes.getD l default).capacity)
          ∧ (lanes.map LaneEntry.capacity).sum = 240
          ∧ (∀ l, l < 4 → (lanes.getD l default).capacity = 0 →
            (∀ p ∈ s.dev.tables.profiles, p.lane ≠ l) ∧ ∀ x ∈ s.dev.tables.dispositions, x ≠ l))
        ∧ Turn (.tableWriteLanes tag start (BitVec.ofNat 8 es.length) (es.map LaneEntry.bytes).flatten) s)
      ∧ ∃ (tag : Byte) (start : Half) (ls : List Nat) (s : State), ls ≠ [] ∧ start.toNat + ls.length = 5
        ∧ (∀ l ∈ ls, l ≤ 3 ∧ (s.dev.laneEntry l).capacity ≠ 0)
        ∧ Turn (.tableWriteDisposition tag start (BitVec.ofNat 8 ls.length) (ls.map u8).flatten) s :=
  ⟨⟨1, 0, [⟨150, .ratio, 127, .pack⟩, ⟨0, .ratio, 1, .pack⟩, ⟨60, .strict, 1, .rework⟩, ⟨30, .strict, 1, .rework⟩], _,
      by decide, by decide, (by unfold LaneEntry.Writable; decide), ⟨by decide, by decide, by decide⟩, turn_asked _ d0 rfl⟩,
    ⟨1, 3, [0, 3], _, by decide, by decide, by decide, turn_asked _ d0 rfl⟩⟩

theorem test_witness_RefusedTableWriteChangesNothing :
    ∃ i s, i.frame?.map Frame.kind = some 0x02 ∧ WellFormed i = true ∧ Turn i s :=
  ⟨.tableWriteTunnel 1 0 1 [31, 0], _, rfl, by decide, turn_asked _ d0 rfl⟩

theorem test_witness_TableReadsCarryEntries :
    (∃ (tag : Byte) (start : Half) (count lane : Byte) (s : State), 2 < count.toNat ∧ 3 < lane.toNat
        ∧ Turn (.tableReadProfile tag start count) s)
      ∧ (∃ (tag : Byte) (start : Half) (count lane : Byte) (s : State), count.toNat = 2 ∧ lane.toNat = 3
        ∧ Turn (.tableReadLaneContent tag start count lane) s)
      ∧ ∃ (before : List Byte) (entries : List (List Byte)), before.length = 3 ∧ entries.length = 1 :=
  ⟨⟨1, 0, 3, 4, _, by decide, by decide, turn_asked _ d0 rfl⟩, ⟨1, 0, 2, 3, _, rfl, rfl, turn_asked _ d0 rfl⟩,
    ⟨[0, 0, 0], [[]], rfl, rfl⟩⟩

/-- The part with every store declared. -/
def declared (d : Device) : Device :=
  onAcc (fun a => { a with returnDeclared := true, lanes := a.lanes.map fun l => { l with declared := true } }) d

/-- The part with a fault kind SET. -/
def faulted (kind : Nat) (d : Device) : Device := onLog (fun l => { l with kinds := l.kinds.set kind ⟨true, 1⟩ }) d

theorem test_witness_LineRunStartsOrNamesReason :
    (∃ tag s, Turn (.lineRun tag) s ∧ s.dev.pace.line = .running)
      ∧ (∃ tag s, Turn (.lineRun tag) s ∧ s.dev.pace.line = .stopped
          ∧ ¬((∀ l ∈ s.dev.acc.lanes, l.declared = true) ∧ s.dev.acc.returnDeclared = true))
      ∧ (∃ tag s, Turn (.lineRun tag) s ∧ s.dev.pace.line = .stopped
          ∧ ((∀ l ∈ s.dev.acc.lanes, l.declared = true) ∧ s.dev.acc.returnDeclared = true)
          ∧ s.dev.stopFault = some .chainStall)
      ∧ (∃ tag s, Turn (.lineRun tag) s ∧ s.dev.pace.line = .stopped
          ∧ ((∀ l ∈ s.dev.acc.lanes, l.declared = true) ∧ s.dev.acc.returnDeclared = true)
          ∧ s.dev.stopFault = none ∧ s.dev.pace.pacer = .unresolved)
      ∧ ∃ tag s, Turn (.lineRun tag) s ∧ s.dev.pace.line = .stopped
          ∧ ((∀ l ∈ s.dev.acc.lanes, l.declared = true) ∧ s.dev.acc.returnDeclared = true)
          ∧ s.dev.stopFault = none ∧ s.dev.pace.pacer ≠ .unresolved :=
  ⟨⟨1, _, turn_asked _ (onPace (fun p => { p with line := .running }) d0) rfl, rfl⟩,
    ⟨1, _, turn_asked _ d0 rfl, rfl, by decide⟩,
    ⟨1, _, turn_asked _ (faulted 0 (declared d0)) rfl, rfl, by decide, by decide⟩,
    ⟨1, _, turn_asked _ (onPace (fun p => { p with pacer := .unresolved }) (declared d0)) rfl, rfl, by decide, by decide, rfl⟩,
    ⟨1, _, turn_asked _ (declared d0) rfl, rfl, by decide, by decide, by decide⟩⟩

theorem test_witness_StopOrderStopsTheLine :
    (∃ tag s, Turn (.lineStop tag) s ∧ s.dev.pace.line = .running)
      ∧ ∃ tag s, Turn (.lineStop tag) s ∧ s.dev.pace.line = .stopped :=
  ⟨⟨1, _, turn_asked _ (onPace (fun p => { p with line := .running }) d0) rfl, rfl⟩, ⟨1, _, turn_asked _ d0 rfl, rfl⟩⟩

/-- The device before the disposition of an attempt. -/
def checked (d : Device) : Device := Attempted d

/-- A tunnel of two positions with a rod at the exit. -/
def atExit (r : Rod) (d : Device) : Device := onTrack (fun t => { t with positions := [.gap, .loaded r] }) d

theorem test_witness_JogAndRetryAttemptAMove :
    (∃ tag s, Turn (.jog tag) s ∧ s.dev.pace.pacer = .waiting ∧ s.dev.haltFault = none ∧ s.dev.spread.slot = .loading)
      ∧ (∃ report, ∃ s : State, s.dev.pace.pacer = .deferred ∧ retries report s.dev.pace.reason = true
        ∧ s.dev.spread.slot = .loading)
      ∧ (∃ tag s, Turn (.jog tag) s ∧ s.dev.pace.pacer = .idle ∧ s.dev.haltFault = none ∧ s.dev.spread.slot ≠ .loading
        ∧ (checked s.dev).exitContent.rod? = none)
      ∧ (∃ tag s r, Turn (.jog tag) s ∧ s.dev.pace.pacer = .idle ∧ s.dev.haltFault = none ∧ s.dev.spread.slot ≠ .loading
        ∧ (checked s.dev).exitContent = .loaded r
        ∧ (checked s.dev).hasRoom ((checked s.dev).laneFor (dispositionOf r) r) = true)
      ∧ (∃ tag s r, Turn (.jog tag) s ∧ s.dev.pace.pacer = .waiting ∧ s.dev.haltFault = none ∧ s.dev.spread.slot ≠ .loading
        ∧ (checked s.dev).exitContent = .loaded r
        ∧ (checked s.dev).hasRoom ((checked s.dev).laneFor (dispositionOf r) r) = false)
      ∧ (∃ report, ∃ s : State, s.dev.pace.pacer = .deferred ∧ retries report s.dev.pace.reason = true ∧ s.dev.spread.slot ≠ .loading
        ∧ (checked { s.dev with mail := s.dev.mail.erase (.retry report) }).exitContent.rod? = none)
      ∧ (∃ report, ∃ s : State, ∃ r, s.dev.pace.pacer = .deferred ∧ retries report s.dev.pace.reason = true ∧ s.dev.spread.slot ≠ .loading
        ∧ (checked { s.dev with mail := s.dev.mail.erase (.retry report) }).exitContent = .loaded r
        ∧ (checked s.dev).hasRoom ((checked s.dev).laneFor (dispositionOf r) r) = true)
      ∧ ∃ report, ∃ s : State, ∃ r, s.dev.pace.pacer = .deferred ∧ retries report s.dev.pace.reason = true ∧ s.dev.spread.slot ≠ .loading
        ∧ (checked { s.dev with mail := s.dev.mail.erase (.retry report) }).exitContent = .loaded r
        ∧ (checked s.dev).hasRoom ((checked s.dev).laneFor (dispositionOf r) r) = false := by
  let deferred (why : DeferralReason) (d : Device) : Device := onPace (fun p => { p with pacer := .deferred, reason := some why }) d
  exact ⟨⟨1, _, turn_asked _ (onSpread (fun p => { p with slot := .loading }) (onPace (fun p => { p with pacer := .waiting }) d0))
      rfl, rfl, by decide, rfl⟩,
    ⟨.freePlace, still (deferred .laneFull (onSpread (fun p => { p with slot := .loading }) d0)), rfl, rfl, rfl⟩,
    ⟨1, _, turn_asked _ (onTrack (fun t => { t with positions := [.gap, .empty] }) d0) rfl, rfl, by decide, by decide, by decide⟩,
    ⟨1, _, rod 1 1200 0, turn_asked _ (atExit (rod 1 1200 0) (declared d0)) rfl, rfl, by decide, by decide, by decide, by decide⟩,
    ⟨1, _, rod 1 1200 0, turn_asked _ (atExit (rod 1 1200 0) (onPace (fun p => { p with pacer := .waiting }) d0)) rfl, rfl,
      by decide, by decide, by decide, by decide⟩,
    ⟨.loadOutcome, still (deferred .loadInFlight (onTrack (fun t => { t with positions := [.gap, .gap] }) d0)), rfl, rfl,
      by decide, by decide⟩,
    ⟨.freePlace, still (deferred .laneFull (atExit (rod 1 1200 0) (declared d0))), rod 1 1200 0, rfl, rfl, by decide, by decide,
      by decide⟩,
    ⟨.lateShift, still (deferred .laneFull (atExit (rod 1 1200 0) d0)), rod 1 1200 0, rfl, rfl, by decide, by decide, by decide⟩⟩

theorem test_witness_JogAndRetryAttemptAMove_refused :
    (∀ q : PacerState, q = .moving ∨ q = .unresolved ∨ q = .deferred → ∃ tag s, Turn (.jog tag) s ∧ s.dev.pace.pacer = q)
      ∧ ∃ tag s, Turn (.jog tag) s ∧ s.dev.pace.pacer = .waiting ∧ s.dev.haltFault = some .chainStall :=
  ⟨fun q _ => ⟨1, _, turn_asked _ (onPace (fun p => { p with pacer := q }) d0) rfl, rfl⟩,
    ⟨1, _, turn_asked _ (faulted 0 (onPace (fun p => { p with pacer := .waiting }) d0)) rfl, rfl, by decide⟩⟩

theorem test_witness_PitchIntervalAndDues :
    (∃ tag s, Turn (.paceRestart tag) s ∧ s.dev.pace.line = .running)
      ∧ (∃ s : State, ∃ since, s.dev.pace.line = .running ∧ s.dev.pace.force.mode = .fixed ∧ s.dev.pace.pitch.since = some since
        ∧ s.dev.pace.pacer = .waiting)
      ∧ (∃ (s : State) (wait : Nat), s.dev.pace.line = .running ∧ s.dev.pace.force.mode = .follow
        ∧ (∀ last, s.dev.pace.lastEdge = some last → last + 2 ≤ s.dev.time + wait)
        ∧ s.dev.pace.force.pulses = s.dev.pace.pulses + 1 ∧ s.dev.pace.pacer = .waiting)
      ∧ (∃ s : State, ∃ since, s.dev.pace.line = .running ∧ s.dev.pace.force.mode = .fixed ∧ s.dev.pace.pitch.since = some since
        ∧ s.dev.pace.pacer = .moving ∧ s.dev.pace.due = false)
      ∧ (∃ s : State, ∃ since, s.dev.pace.line = .running ∧ s.dev.pace.force.mode = .fixed ∧ s.dev.pace.pitch.since = some since
        ∧ s.dev.pace.pacer = .unresolved ∧ s.dev.pace.due = true)
      ∧ (∃ s : State, ∃ since, s.dev.pace.line = .running ∧ s.dev.pace.force.mode = .fixed ∧ s.dev.pace.pitch.since = some since
        ∧ s.dev.pace.pacer = .deferred)
      ∧ (∃ (s : State) (wait : Nat), s.dev.pace.line = .running ∧ s.dev.pace.force.mode = .follow
        ∧ (∀ last, s.dev.pace.lastEdge = some last → last + 2 ≤ s.dev.time + wait) ∧ s.dev.pace.lastEdge = some 0 ∧ wait = 2
        ∧ s.dev.pace.pulses + 1 < s.dev.pace.force.pulses)
      ∧ (∃ (s : State) (wait : Nat), s.dev.pace.line = .running ∧ s.dev.pace.force.mode = .follow
        ∧ (∀ last, s.dev.pace.lastEdge = some last → last + 2 ≤ s.dev.time + wait)
        ∧ s.dev.pace.force.pulses = s.dev.pace.pulses + 1 ∧ s.dev.pace.pacer = .moving ∧ s.dev.pace.due = false)
      ∧ ∃ (s : State) (wait : Nat), s.dev.pace.line = .running ∧ s.dev.pace.force.mode = .follow
        ∧ (∀ last, s.dev.pace.lastEdge = some last → last + 2 ≤ s.dev.time + wait)
        ∧ s.dev.pace.force.pulses = s.dev.pace.pulses + 1 ∧ s.dev.pace.pacer = .deferred := by
  let fixed (pacer : PacerState) (due : Bool) : State :=
    still (onPace (fun p => { p with line := .running, pacer := pacer, due := due, pitch := ⟨0, some 0⟩ }) d0)
  let follow (pacer : PacerState) (pulses : Nat) (last : Option Nat) : State :=
    still (onPace (fun p => { p with line := .running, pacer := pacer, force := ⟨.follow, 600, 40, .rising⟩, pulses := pulses,
                                     lastEdge := last }) d0)
  exact ⟨⟨1, _, turn_asked _ (onPace (fun p => { p with line := .running }) d0) rfl, rfl⟩,
    ⟨fixed .waiting false, 0, rfl, rfl, rfl, rfl⟩,
    ⟨follow .waiting 39 none, 0, rfl, rfl, (by intro l h; cases h), rfl, rfl⟩,
    ⟨fixed .moving false, 0, rfl, rfl, rfl, rfl, rfl⟩, ⟨fixed .unresolved true, 0, rfl, rfl, rfl, rfl, rfl⟩,
    ⟨fixed .deferred false, 0, rfl, rfl, rfl, rfl⟩,
    ⟨follow .waiting 3 (some 0), 2, rfl, rfl, (by intro l h; cases h; decide), rfl, rfl, by decide⟩,
    ⟨follow .moving 39 none, 0, rfl, rfl, (by intro l h; cases h), rfl, rfl, rfl⟩,
    ⟨follow .deferred 39 none, 0, rfl, rfl, (by intro l h; cases h), rfl, rfl⟩⟩

theorem test_witness_MoveDoneShiftsTheTunnel :
    (∃ (number : Byte) (s : State) (m : Move), s.dev.pace.inFlight = some m ∧ m.number = number.toNat
        ∧ s.dev.pace.pacer = .moving)
      ∧ (∃ (number : Byte) (s : State) (m : Move), s.dev.pace.inFlight = some m ∧ m.number = number.toNat
        ∧ s.dev.pace.pacer = .unresolved)
      ∧ (∀ c, ∃ (number : Byte) (s : State) (m : Move), s.dev.pace.inFlight = some m ∧ m.number = number.toNat
        ∧ s.dev.pace.pacer = .moving ∧ m.reservation = none ∧ s.dev.exitContent = c)
      ∧ (∃ (number : Byte) (s : State) (m : Move) (r : Rod) (l : Nat), s.dev.pace.inFlight = some m ∧ m.number = number.toNat
        ∧ s.dev.pace.pacer = .moving ∧ m.reservation = some l ∧ s.dev.exitContent = .loaded r)
      ∧ (∃ (number : Byte) (s : State), s.dev.pace.lateWindow = some number.toNat ∧ s.dev.pace.pacer = .waiting)
      ∧ ∃ (number : Byte) (s : State), (∀ m, s.dev.pace.inFlight = some m → m.number ≠ number.toNat)
        ∧ s.dev.pace.lateWindow ≠ some number.toNat :=
  ⟨⟨255, still (onPace (fun p => { p with pacer := .moving, inFlight := some ⟨255, none, none⟩ }) d0), _, rfl, rfl, rfl⟩,
    ⟨0, still (onPace (fun p => { p with pacer := .unresolved, inFlight := some ⟨0, none, none⟩ }) d0), _, rfl, rfl, rfl⟩,
    fun c => ⟨7, still (onTrack (fun t => { t with positions := [.gap, c] }) (onPace (fun p => { p with
      pacer := .moving, inFlight := some ⟨7, none, none⟩ }) d0)), _, rfl, rfl, rfl, rfl, rfl⟩,
    ⟨7, still (atExit (rod 1 1200 0) (onPace (fun p => { p with pacer := .moving, inFlight := some ⟨7, some 3, some .normal⟩ }) d0)),
      _, _, _, rfl, rfl, rfl, rfl, rfl⟩,
    ⟨9, still (onPace (fun p => { p with pacer := .waiting, lateWindow := some 9 }) d0), rfl, rfl⟩,
    ⟨9, still d0, (by intro m h; cases h), by decide⟩⟩

theorem test_witness_MoveDoneShiftsTheTunnel_unresolved_late :
    (∀ c l, ∃ (number : Byte) (s : State) (m : Move), s.dev.pace.inFlight = some m ∧ m.number = number.toNat
        ∧ s.dev.pace.pacer = .unresolved ∧ m.reservation = l ∧ s.dev.exitContent = c)
      ∧ ∀ c q, q = .idle ∨ q = .waiting ∨ q = .deferred → ∃ (number : Byte) (s : State),
        s.dev.pace.lateWindow = some number.toNat ∧ s.dev.pace.pacer = q ∧ s.dev.exitContent = c :=
  ⟨fun c l => ⟨7, still (onTrack (fun t => { t with positions := [.gap, c] }) (onPace (fun p => { p with
      pacer := .unresolved, inFlight := some ⟨7, l, none⟩ }) d0)), _, rfl, rfl, rfl, rfl, rfl⟩,
    fun c q _ => ⟨9, still (onTrack (fun t => { t with positions := [.gap, c] }) (onPace (fun p => { p with
      pacer := q, lateWindow := some 9 }) d0)), rfl, rfl, rfl⟩⟩

theorem test_witness_ExitRodJoinsReservedLane :
    ∃ (number : Byte) (l : Nat) (disp : Disposition) (r : Rod) (s : State), l = 3 ∧ s.dev.acc.lanes.length = 4
      ∧ s.dev.pace.pacer = .moving ∧ s.dev.pace.inFlight = some ⟨number.toNat, some l, some disp⟩
      ∧ s.dev.exitContent = .loaded r ∧ s.dev.acc.stripper ≠ .idle :=
  ⟨7, 3, .purge, rod 1 1200 0, still (atExit (rod 1 1200 0) (onAcc (fun a => { a with stripper := .stripping })
    (onPace (fun p => { p with pacer := .moving, inFlight := some ⟨7, some 3, some .purge⟩ }) d0))), rfl, rfl, rfl, rfl, rfl,
    by decide⟩

theorem test_witness_MoveLimitAndResolution :
    (∃ (s : State) (m : Move) (limit : Timer), s.dev.pace.pacer = .moving ∧ s.dev.pace.inFlight = some m
        ∧ s.dev.pace.timer = some limit)
      ∧ (∃ (tag : Byte) (s : State) (m : Move), Turn (.moveResolveMoved tag) s ∧ s.dev.pace.pacer = .unresolved
        ∧ s.dev.pace.inFlight = some m)
      ∧ (∃ (tag outcome : Byte) (s : State) (m : Move), Turn (.moveResolveNotMoved tag outcome) s ∧ outcome = 1
        ∧ s.dev.pace.pacer = .unresolved ∧ s.dev.pace.inFlight = some m ∧ s.dev.pace.due = false ∧ m.reservation = some 2)
      ∧ ∃ (tag outcome : Byte) (s : State), Turn (.moveResolveNotMoved tag outcome) s ∧ outcome = 2 ∧ 1 < outcome.toNat :=
  ⟨⟨still (onPace (fun p => { p with pacer := .moving, inFlight := some ⟨7, none, none⟩, timer := some ⟨0, 12000⟩ }) d0), _, _,
      rfl, rfl, rfl⟩,
    ⟨1, _, _, turn_asked _ (onPace (fun p => { p with pacer := .unresolved, inFlight := some ⟨7, none, none⟩ }) d0) rfl, rfl, rfl⟩,
    ⟨1, 1, _, _, turn_asked _ (onPace (fun p => { p with pacer := .unresolved, inFlight := some ⟨7, some 2, none⟩ }) d0) rfl, rfl,
      rfl, rfl, rfl, rfl⟩,
    ⟨1, 2, _, turn_asked _ d0 rfl, rfl, by decide⟩⟩

/-- An unresolved move with this reservation. -/
def unresolved (l : Option Nat) (d : Device) : Device :=
  onPace (fun p => { p with pacer := .unresolved, inFlight := some ⟨7, l, none⟩ }) d

theorem test_witness_MoveLimitAndResolution_rows :
    (∃ tag s m r, Turn (.moveResolveMoved tag) s ∧ s.dev.pace.pacer = .unresolved ∧ s.dev.pace.inFlight = some m
        ∧ s.dev.exitContent = .loaded r ∧ m.reservation = some 3)
      ∧ (∃ tag s m r, Turn (.moveResolveMoved tag) s ∧ s.dev.pace.pacer = .unresolved ∧ s.dev.pace.inFlight = some m
        ∧ s.dev.exitContent = .loaded r ∧ m.reservation = none)
      ∧ (∀ c, c = .empty ∨ c = .gap ∨ c = .unknown → ∃ tag s m, Turn (.moveResolveMoved tag) s
        ∧ s.dev.pace.pacer = .unresolved ∧ s.dev.pace.inFlight = some m ∧ s.dev.exitContent = c)
      ∧ (∃ tag s, Turn (.moveResolveMoved tag) s ∧ s.dev.pace.pacer ≠ .unresolved)
      ∧ (∃ tag outcome s, Turn (.moveResolveNotMoved tag outcome) s ∧ outcome = 1 ∧ s.dev.pace.pacer ≠ .unresolved)
      ∧ ∃ tag outcome s m, Turn (.moveResolveNotMoved tag outcome) s ∧ outcome = 1 ∧ s.dev.pace.pacer = .unresolved
        ∧ s.dev.pace.inFlight = some m ∧ s.dev.pace.due = true :=
  ⟨⟨1, _, _, _, turn_asked _ (unresolved (some 3) (atExit (rod 1 1200 0) d0)) rfl, rfl, rfl, rfl, rfl⟩,
    ⟨1, _, _, _, turn_asked _ (unresolved none (atExit (rod 1 1200 0) d0)) rfl, rfl, rfl, rfl, rfl⟩,
    fun c _ => ⟨1, _, _, turn_asked _ (unresolved none (onTrack (fun t => { t with positions := [c] }) d0)) rfl, rfl, rfl, rfl⟩,
    ⟨1, _, turn_asked _ d0 rfl, by decide⟩, ⟨1, 1, _, turn_asked _ d0 rfl, rfl, by decide⟩,
    ⟨1, 1, _, _, turn_asked _ (unresolved (some 2) (onPace (fun p => { p with line := .running, due := true }) d0)) rfl, rfl, rfl,
      rfl, rfl⟩⟩

theorem test_witness_ShiftReportProceeds :
    ∃ s : State, s.dev.pace.pacer = .moving ∧ s.dev.pace.inFlight = none ∧ s.dev.pace.due = false
      ∧ s.dev.climate.zones.length = 12 ∧ s.dev.tables.zones.length ≤ 12 ∧ 1 ≤ s.dev.tables.zones.length
      ∧ s.dev.governing 0 = some 3 ∧ s.dev.governing 1 = none ∧ (∃ r, s.dev.gaugeRod = some r ∧ r.flags.gauged = false)
      ∧ s.dev.gauge.inFlight = none ∧ s.dev.tables.sampling.advanceOn = true ∧ s.dev.climate.round = none :=
  ⟨still (onPace (fun p => { p with pacer := .moving }) (onClimate (fun c => { c with round := none })
    (onTrack (fun t => { t with positions := [.loaded
      ⟨1, 0, {}, some ⟨0, 0, 3, .a, 1, 100, 2000, 0, List.replicate 6 0⟩, none, none, none⟩] })
      { d0 with tables := { d0.tables with gauge := ⟨some 0, 15⟩ } }))), rfl, rfl, rfl, by decide, by decide, by decide,
    by decide, by decide, ⟨_, rfl, rfl⟩, rfl, rfl, rfl⟩

/-- A late report with the gauge measuring and a round in flight, and one with neither. -/
theorem test_witness_ShiftReportProceeds_late :
    ∀ inFlight round, ∃ s : State, s.dev.climate.zones.length = 12 ∧ s.dev.tables.zones.length ≤ 12 ∧ 1 ≤ s.dev.tables.zones.length
      ∧ (∃ r, s.dev.gaugeRod = some r ∧ r.flags.gauged = false) ∧ s.dev.gauge.inFlight = inFlight
      ∧ s.dev.tables.sampling.advanceOn = true ∧ s.dev.climate.round = round :=
  fun inFlight round => ⟨still (onGauge (fun g => { g with inFlight := inFlight }) (onClimate (fun c => { c with round := round })
      (atExit (rod 9 1840 0) { d0 with tables := { d0.tables with gauge := ⟨some 1, 15⟩ } }))),
    (by decide : d0.climate.zones.length = 12), (by decide : d0.tables.zones.length ≤ 12),
    (by decide : 1 ≤ d0.tables.zones.length), ⟨_, rfl, rfl⟩, rfl, rfl, rfl⟩

theorem test_witness_ShiftReportProceeds_due :
    ∃ s : State, s.dev.pace.pacer = .moving ∧ s.dev.pace.inFlight = none ∧ s.dev.pace.due = true :=
  ⟨still (onPace (fun p => { p with line := .running, pacer := .moving, due := true }) d0), rfl, rfl, rfl⟩

theorem test_witness_UpdateNeverRaisesMoisture :
    (∃ (d : Device) (k : Nat) (c : Content), d.track.positions[k]? = some c ∧ c.rod? = none)
      ∧ ∃ (d : Device) (k : Nat) (c : Content) (r : Rod) (x : Product), d.track.positions[k]? = some c ∧ c = .loaded r
        ∧ r.product = some x :=
  ⟨⟨atExit (rod 1 1200 0) d0, 0, _, rfl, rfl⟩, ⟨atExit (rod 1 1200 0) d0, 1, _, _, _, rfl, rfl, rfl⟩⟩

/-- An update whose interval is not 0, over a rod that it dries (R27, R34). -/
theorem test_witness_UpdateNeverRaisesMoisture_interval :
    ∃ (d : Device) (r : Rod) (x : Product), d.track.positions[1]? = some (.loaded r) ∧ r.product = some x
      ∧ min 600 ((d.clock + 4294967296 - d.track.updateInstant) % 4294967296) = 90 :=
  ⟨atExit (rod 1 3000 0) { d0 with time := 90000 }, _, _, rfl, rfl, by decide⟩

theorem test_witness_DryingArithmetic :
    (∃ (eq : List Nat) (hum : Nat), eq.length = 11 ∧ hum ≤ 1000 ∧ hum / 100 = 10 ∧ ∀ x ∈ eq, x ≤ 4000)
      ∧ (∃ (eq : List Nat) (hum : Nat), eq.length = 11 ∧ hum ≤ 1000 ∧ hum / 100 ≠ 10 ∧ eq.getD 1 0 < eq.getD 0 0)
      ∧ ∃ moisture me rate dt : Nat, me < moisture ∧ moisture ≤ 4000 ∧ rate ≤ 65528 ∧ dt ≤ 600 :=
  ⟨⟨defaultProfile.eq, 1000, by decide, by decide, by decide, by decide⟩,
    ⟨4000 :: List.replicate 10 0, 999, by decide, by decide, by decide, by decide⟩,
    ⟨4000, 0, 65528, 600, by decide, by decide, by decide, by decide⟩⟩

theorem test_witness_DryingArithmetic_zone :
    ∃ (zones : List ZoneEntry) (z k : Nat) (e : ZoneEntry), zones[z]? = some e ∧ k = e.last ∧ z = 1
      ∧ ∀ (y : Nat) (f : ZoneEntry), y < z → zones[y]? = some f → f.last < k := by
  refine ⟨defaultTables.zones, 1, _, _, rfl, rfl, rfl, ?_⟩
  intro y f hy hf
  cases Nat.lt_one_iff.1 hy
  cases hf
  decide

theorem test_witness_TalliesMoveTrim :
    ∃ (pairs : List (Nat × Nat)) (s : State), s.dev.climate.zones.length = 12 ∧ s.dev.tables.zones.length ≤ 12
      ∧ s.dev.tables.zones[1]? = some (defaultZone .dry 159 80 0) ∧ pairs[1]? = some (40, 23) :=
  ⟨[(0, 0), (40, 23)], still d0, by decide, by decide, rfl, rfl⟩

/-- A lane whose one record is `r`. -/
def laneOf (r : Rod) : LaneRt := ⟨true, [r], 0, 0⟩

theorem test_witness_RodFindAndMark :
    (∃ (tag : Byte) (id : Half) (s : State), id = 0 ∧ Turn (.rodFind tag id) s)
      ∧ (∃ (tag : Byte) (id : Half) (s : State), id ≠ 0 ∧ id.toNat ∉ s.dev.liveIds ∧ Turn (.rodFind tag id) s)
      ∧ (∃ (tag : Byte) (id : Half) (s : State) (r : Rod), id ≠ 0 ∧ s.dev.spread.slot = .loaded r ∧ r.id = id.toNat
        ∧ Turn (.rodMark tag id) s)
      ∧ (∃ (tag : Byte) (id : Half) (s : State) (k : Nat) (r : Rod), id ≠ 0
        ∧ (∀ q, s.dev.spread.slot.rod? = some q → q.id ≠ id.toNat) ∧ s.dev.track.positions[k]? = some (.loaded r)
        ∧ r.id = id.toNat ∧ (∀ j q, j ≠ k → s.dev.track.positions[j]? = some (.loaded q) → q.id ≠ id.toNat)
        ∧ Turn (.rodMark tag id) s)
      ∧ ∃ (tag : Byte) (id : Half) (s : State) (l k : Nat) (r : Rod), id ≠ 0
        ∧ (∀ q, s.dev.spread.slot.rod? = some q → q.id ≠ id.toNat)
        ∧ (∀ q, Content.loaded q ∈ s.dev.track.positions → q.id ≠ id.toNat)
        ∧ (s.dev.acc.lanes[l]?.map LaneRt.records).bind (fun rs => rs[k]?) = some r ∧ r.id = id.toNat
        ∧ (∀ m j q, (m, j) ≠ (l, k) → (s.dev.acc.lanes[m]?.map LaneRt.records).bind (fun rs => rs[j]?) = some q →
          q.id ≠ id.toNat)
        ∧ Turn (.rodFind tag id) s := by
  refine ⟨⟨1, 0, _, rfl, turn_asked _ d0 rfl⟩, ⟨1, 65535, _, by decide, by decide, turn_asked _ (noPosition d0) rfl⟩,
    ⟨1, 9, _, rod 9 0 0, by decide, rfl, rfl, turn_asked _ (onSpread (fun p => { p with slot := .loaded (rod 9 0 0) }) d0) rfl⟩,
    ⟨1, 9, _, 1, rod 9 0 0, by decide, (by intro q h; cases h), rfl, rfl, ?_, turn_asked _ (atExit (rod 9 0 0) d0) rfl⟩,
    ⟨1, 9, _, 0, 0, rod 9 0 0, by decide, (by intro q h; cases h), (by intro q h; cases h), rfl, rfl, ?_,
      turn_asked _ (noPosition (onAcc (fun a => { a with lanes := [laneOf (rod 9 0 0)] }) d0)) rfl⟩⟩
  · intro j q hj hq
    match j with
    | 0 => cases hq
    | 1 => exact absurd rfl hj
    | _ + 2 => cases hq
  · intro m j q hm hq
    match m, j with
    | 0, 0 => exact absurd rfl hm
    | 0, _ + 1 => cases hq
    | _ + 1, _ => cases hq

theorem test_witness_RodFindAndMark_strip :
    ∃ (tag : Byte) (id : Half) (s : State) (x : StripSlot), id ≠ 0
      ∧ (∀ q, s.dev.spread.slot.rod? = some q → q.id ≠ id.toNat)
      ∧ (∀ q, Content.loaded q ∈ s.dev.track.positions → q.id ≠ id.toNat)
      ∧ (∀ l ∈ s.dev.acc.lanes, ∀ q ∈ l.records, q.id ≠ id.toNat) ∧ s.dev.acc.slot = some x ∧ x.rod.id = id.toNat
      ∧ Turn (.rodFind tag id) s :=
  ⟨1, 9, _, ⟨rod 9 0 0, 1, .pack⟩, by decide, (by intro q h; cases h), (by intro q h; cases h), by decide, rfl, rfl,
    turn_asked _ (noPosition (onAcc (fun a => { a with slot := some ⟨rod 9 0 0, 1, .pack⟩ }) d0)) rfl⟩

theorem test_witness_TrackForgetAcceptedWhenIdle :
    (∃ tag s, Turn (.trackForget tag) s ∧ s.dev.pace.line = .stopped ∧ s.dev.pace.pacer = .idle)
      ∧ (∃ tag s, Turn (.trackForget tag) s ∧ ¬(s.dev.pace.line = .stopped ∧ s.dev.pace.pacer = .idle))
      ∧ ∃ s : State, MoveLaw s.dev ∧ s.dev.pace.pacer = .idle :=
  ⟨⟨1, _, turn_asked _ d0 rfl, rfl, rfl⟩,
    ⟨1, _, turn_asked _ (onPace (fun p => { p with pacer := .moving }) d0) rfl, by decide⟩,
    ⟨still (onPace (fun p => { p with moveNumber := 9, lateWindow := some 9 }) d0),
      ⟨by decide, by decide, by decide, by decide, by decide, by decide⟩, rfl⟩⟩

/-- A load in flight. -/
def loading (d : Device) : Device :=
  onSpread (fun p => { p with slot := .loading, load := some ⟨5, ⟨0, 8000⟩, ⟨.a, 1, 0, 100⟩⟩, purge := 1, batch := 3 }) d

theorem test_witness_LoadDoneCreatesRecord :
    (∃ (number : Byte) (s : State) (l : Load) (side : Side) (c : DieRecord), s.dev.spread.load = some l ∧ l.number = number.toNat
        ∧ s.dev.spread.slot = .loading ∧ s.dev.die.active = some side ∧ (s.dev.station side).copy = some c
        ∧ s.dev.liveIds.length < 65535)
      ∧ ∃ (number : Byte) (s : State), ∀ l, s.dev.spread.load = some l → l.number ≠ number.toNat :=
  ⟨⟨5, still (loading (extruding 10 (noPosition d0))), _, .a, _, rfl, rfl, rfl, rfl, rfl, by decide⟩,
    ⟨6, still (loading d0), by intro l h; cases h; decide⟩⟩

/-- The load that brings the wear of the ACTIVE station's die to its service limit (R126). -/
theorem test_witness_LoadDoneCreatesRecord_worn :
    ∃ (number : Byte) (s : State) (l : Load) (c : DieRecord), s.dev.spread.load = some l ∧ l.number = number.toNat
      ∧ s.dev.spread.slot = .loading ∧ s.dev.die.active = some .a ∧ (s.dev.station .a).copy = some c
      ∧ c.limit = min 4294967295 (c.wear + 1) ∧ (s.dev.station .a).wearReported = false :=
  ⟨5, still (loading (extruding 999 (noPosition d0))), _, _, rfl, rfl, rfl, rfl, rfl, rfl, rfl⟩

theorem test_witness_LoadFailedEndsLoad : ∃ (number : Byte) (s : State) (l : Load), s.dev.spread.load = some l
    ∧ l.number = number.toNat ∧ s.dev.spread.slot = .loading :=
  ⟨5, still (loading d0), _, rfl, rfl, rfl⟩

theorem test_witness_LoadTimeoutAndBatchNew :
    (∃ (s : State) (l : Load), s.dev.spread.load = some l ∧ s.dev.spread.slot = .loading)
      ∧ (∃ (number : Byte) (s : State), ∀ l, s.dev.spread.load = some l → l.number ≠ number.toNat)
      ∧ ∃ tag s, Turn (.batchNew tag) s :=
  ⟨⟨still (loading d0), _, rfl, rfl⟩, ⟨6, still d0, by intro l h; cases h⟩, ⟨1, _, turn_asked _ d0 rfl⟩⟩

/-- The part with station A as given. -/
def stationA (x : Station) (d : Device) : Device := onDie (fun u => { u with stationA := x }) d

theorem test_witness_DieSeats :
    (∃ (side : Side) (s : State), (s.dev.station side).state = .empty ∧ (s.dev.station side).presence = false)
      ∧ (∃ (side : Side) (s : State), (s.dev.station side).state = .released ∧ (s.dev.station side).presence = true
        ∧ (s.dev.station side).clamp = true)
      ∧ (∃ (side : Side) (s : State) (w : Timer), (s.dev.station side).debounce = some w
        ∧ (s.dev.station side).state = .settling ∧ (s.dev.station side).clamp = false)
      ∧ (∃ (side : Side) (s : State) (w : Timer), (s.dev.station side).debounce = some w
        ∧ (s.dev.station side).state = .settling ∧ (s.dev.station side).clamp = true)
      ∧ ∃ (side : Side) (s : State), (s.dev.station side).state = .seated ∧ (s.dev.station side).clamp = false :=
  ⟨⟨.b, still d0, rfl, rfl⟩, ⟨.a, still (stationA (withDie .released 10) d0), rfl, rfl, rfl⟩,
    ⟨.a, still (stationA { Station.reset with presence := true, state := .settling, debounce := some ⟨0, 300⟩ } d0), _, rfl, rfl,
      rfl⟩,
    ⟨.a, still (stationA { Station.reset with presence := true, clamp := true, state := .settling, debounce := some ⟨0, 300⟩ } d0),
      _, rfl, rfl, rfl⟩,
    ⟨.a, still (stationA { Station.reset with presence := true, state := .seated } d0), rfl, rfl⟩⟩

/-- What a record's read finds: its 15 bytes' sum and the ranges of its fields. -/
def Good (r : DieRecord) : Prop :=
  r.check = ((u32 r.id ++ u8 r.format ++ u16 r.holes ++ u32 r.wear ++ u32 r.limit).map BitVec.toNat).sum % 65536 ∧ r.format ≤ 63
    ∧ 1 ≤ r.holes ∧ r.holes ≤ 2000

theorem test_witness_DieMemoryOutcomes :
    (∃ (side : Side) (number : Byte) (s : State) (w : Timer), (s.dev.station side).inFlight = some ⟨none, number.toNat, w⟩
        ∧ (s.dev.station side).state = .reading
        ∧ (∃ r : DieRecord, r.id < 4294967296 ∧ r.format < 256 ∧ r.holes < 65536 ∧ r.wear < 4294967296
          ∧ r.limit < 4294967296 ∧ r.check < 65536 ∧ ¬Good r)
        ∧ (∃ r : DieRecord, r.id < 4294967296 ∧ r.format = 63 ∧ r.holes = 2000 ∧ r.wear < 4294967296
          ∧ r.limit < 4294967296 ∧ r.check < 65536 ∧ Good r
          ∧ (s.dev.tables.formatMap.getD r.format default).enabled = true)
        ∧ (∃ r : DieRecord, r.id < 4294967296 ∧ r.format = 7 ∧ r.holes = 1 ∧ r.wear < 4294967296
          ∧ r.limit < 4294967296 ∧ r.check < 65536 ∧ Good r
          ∧ (s.dev.tables.formatMap.getD r.format default).enabled = false)
        ∧ s.dev.die.carriage ≠ .idle)
      ∧ (∃ (side : Side) (number : Byte) (s : State) (wear : Nat) (w : Timer),
          (s.dev.station side).inFlight = some ⟨some wear, number.toNat, w⟩ ∧ (s.dev.station side).state = .writing)
      ∧ (∃ (side : Side) (number : Byte) (s : State), ∀ e, (s.dev.station side).inFlight = some e →
          e.number ≠ number.toNat ∨ e.write.isSome)
      ∧ ∃ (side : Side) (number : Byte) (s : State), ∀ e, (s.dev.station side).inFlight = some e →
          e.number ≠ number.toNat ∨ e.write = none :=
  ⟨⟨.a, 4, still (stationA (reading 4) { d0 with tables := { d0.tables with formatMap := d0.tables.formatMap.set 7 ⟨false, 0⟩ } }),
      _, rfl, rfl,
      ⟨⟨5, 63, 2000, 10, 1000, 0⟩, by decide, by decide, by decide, by decide, by decide, by decide, by unfold Good; decide⟩,
      ⟨⟨5, 63, 2000, 10, 1000, 528⟩, by decide, rfl, rfl, by decide, by decide, by decide, by unfold Good; decide, by decide⟩,
      ⟨⟨5, 7, 1, 10, 1000, 258⟩, by decide, rfl, rfl, by decide, by decide, by decide, by unfold Good; decide, by decide⟩,
      by decide⟩,
    ⟨.a, 4, still (stationA (writing 4) d0), _, _, rfl, rfl⟩,
    ⟨.a, 4, still (stationA (writing 4) d0), by intro e h; cases h; decide⟩,
    ⟨.a, 4, still (stationA (reading 4) d0), by intro e h; cases h; decide⟩⟩

theorem test_witness_DieMemoryOutcomes_active :
    ∃ (s : State) (w : Timer) (r : DieRecord), (s.dev.station .a).inFlight = some ⟨none, (4 : Byte).toNat, w⟩
      ∧ (s.dev.station .a).state = .reading ∧ s.dev.die.active = none ∧ s.dev.die.carriage = .idle
      ∧ s.dev.die.position = some .a ∧ Good r ∧ r.limit = r.wear ∧ r.format = 63
      ∧ (s.dev.tables.formatMap.getD r.format default).enabled = true :=
  ⟨still (stationA (reading 4) (onDie (fun u => { u with carriage := .idle, position := some .a }) d0)), _,
    ⟨5, 63, 2000, 1000, 1000, 753⟩, rfl, rfl, rfl, rfl, rfl, by unfold Good; decide, rfl, rfl, by decide⟩

/-- The die of the last test becomes ACTIVE in the event of its read, and its wear is reported (R119, R120, R133). -/
theorem test_read_makes_active :
    (after (execMemoryReadReply .a 4 (some (u32 5 ++ u8 63 ++ u16 2000 ++ u32 1000 ++ u32 1000 ++ u16 753))
        (still (stationA (reading 4) (onDie (fun u => { u with carriage := .idle, position := some .a }) d0))))).die.active = some .a := by
  decide

theorem test_witness_SurpriseRemovalFromEachState :
    (∃ (side : Side) (c : DieRecord) (s : State), (s.dev.station side).state = .active ∧ (s.dev.station side).copy = some c
        ∧ (s.dev.station side).presence = true ∧ (s.dev.station side).clamp = true ∧ s.dev.die.press = .running)
      ∧ (∃ (side : Side) (s : State), (s.dev.station side).state = .reading ∧ (s.dev.station side).presence = true
        ∧ (s.dev.station side).clamp = true)
      ∧ (∃ (side : Side) (c : DieRecord) (s : State), (s.dev.station side).state = .ready
        ∧ (s.dev.station side).copy = some c ∧ (s.dev.station side).presence = true ∧ (s.dev.station side).clamp = true)
      ∧ ∃ (side : Side) (s : State), (s.dev.station side).state = .writing ∧ (s.dev.station side).presence = true
        ∧ (s.dev.station side).clamp = true :=
  ⟨⟨.a, _, still (onDie (fun u => { u with press := .running }) (extruding 12 d0)), rfl, rfl, rfl, rfl, rfl⟩,
    ⟨.a, still (stationA (reading 4) d0), rfl, rfl, rfl⟩, ⟨.a, _, still (stationA (withDie .ready 10) d0), rfl, rfl, rfl, rfl⟩,
    ⟨.a, still (stationA (writing 4) d0), rfl, rfl, rfl⟩⟩

/-- The host has been asked to release the die of station A. -/
def asking (x : Station) : Station := { x with asked := true }

theorem test_witness_StationRequests :
    (∃ (side : Side) (s : State), (s.dev.station side).state = .ready ∧ (s.dev.station side).asked = false)
      ∧ (∃ tag s, Turn (.dieKeep tag 0) s ∧ (s.dev.station .a).asked = true)
      ∧ (∃ tag s, Turn (.dieRelease tag 0) s ∧ (s.dev.station .a).asked = false)
      ∧ (∃ tag s, Turn (.dieRelease tag 0) s ∧ (s.dev.station .a).asked = true ∧ (s.dev.station .a).state = .active
        ∧ s.dev.die.press ≠ .stopped)
      ∧ (∃ tag s c, Turn (.dieRelease tag 0) s ∧ (s.dev.station .a).asked = true ∧ (s.dev.station .a).copy = some c
        ∧ (s.dev.station .a).state = .ready ∧ (s.dev.station .a).wearAtRead ≠ some c.wear)
      ∧ (∃ tag s c, Turn (.dieRelease tag 0) s ∧ (s.dev.station .a).asked = true ∧ (s.dev.station .a).copy = some c
        ∧ (s.dev.station .a).state = .active ∧ s.dev.die.press = .stopped)
      ∧ (∃ tag s, Turn (.dieReread tag 0) s ∧ (s.dev.station .a).state = .rejected)
      ∧ ∃ tag s, Turn (.dieReread tag 0) s ∧ (s.dev.station .a).state ≠ .rejected ∧ (s.dev.station .a).state ≠ .released :=
  ⟨⟨.a, still (stationA (withDie .ready 10) d0), rfl, rfl⟩,
    ⟨1, _, turn_asked _ (stationA (asking (withDie .ready 10)) d0) rfl, rfl⟩,
    ⟨1, _, turn_asked _ (stationA (withDie .ready 10) d0) rfl, rfl⟩,
    ⟨1, _, turn_asked _ (onDie (fun u => { u with stationA := asking u.stationA, press := .starting }) (extruding 10 d0)) rfl,
      rfl, rfl, by decide⟩,
    ⟨1, _, _, turn_asked _ (stationA (asking (withDie .ready 12)) d0) rfl, rfl, rfl, rfl, by decide⟩,
    ⟨1, _, _, turn_asked _ (onDie (fun u => { u with stationA := asking u.stationA }) (extruding 10 d0)) rfl, rfl, rfl, rfl, rfl⟩,
    ⟨1, _, turn_asked _ (stationA { withDie .rejected 10 with reason := some .readFailed } d0) rfl, rfl⟩,
    ⟨1, _, turn_asked _ (stationA (withDie .writing 10) d0) rfl, by decide, by decide⟩⟩

theorem test_witness_StationRequests_unnamed :
    ∃ (tag station : Byte), 1 < station.toNat ∧ station = 2 ∧ (∃ s, Turn (.dieRelease tag station) s)
      ∧ (∃ s, Turn (.dieKeep tag station) s) ∧ ∃ s, Turn (.dieReread tag station) s :=
  ⟨1, 2, by decide, rfl, ⟨_, turn_asked _ d0 rfl⟩, ⟨_, turn_asked _ d0 rfl⟩, ⟨_, turn_asked _ d0 rfl⟩⟩

/-- Station B READY, and the carriage IDLE at station A. -/
def swappable (d : Device) : Device :=
  onDie (fun u => { u with stationB := withDie .ready 10, carriage := .idle, position := some .a, carriageTimer := none }) d

theorem test_witness_DieSwapMovesCarriage :
    (∃ tag station s, 1 < station.toNat ∧ Turn (.dieSwap tag station) s)
      ∧ (∃ tag s, Turn (.dieSwap tag 1) s ∧ s.dev.die.press ≠ .stopped)
      ∧ (∃ tag s, Turn (.dieSwap tag 1) s ∧ s.dev.die.press = .stopped ∧ s.dev.die.carriage = .moving)
      ∧ (∃ tag s, Turn (.dieSwap tag 1) s ∧ s.dev.die.press = .stopped ∧ s.dev.die.carriage = .lost
        ∧ (s.dev.station .b).state ≠ .ready)
      ∧ (∃ tag s, Turn (.dieSwap tag 1) s ∧ s.dev.die.press = .stopped ∧ s.dev.die.carriage = .idle
        ∧ (s.dev.station .b).state = .ready ∧ s.dev.die.position = some .b)
      ∧ ∃ tag s, Turn (.dieSwap tag 1) s ∧ s.dev.die.press = .stopped ∧ s.dev.die.carriage = .idle
        ∧ (s.dev.station .b).state = .ready ∧ s.dev.die.position = some .a ∧ s.dev.die.active = some .a :=
  ⟨⟨1, 2, _, by decide, turn_asked _ d0 rfl⟩,
    ⟨1, _, turn_asked _ (onDie (fun u => { u with press := .stopping }) d0) rfl, by decide⟩,
    ⟨1, _, turn_asked _ (onDie (fun u => { u with carriage := .moving }) d0) rfl, rfl, rfl⟩,
    ⟨1, _, turn_asked _ (onDie (fun u => { u with carriage := .lost }) d0) rfl, rfl, rfl, by decide⟩,
    ⟨1, _, turn_asked _ (onDie (fun u => { u with position := some .b }) (swappable d0)) rfl, rfl, rfl, rfl, rfl⟩,
    ⟨1, _, turn_asked _ (swappable (extruding 10 d0)) rfl, rfl, rfl, rfl, rfl, rfl⟩⟩

theorem test_witness_CarriageEndsAndActivates :
    (∃ (side : Side) (s : State) (w : Timer) (c : DieRecord), s.dev.die.carriage = .querying ∧ s.dev.die.carriageTimer = some w
        ∧ s.dev.time = w.start + w.limit ∧ (s.dev.station side).state = .ready ∧ (s.dev.station side).copy = some c ∧ s.dev.die.active = none
        ∧ c.limit ≤ c.wear ∧ (s.dev.station side).wearReported = false)
      ∧ (∃ (s : State) (w : Timer), s.dev.die.carriage = .querying ∧ s.dev.die.carriageTimer = some w
        ∧ w.start + w.limit < s.dev.time)
      ∧ (∃ (side : Side) (s : State) (w : Timer) (c : DieRecord), s.dev.die.carriage = .moving ∧ s.dev.die.carriageTimer = some w
        ∧ (s.dev.station side).state = .ready ∧ (s.dev.station side).copy = some c ∧ s.dev.die.active = none)
      ∧ (∃ (side : Side) (s : State), s.dev.die.carriage = .lost ∧ (s.dev.station side).state ≠ .ready)
      ∧ ∃ s : State, s.dev.die.carriage = .idle :=
  ⟨⟨.a, still (stationA (withDie .ready 1000) { d0 with time := 2000 }), _, _, rfl, rfl, rfl, rfl, rfl, rfl, by decide, rfl⟩,
    ⟨still { d0 with time := 2001 }, _, rfl, rfl, by decide⟩,
    ⟨.a, still (onDie (fun u => { u with carriage := .moving }) (stationA (withDie .ready 10) d0)), _, _, rfl, rfl, rfl, rfl, rfl⟩,
    ⟨.a, still (onDie (fun u => { u with carriage := .lost }) d0), rfl, by decide⟩, ⟨still (swappable d0), rfl⟩⟩

/-- The press STARTING. -/
def starting (d : Device) : Device := onDie (fun u => { u with press := .starting }) d

theorem test_witness_PressCommands :
    (∃ tag s, Turn (.pressStart tag) s ∧ s.dev.die.press ≠ .stopped)
      ∧ (∃ tag s, Turn (.pressStart tag) s ∧ s.dev.die.press = .stopped ∧ s.dev.die.active = none)
      ∧ (∃ tag s k, Turn (.pressStart tag) s ∧ s.dev.die.press = .stopped ∧ s.dev.die.active.isSome ∧ s.dev.haltFault = some k)
      ∧ (∃ tag s, Turn (.pressStart tag) s ∧ s.dev.die.press = .stopped ∧ s.dev.die.active.isSome ∧ s.dev.haltFault = none)
      ∧ (∃ (s : State) (rest : List Mail), s.dev.mail = .pressStop :: rest ∧ s.dev.die.press = .starting)
      ∧ (∃ s : State, s.dev.die.press = .starting ∧ ¬Fillable s.dev)
      ∧ (∃ s : State, s.dev.die.press = .starting ∧ Fillable s.dev ∧ s.dev.die.active.isSome ∧ s.dev.die.identity.isSome)
      ∧ (∃ s : State, s.dev.die.press = .starting ∧ Fillable s.dev ∧ s.dev.die.active = none
        ∧ s.dev.tables.spreader.emptyFill = true)
      ∧ (∃ (s : State) (w : Timer), s.dev.die.press = .running ∧ s.dev.die.pressTimer = some w)
      ∧ ∃ (s : State) (w : Timer), s.dev.die.press = .stopping ∧ s.dev.die.pressTimer = some w :=
  ⟨⟨1, _, turn_asked _ (onDie (fun u => { u with press := .stopping }) d0) rfl, by decide⟩,
    ⟨1, _, turn_asked _ d0 rfl, rfl, rfl⟩, ⟨1, _, _, turn_asked _ (faulted 9 (extruding 10 d0)) rfl, rfl, rfl, rfl⟩,
    ⟨1, _, turn_asked _ (extruding 10 d0) rfl, rfl, rfl, by decide⟩,
    ⟨still (onDie (fun u => { u with press := .starting }) { d0 with mail := [.pressStop] }), [], rfl, rfl⟩,
    ⟨still (starting d0), rfl, by unfold Fillable; decide⟩,
    ⟨still (starting (extruding 10 (stocked d0))), rfl, ⟨rfl, rfl, by decide⟩, rfl, rfl⟩,
    ⟨still (starting (stocked { d0 with tables := { d0.tables with spreader := ⟨8, true⟩ } })), rfl, ⟨rfl, rfl, by decide⟩, rfl, rfl⟩,
    ⟨still (onDie (fun u => { u with press := .running }) d0), _, rfl, rfl⟩,
    ⟨still (onDie (fun u => { u with press := .stopping }) d0), _, rfl, rfl⟩⟩

/-- The part with no sample round in flight. -/
def noRound (d : Device) : Device := onClimate (fun c => { c with round := none }) d

theorem test_witness_ZoneTimersAndRequests :
    (∃ tag s, Turn (.sampleNow tag) s ∧ s.dev.climate.round = none)
      ∧ (∃ tag s, Turn (.sampleNow tag) s ∧ s.dev.climate.round.isSome)
      ∧ (∃ (s : State) (z : Nat) (e : ZoneEntry) (start : Nat), s.dev.tables.zones[z]? = some e
        ∧ (s.dev.zone z).settleFrom = some start ∧ z + 1 = s.dev.tables.zones.length)
      ∧ (∃ (s : State) (p : Nat) (rest : List Mail), s.dev.mail = .recompute p :: rest ∧ s.dev.climate.zones.length = 12
        ∧ s.dev.tables.zones.length ≤ 12 ∧ (s.dev.zone 0).profile = p)
      ∧ (∃ tag zone s, Turn (.zoneAccept tag zone) s ∧ zone = 0xFF ∧ s.dev.climate.zones.length = 12
        ∧ s.dev.tables.zones.length ≤ 12)
      ∧ (∃ tag zone s, Turn (.zoneAccept tag zone) s ∧ zone.toNat + 1 = s.dev.tables.zones.length
        ∧ s.dev.climate.zones.length = 12 ∧ s.dev.tables.zones.length ≤ 12)
      ∧ ∃ tag zone s, Turn (.zoneAccept tag zone) s ∧ zone.toNat = s.dev.tables.zones.length
        ∧ s.dev.climate.zones.length = 12 ∧ s.dev.tables.zones.length ≤ 12 :=
  ⟨⟨1, _, turn_asked _ (noRound d0) rfl, rfl⟩, ⟨1, _, turn_asked _ d0 rfl, rfl⟩,
    ⟨still d0, 5, _, _, rfl, rfl, rfl⟩, ⟨still { d0 with mail := [.recompute 0] }, 0, [], rfl, rfl, by decide, rfl⟩,
    ⟨1, 0xFF, _, turn_asked _ d0 rfl, rfl, rfl, by decide⟩, ⟨1, 5, _, turn_asked _ d0 rfl, rfl, rfl, by decide⟩,
    ⟨1, 6, _, turn_asked _ d0 rfl, rfl, rfl, by decide⟩⟩

/-- A READ of the zone in flight, to whose module identity 7 belongs. -/
def readingZone (z : Nat) (f : ZoneRt → ZoneRt) (d : Device) : Device :=
  onClimate (fun c => { c with
    round := some ⟨.request, 0, z, .read, 9, ⟨0, 250⟩, []⟩
    zones := c.zones.map fun x => f { x with identity := some 7, settling := false } }) d

theorem test_witness_ReadReplyTaken :
    (∃ (number : Byte) (s : State), s.dev.time = 0 ∧ ∀ r, s.dev.climate.round = some r → r.phase = .read →
        r.number = number.toNat → r.timer.start + r.timer.limit < s.dev.time)
      ∧ (∃ (number : Byte) (s : State) (r : Round), s.dev.climate.round = some r ∧ r.phase = .read
        ∧ r.number = number.toNat ∧ s.dev.time = r.timer.start + r.timer.limit + 1)
      ∧ (∃ (number : Byte) (s : State) (r : Round) (e : ZoneEntry), s.dev.climate.round = some r ∧ r.phase = .read
        ∧ r.number = number.toNat ∧ s.dev.time = r.timer.start + r.timer.limit ∧ s.dev.tables.zones[r.zone]? = some e ∧ r.zone < s.dev.climate.zones.length
        ∧ (s.dev.zone r.zone).hold = true)
      ∧ (∃ (number : Byte) (m : ModuleReply) (s : State) (r : Round) (e : ZoneEntry), s.dev.climate.round = some r
        ∧ r.phase = .read ∧ r.number = number.toNat ∧ s.dev.time = r.timer.start + r.timer.limit ∧ s.dev.tables.zones[r.zone]? = some e
        ∧ r.zone < s.dev.climate.zones.length ∧ (s.dev.zone r.zone).hold = false
        ∧ ¬((s.dev.zone r.zone).identity = none ∨ (s.dev.zone r.zone).identity = some m.moduleId.toNat))
      ∧ (∃ (number : Byte) (m : ModuleReply) (s : State) (r : Round) (e : ZoneEntry), s.dev.climate.round = some r
        ∧ r.phase = .read ∧ r.number = number.toNat ∧ s.dev.time = r.timer.start + r.timer.limit ∧ s.dev.tables.zones[r.zone]? = some e
        ∧ r.zone < s.dev.climate.zones.length ∧ (s.dev.zone r.zone).hold = false
        ∧ (s.dev.zone r.zone).identity = some m.moduleId.toNat ∧ (s.dev.zone r.zone).settling = true)
      ∧ ∃ (number : Byte) (m : ModuleReply) (s : State) (r : Round) (e : ZoneEntry), s.dev.climate.round = some r
        ∧ r.phase = .read ∧ r.number = number.toNat ∧ s.dev.time = r.timer.start + r.timer.limit ∧ s.dev.tables.zones[r.zone]? = some e
        ∧ r.zone < s.dev.climate.zones.length ∧ (s.dev.zone r.zone).hold = false
        ∧ (s.dev.zone r.zone).identity = some m.moduleId.toNat ∧ (s.dev.zone r.zone).settling = false
        ∧ s.dev.tables.zones.length ≤ r.zone + 1 :=
  ⟨⟨9, still d0, rfl, (by intro r h; cases h; decide)⟩,
    ⟨9, still (readingZone 0 id { d0 with time := 251 }), _, rfl, rfl, rfl, rfl⟩,
    ⟨9, still (readingZone 0 (fun x => { x with hold := true }) { d0 with time := 250 }), _, _, rfl, rfl, rfl, rfl, rfl, by decide, rfl⟩,
    ⟨9, ⟨700, 750, 8, .ok, 700, 750⟩, still (readingZone 0 id { d0 with time := 250 }), _, _, rfl, rfl, rfl, rfl, rfl, by decide, rfl, by decide⟩,
    ⟨9, ⟨700, 750, 7, .ok, 700, 750⟩, still (readingZone 0 (fun x => { x with settling := true }) { d0 with time := 250 }), _, _, rfl, rfl, rfl, rfl, rfl,
      by decide, rfl, rfl, rfl⟩,
    ⟨9, ⟨700, 750, 7, .fault, 0, 750⟩, still (readingZone 5 id { d0 with time := 250 }), _, _, rfl, rfl, rfl, rfl, rfl, by decide, rfl, rfl, rfl,
      by decide⟩⟩

/-- A notice is being sent. -/
def sending (d : Device) : Device :=
  onLink (fun l => { l with tx := some ⟨.notice (.fault .chainStall .halt 0 {} 0 false .stopped .none) 0 0, 0⟩ }) d

/-- A reading that leaves the temperature band and returns to the humidity band, with room for both notices. -/
theorem test_witness_ReadReplyTaken_notices :
    ∃ (m : ModuleReply) (s : State) (r : Round) (e : ZoneEntry), s.dev.climate.round = some r ∧ r.phase = .read ∧ r.number = 9
      ∧ s.dev.time ≤ r.timer.start + r.timer.limit ∧ s.dev.tables.zones[r.zone]? = some e ∧ r.zone < s.dev.climate.zones.length
      ∧ (s.dev.zone r.zone).hold = false ∧ (s.dev.zone r.zone).settling = false
      ∧ (s.dev.zone r.zone).identity = some m.moduleId.toNat ∧ s.dev.settleCounting r.zone = false
      ∧ e.edge = .both ∧ e.tempBand ≠ 0 ∧ e.humBand ≠ 0
      ∧ (s.dev.zone r.zone).tempOut = false ∧ e.tempBand < (900 - (s.dev.zone r.zone).effTemp) ∧ m.temp.toNat = 900
      ∧ (s.dev.zone r.zone).humOut = true ∧ m.hum.toNat = (s.dev.zone r.zone).effHum
      ∧ s.dev.link.tx.isSome ∧ s.dev.link.notices.length + 2 ≤ 32 :=
  ⟨⟨900, 750, 7, .ok, 700, 750⟩, still (sending (readingZone 0
      (fun x => { x with humOut := true, settleFrom := none, effTemp := 700, effHum := 750 }) { d0 with tables := { d0.tables with
        zones := d0.tables.zones.map fun z => { z with tempBand := 20, humBand := 30, edge := .both } } })), _, _, rfl, rfl, rfl,
    by decide, rfl, by decide, rfl, rfl, rfl, by decide, rfl, by decide, by decide, rfl, by decide, rfl, rfl, rfl, rfl, by decide⟩

/-- A SET of zone 0 in flight since 0, under number 9. -/
def settingZone (d : Device) : Device :=
  onClimate (fun c => { c with round := some ⟨.request, 0, 0, .set .reading, 9, ⟨0, 250⟩, []⟩ }) d

theorem test_witness_MissesAndSetsEnd :
    (∃ (s : State) (r : Round), s.dev.climate.round = some r ∧ r.phase = .read ∧ r.zone < s.dev.climate.zones.length
        ∧ (s.dev.zone r.zone).valid = true ∧ (s.dev.zone r.zone).misses = 2)
      ∧ (∃ (s : State) (r : Round) (outcome : ReadOutcome) (number : Byte), s.dev.climate.round = some r
        ∧ r.phase = .set outcome ∧ r.number = number.toNat ∧ s.dev.time = r.timer.start + r.timer.limit)
      ∧ (∃ (s : State) (r : Round) (number : Byte), s.dev.climate.round = some r ∧ r.number = number.toNat
        ∧ s.dev.time = r.timer.start + r.timer.limit + 1)
      ∧ ∃ (s : State) (r : Round) (number : Byte), s.dev.climate.round = some r ∧ r.number ≠ number.toNat :=
  ⟨⟨still (readingZone 0 (fun x => { x with valid := true, misses := 2 }) d0), _, rfl, rfl, by decide, rfl, rfl⟩,
    ⟨still (settingZone { d0 with time := 250 }), _, _, 9, rfl, rfl, rfl, rfl⟩,
    ⟨still (settingZone { d0 with time := 251 }), _, 9, rfl, rfl, rfl⟩,
    ⟨still d0, _, 9, rfl, by decide⟩⟩

/-- A measurement of rod 9 in flight, and that rod at the exit. -/
def measuring (d : Device) : Device :=
  onGauge (fun g => { g with inFlight := some ⟨41, 9, 0, ⟨0, 15000⟩⟩ }) (atExit (rod 9 1840 0) d)

/-- Rod 9 in lane 1, the measurement of it in flight. -/
def measuringLane (r : Rod) (d : Device) : Device :=
  noPosition (onAcc (fun a => { a with lanes := a.lanes.set 1 (laneOf r) }) (measuring d))

theorem test_witness_GaugeOutcomes :
    (∃ (number : Byte) (rodId : Half) (s : State) (m : Measurement) (k : Nat) (r : Rod) (x : Product),
        s.dev.gauge.inFlight = some m ∧ m.number = number.toNat ∧ m.rod = rodId.toNat ∧ s.dev.liveIds.Nodup
        ∧ r.id = m.rod ∧ r.born = m.born ∧ r.product = some x ∧ s.dev.track.positions[k]? = some (.loaded r))
      ∧ (∃ (number : Byte) (rodId : Half) (s : State) (m : Measurement) (l k : Nat) (lane : LaneRt) (r : Rod) (x : Product),
        s.dev.gauge.inFlight = some m ∧ m.number = number.toNat ∧ m.rod = rodId.toNat ∧ s.dev.liveIds.Nodup
        ∧ r.id = m.rod ∧ r.born = m.born ∧ r.product = some x ∧ s.dev.acc.lanes[l]? = some lane ∧ lane.records[k]? = some r)
      ∧ (∃ (number : Byte) (rodId : Half) (s : State) (m : Measurement) (slot : StripSlot) (x : Product),
        s.dev.gauge.inFlight = some m ∧ m.number = number.toNat ∧ m.rod = rodId.toNat ∧ s.dev.liveIds.Nodup
        ∧ slot.rod.id = m.rod ∧ slot.rod.born = m.born ∧ slot.rod.product = some x ∧ s.dev.acc.slot = some slot)
      ∧ (∃ (number : Byte) (rodId : Half) (s : State) (m : Measurement), s.dev.gauge.inFlight = some m ∧ m.number = number.toNat
        ∧ m.rod = rodId.toNat ∧ ∀ q ∈ s.dev.liveRods, q.id ≠ m.rod)
      ∧ (∃ (number : Byte) (rodId : Half) (s : State) (m : Measurement), s.dev.gauge.inFlight = some m ∧ m.number = number.toNat
        ∧ m.rod = rodId.toNat ∧ m.rod ∈ s.dev.liveIds ∧ ∀ q ∈ s.dev.liveRods, q.id = m.rod → q.born ≠ m.born)
      ∧ (∃ (number : Byte) (rodId : Half) (s : State) (m : Measurement), s.dev.gauge.inFlight = some m ∧ m.number = number.toNat
        ∧ m.rod = rodId.toNat ∧ m.rod ∈ s.dev.liveIds ∧ ∀ q ∈ s.dev.liveRods, q.id = m.rod → q.product = none)
      ∧ (∃ (number : Byte) (rodId : Half) (s : State), ∀ m, s.dev.gauge.inFlight = some m →
        m.number ≠ number.toNat ∨ m.rod ≠ rodId.toNat)
      ∧ ∃ (s : State) (p : Nat) (rest : List Mail), s.dev.mail = .reset p :: rest ∧ p = 7 :=
  ⟨⟨41, 9, still (measuring d0), _, 1, rod 9 1840 0, _, rfl, rfl, rfl, by decide, rfl, rfl, rfl, rfl⟩,
    ⟨41, 9, still (measuringLane (rod 9 1840 0) d0), _, 1, 0, _, rod 9 1840 0, _, rfl, rfl, rfl, by decide, rfl, rfl, rfl, rfl, rfl⟩,
    ⟨41, 9, still (noPosition (measuring (onAcc (fun a => { a with slot := some ⟨rod 9 1840 0, 1, .pack⟩ }) d0))), _, _, _, rfl, rfl, rfl, by decide, rfl, rfl, rfl, rfl⟩,
    ⟨41, 9, still (noPosition (measuring d0)), _, rfl, rfl, rfl, by decide⟩,
    ⟨41, 9, still (measuringLane { rod 9 1840 0 with born := 1 } d0), _, rfl, rfl, rfl, by decide, by decide⟩,
    ⟨41, 9, still (measuringLane { rod 9 0 0 with product := none } d0), _, rfl, rfl, rfl, by decide, by decide⟩,
    ⟨41, 8, still (measuring d0), by intro m h; cases h; decide⟩, ⟨still { d0 with mail := [.reset 7] }, 7, [], rfl, rfl⟩⟩

/-- A strip in this state, of rod 9 from lane 1. -/
def stripOf (state : StripperState) (d : Device) : Device :=
  onAcc (fun a => { a with
    stripper := state, slot := some ⟨rod 9 1200 0, 1, .pack⟩, number := 12
    timer := if state = .stripping then some ⟨0, 20000⟩ else none }) d

theorem test_witness_StripOutcomes :
    (∃ (number : Byte) (s : State) (x : StripSlot), s.dev.acc.stripper = .stripping ∧ s.dev.acc.slot = some x
        ∧ s.dev.acc.number = number.toNat ∧ s.dev.acc.returnDeclared = true
        ∧ s.dev.acc.returnCount < s.dev.tables.acc.returnCap)
      ∧ (∃ (number : Byte) (s : State) (x : StripSlot), s.dev.acc.stripper = .stalled ∧ s.dev.acc.slot = some x
        ∧ s.dev.acc.number = number.toNat
        ∧ ¬(s.dev.acc.returnDeclared = true ∧ s.dev.acc.returnCount < s.dev.tables.acc.returnCap))
      ∧ (∃ (number : Byte) (s : State), s.dev.acc.stripper = .stripping ∧ s.dev.acc.number ≠ number.toNat)
      ∧ ∃ (s : State) (x : StripSlot) (w : Timer), s.dev.acc.stripper = .stripping ∧ s.dev.acc.slot = some x
        ∧ s.dev.acc.timer = some w :=
  ⟨⟨12, still (stripOf .stripping (declared d0)), _, rfl, rfl, rfl, rfl, by decide⟩,
    ⟨12, still (stripOf .stalled d0), _, rfl, rfl, rfl, by decide⟩, ⟨11, still (stripOf .stripping d0), rfl, by decide⟩,
    ⟨still (stripOf .stripping d0), _, _, rfl, rfl, rfl⟩⟩

/-- Lane `l` with one record and a credit, the stripper paused and IDLE. -/
def waiting (l credit : Nat) (d : Device) : Device :=
  onAcc (fun a => { a with
    paused := true, lanes := a.lanes.modify l fun _ => ⟨true, [rod 9 1200 0], 0, credit⟩ }) d

theorem test_witness_StripRequests :
    (∃ tag s x, Turn (.stripRetry tag) s ∧ s.dev.acc.stripper = .stalled ∧ s.dev.acc.slot = some x)
      ∧ (∃ tag s, Turn (.stripDiscard tag) s ∧ s.dev.acc.stripper ≠ .stalled)
      ∧ (∃ tag s, Turn (.stripResume tag) s ∧ s.dev.acc.stripper = .idle
        ∧ ∀ l, l < 4 → ¬((s.dev.lane l).declared = true ∧ (s.dev.lane l).records ≠ []))
      ∧ (∃ tag s, ∃ r : Rod, Turn (.stripResume tag) s ∧ s.dev.acc.stripper = .idle ∧ (s.dev.lane 3).records = [r]
        ∧ (s.dev.lane 3).declared = true ∧ (s.dev.laneEntry 3).mode = .strict
        ∧ ∀ k, k < 3 → ¬((s.dev.laneEntry k).mode = .strict ∧ (s.dev.lane k).declared = true ∧ (s.dev.lane k).records ≠ []))
      ∧ ∃ tag s, ∃ r : Rod, Turn (.stripResume tag) s ∧ s.dev.acc.stripper = .idle ∧ (s.dev.lane 1).records = [r]
        ∧ 1 = (s.dev.acc.pointer + 1) % 4 ∧ (s.dev.laneEntry 1).mode = .ratio ∧ (s.dev.lane 1).declared = true
        ∧ (s.dev.lane 1).credit = 1
        ∧ (∀ j, j < 4 → ¬((s.dev.laneEntry j).mode = .strict ∧ (s.dev.lane j).declared = true ∧ (s.dev.lane j).records ≠ []))
        ∧ ∀ j, j < 1 → ¬((s.dev.laneEntry ((s.dev.acc.pointer + j) % 4)).mode = .ratio
          ∧ (s.dev.lane ((s.dev.acc.pointer + j) % 4)).declared = true
          ∧ (s.dev.lane ((s.dev.acc.pointer + j) % 4)).records ≠ [] ∧ 0 < (s.dev.lane ((s.dev.acc.pointer + j) % 4)).credit) :=
  ⟨⟨1, _, _, turn_asked _ (stripOf .stalled d0) rfl, rfl, rfl⟩, ⟨1, _, turn_asked _ (stripOf .stripping d0) rfl, by decide⟩,
    ⟨1, _, turn_asked _ d0 rfl, rfl, by decide⟩,
    ⟨1, _, _, turn_asked _ (waiting 3 1 d0) rfl, rfl, rfl, rfl, rfl, by decide⟩,
    ⟨1, _, _, turn_asked _ (waiting 1 1 d0) rfl, rfl, rfl, rfl, rfl, rfl, rfl, by decide, by decide⟩⟩

/-- Lanes 1 and 2 hold records without credit: the refill of R157 (weight 0 nowhere) begins at the pointer. -/
theorem test_witness_StripRequests_refill :
    ∃ tag s, ∃ r : Rod, Turn (.stripResume tag) s ∧ s.dev.acc.stripper = .idle ∧ (s.dev.lane 1).records = [r]
      ∧ 1 = (s.dev.acc.pointer + 1) % 4 ∧ (s.dev.laneEntry 1).mode = .ratio ∧ (s.dev.lane 1).declared = true
      ∧ 0 < (s.dev.laneEntry 1).weight
      ∧ (∀ j, j < 4 → ¬((s.dev.laneEntry j).mode = .strict ∧ (s.dev.lane j).declared = true ∧ (s.dev.lane j).records ≠ []))
      ∧ (∀ j, j < 4 → ¬((s.dev.laneEntry j).mode = .ratio ∧ ((s.dev.lane j).declared = true ∧ (s.dev.lane j).records ≠ [])
        ∧ 0 < (s.dev.lane j).credit))
      ∧ ∀ j, j < 1 → ¬((s.dev.laneEntry ((s.dev.acc.pointer + j) % 4)).mode = .ratio
        ∧ (s.dev.lane ((s.dev.acc.pointer + j) % 4)).declared = true
        ∧ (s.dev.lane ((s.dev.acc.pointer + j) % 4)).records ≠ []) :=
  ⟨1, _, _, turn_asked _ (waiting 1 0 d0) rfl, rfl, rfl, rfl, rfl, rfl, by decide, by decide, by decide, by decide⟩

/-- The return buffer declared with 5 rods, and 5 in spill. -/
def fiveRods (d : Device) : Device :=
  onTrack (fun t => { t with spill := 5 }) (onAcc (fun a => { a with returnDeclared := true, returnCount := 5 }) (noPosition d))

theorem test_witness_StoresDeclaredAndCorrected :
    (∃ tag lane count s, Turn (.laneDeclare tag lane count) s ∧ s.dev.acc.lanes.length = 4 ∧ lane = 4 ∧ 3 < lane.toNat)
      ∧ (∃ tag lane count s, Turn (.laneDeclare tag lane count) s ∧ s.dev.acc.lanes.length = 4 ∧ lane = 3
        ∧ (s.dev.lane lane.toNat).declared = true)
      ∧ (∃ tag lane count s, Turn (.laneDeclare tag lane count) s ∧ s.dev.acc.lanes.length = 4 ∧ lane = 3
        ∧ (s.dev.lane lane.toNat).declared = false ∧ count.toNat = (s.dev.laneEntry lane.toNat).capacity + 1)
      ∧ (∃ tag lane count s, Turn (.laneDeclare tag lane count) s ∧ s.dev.acc.lanes.length = 4 ∧ lane = 3
        ∧ (s.dev.lane lane.toNat).declared = false ∧ count.toNat = (s.dev.laneEntry lane.toNat).capacity
        ∧ s.dev.acc.stripper ≠ .idle ∧ s.dev.liveIds.length + count.toNat ≤ 65535)
      ∧ (∃ tag n s, Turn (.returnDeclare tag n) s ∧ n.toNat = s.dev.tables.acc.returnCap + 1)
      ∧ (∃ tag n s, Turn (.returnDeclare tag n) s ∧ n.toNat = s.dev.tables.acc.returnCap)
      ∧ (∃ tag n s, Turn (.rodAdd tag n) s ∧ n.toNat = 1024)
      ∧ (∃ tag n s, Turn (.rodAdd tag n) s ∧ n.toNat = 1 ∧ s.dev.acc.returnDeclared = false)
      ∧ (∃ tag n s, Turn (.rodAdd tag n) s ∧ n.toNat = 196 ∧ s.dev.acc.returnDeclared = true
        ∧ s.dev.tables.acc.returnCap < s.dev.acc.returnCount + n.toNat)
      ∧ (∃ tag n s, Turn (.rodAdd tag n) s ∧ n.toNat = 195 ∧ s.dev.acc.returnDeclared = true
        ∧ s.dev.acc.returnCount + n.toNat ≤ s.dev.tables.acc.returnCap)
      ∧ (∃ tag n s, Turn (.rodRemoveReturn tag n) s ∧ n.toNat = 6 ∧ s.dev.acc.returnCount < n.toNat)
      ∧ (∃ tag n s, Turn (.rodRemoveReturn tag n) s ∧ n.toNat = 5 ∧ n.toNat ≤ s.dev.acc.returnCount)
      ∧ (∃ tag place n s, Turn (.rodRemoveSpill tag place n) s ∧ place = 2)
      ∧ (∃ tag place n s, Turn (.rodRemoveSpill tag place n) s ∧ place = 1 ∧ n.toNat = 0)
      ∧ (∃ tag place n s, Turn (.rodRemoveSpill tag place n) s ∧ place = 1 ∧ n.toNat = 6 ∧ s.dev.track.spill < n.toNat)
      ∧ ∃ tag place n s, Turn (.rodRemoveSpill tag place n) s ∧ place = 1 ∧ n.toNat = 5 ∧ n.toNat ≤ s.dev.track.spill :=
  ⟨⟨1, 4, 0, _, turn_asked _ d0 rfl, rfl, rfl, by decide⟩, ⟨1, 3, 0, _, turn_asked _ (declared d0) rfl, rfl, rfl, rfl⟩,
    ⟨1, 3, 31, _, turn_asked _ d0 rfl, rfl, rfl, rfl, rfl⟩,
    ⟨1, 3, 30, _, turn_asked _ (stripOf .stalled (noPosition d0)) rfl, rfl, rfl, rfl, rfl, by decide, by decide⟩,
    ⟨1, 201, _, turn_asked _ d0 rfl, rfl⟩, ⟨1, 200, _, turn_asked _ d0 rfl, rfl⟩, ⟨1, 1024, _, turn_asked _ d0 rfl, rfl⟩,
    ⟨1, 1, _, turn_asked _ d0 rfl, rfl, rfl⟩, ⟨1, 196, _, turn_asked _ (fiveRods d0) rfl, rfl, rfl, by decide⟩,
    ⟨1, 195, _, turn_asked _ (fiveRods d0) rfl, rfl, rfl, by decide⟩, ⟨1, 6, _, turn_asked _ (fiveRods d0) rfl, rfl, by decide⟩,
    ⟨1, 5, _, turn_asked _ (fiveRods d0) rfl, rfl, by decide⟩, ⟨1, 2, 1, _, turn_asked _ d0 rfl, rfl⟩,
    ⟨1, 1, 0, _, turn_asked _ d0 rfl, rfl, rfl⟩, ⟨1, 1, 6, _, turn_asked _ (fiveRods d0) rfl, rfl, rfl, by decide⟩,
    ⟨1, 1, 5, _, turn_asked _ (fiveRods d0) rfl, rfl, rfl, by decide⟩⟩

/-- The last lane's declaration, and RETURN_DECLARE, each with nothing else missing for the establishment (R16). -/
theorem test_witness_StoresDeclaredAndCorrected_established :
    (∃ tag lane count s, Turn (.laneDeclare tag lane count) s ∧ s.dev.acc.lanes.length = 4 ∧ lane = 3 ∧ count = 0
        ∧ (s.dev.lane lane.toNat).declared = false ∧ count.toNat ≤ (s.dev.laneEntry lane.toNat).capacity
        ∧ s.dev.liveIds.length + count.toNat ≤ 65535 ∧ s.dev.track.established = false
        ∧ (Established (onAcc (fun a => { a with
            lanes := a.lanes.modify 3 fun l => { l with declared := true } }) s.dev)).track.established = true)
      ∧ ∃ tag n s, Turn (.returnDeclare tag n) s ∧ n.toNat = s.dev.tables.acc.returnCap ∧ s.dev.acc.returnCount < n.toNat
        ∧ (Established (onAcc (fun a => { a with returnCount := n.toNat, returnDeclared := true }) s.dev)).track.inventory = 200 :=
  ⟨⟨1, 3, 0, _, turn_asked _ (onAcc (fun a => { a with lanes := a.lanes.set 3 ⟨false, [], 0, 0⟩ }) (declared (noPosition d0))) rfl,
      rfl, rfl, rfl, rfl, by decide, by decide, rfl, by decide⟩,
    ⟨1, 200, _, turn_asked _ (declared (noPosition d0)) rfl, rfl, by decide, by decide⟩⟩

theorem test_witness_FaultRaiseTaken :
    (∃ (k : FaultKind) (c : Context) (rest : List Mail) (s : State), s.dev.mail = .raise k c :: rest
        ∧ s.dev.log.kinds.length = 23 ∧ (s.dev.faultSetting k).masked = true)
      ∧ ∃ (k : FaultKind) (c : Context) (rest : List Mail) (s : State), s.dev.mail = .raise k c :: rest
        ∧ s.dev.log.kinds.length = 23 ∧ (s.dev.faultSetting k).masked = false ∧ s.dev.link.notices.length < 32
        ∧ s.dev.link.tx.isSome :=
  ⟨⟨.climateDeviation, {}, [], still { d0 with
      mail := [.raise .climateDeviation {}]
      tables := { d0.tables with faults := d0.tables.faults.set 11 ⟨true, .note⟩ } }, rfl, rfl, by decide⟩,
    ⟨.configDefaulted, {}, [], still Device.reset, rfl, rfl, rfl, by decide, rfl⟩⟩

theorem test_witness_FaultClearClears :
    (∃ tag kinds s, Turn (.faultClear tag kinds) s ∧ kinds.length = 24)
      ∧ (∃ tag kinds s, Turn (.faultClear tag kinds) s ∧ 1 ≤ kinds.length ∧ kinds.length ≤ 23
        ∧ ¬(kinds = [0xFF] ∨ ∀ b ∈ kinds, b.toNat ≤ 22))
      ∧ (∃ tag kinds s, Turn (.faultClear tag kinds) s ∧ 1 ≤ kinds.length ∧ kinds.length ≤ 23 ∧ (∀ b ∈ kinds, b.toNat ≤ 22)
        ∧ s.dev.log.kinds.length = 23)
      ∧ ∃ tag kinds s, Turn (.faultClear tag kinds) s ∧ kinds = [0xFF] ∧ s.dev.log.kinds.length = 23 :=
  ⟨⟨1, List.replicate 24 0, _, turn_asked _ d0 rfl, rfl⟩, ⟨1, [22, 23], _, turn_asked _ d0 rfl, by decide, by decide, by decide⟩,
    ⟨1, [0, 22], _, turn_asked _ d0 rfl, by decide, by decide, by decide, rfl⟩, ⟨1, [0xFF], _, turn_asked _ d0 rfl, rfl, rfl⟩⟩

/-! The invariants, each in a state with something in hand, at a step that does something. -/

/-- A command at the front of the queue. -/
def next (i : Instr) (d : Device) : State := ⟨d, [i]⟩

theorem test_witness_FactorReturnMoveLawsKept :
    (∃ s t, step s = .next t ∧ FactorLaw s.dev) ∧ (∃ s t, step s = .next t ∧ ReturnLaw s.dev)
      ∧ ∃ s t, step s = .next t ∧ MoveLaw s.dev ∧ s.dev.pace.inFlight.isSome :=
  ⟨⟨next (.correctionResetOrder 2) (onGauge (fun g => { g with factors := [128, 512, 300, 256, 256, 256, 256, 256] }) d0), _, rfl,
      by unfold FactorLaw; decide⟩,
    ⟨next (.stripDone 12) (stripOf .stripping (onAcc (fun a => { a with returnDeclared := true, returnCount := 200 }) d0)), _, rfl,
      by unfold ReturnLaw; decide⟩,
    ⟨next .moveLimitExpiry (onPace (fun p => { p with
        line := .running, pacer := .moving, inFlight := some ⟨7, none, none⟩, timer := some ⟨0, 12000⟩ }) d0), _, rfl,
      by unfold MoveLaw; decide, rfl⟩⟩

theorem test_witness_LinkLawsKept :
    (∃ s t, step s = .next t ∧ QueueLaw s.dev ∧ s.dev.link.queue.length = 4)
      ∧ ∃ s t, step s = .next t ∧ ServeLaw s.dev ∧ s.dev.link.queue.length = 4 :=
  ⟨⟨next (.hostFrame [0]) (fullQueue d0), _, rfl, by unfold QueueLaw; decide, rfl⟩,
    ⟨next .frameSent (fullQueue d0), _, rfl, ⟨by decide, by decide, (by intro r h; cases h), by decide⟩, rfl⟩⟩

/-- A tunnel of 32 positions in one zone, with a rod at the exit. -/
def shortTunnel (d : Device) : Device :=
  onTrack (fun t => { t with positions := List.replicate 31 .gap ++ [.loaded (rod 9 1200 0)] })
    { d with tables := { d.tables with length := 32, zones := [defaultZone .dry 31 10 0] } }

theorem test_shortTunnel_law : TunnelLaw (shortTunnel d0) := by
  refine ⟨⟨by decide, by decide, by decide, by decide, by decide, by decide, ?_, ?_⟩, by decide, (by intro c h; cases h),
    by intro w h; cases h⟩
  · intro e h; cases h; decide
  · intro z e f _ h; cases z <;> cases h

theorem test_witness_LayoutAndTrimLawsKept :
    (∃ s t, step s = .next t ∧ TunnelLaw s.dev) ∧ ∃ s t, step s = .next t ∧ TrimLaw s.dev := by
  refine ⟨⟨next (.moveDone 7 .bare) (shortTunnel d0), _, rfl, test_shortTunnel_law⟩,
    ⟨next (.talliesHanded [(40, 23)]) (shortTunnel d0), _, rfl, ?_, by decide⟩⟩
  intro z e h
  match z with
  | 0 => cases h; decide
  | _ + 1 => cases h

theorem test_witness_DieAndPressLawKept : ∃ s t, DieLaw s.dev ∧ s.dev.die.active = some .a ∧ step s = .next t := by
  refine ⟨next (.presenceEvent .a false) (onDie (fun u => { u with press := .running }) (extruding 12 d0)), _,
    ⟨⟨by decide, by decide, (by intro e h; cases h), fun _ => ⟨_, _, rfl, rfl, by decide, by decide, by decide, by decide⟩⟩,
      ⟨by decide, by decide, (by intro e h; cases h), by intro h; obtain h | h := h <;> cases h⟩, ?_, ?_, by decide⟩, rfl, rfl⟩
  · intro side; cases side <;> decide
  · intro side h; cases h; decide

theorem test_witness_LaneLawKept : ∃ s t, LaneLaw s.dev ∧ (s.dev.lane 3).load = 30 ∧ step s = .next t := by
  refine ⟨next (.stripResume 1) (onAcc (fun a => { a with
      lanes := [⟨false, [], 0, 4⟩, ⟨false, [], 0, 2⟩, ⟨false, [], 0, 1⟩, ⟨true, [rod 9 0 0], 29, 1⟩] }) d0), _,
    ⟨by decide, by unfold LanesValid; decide, ⟨(by intro c h; cases h), by intro w h; cases h⟩, by decide,
      by intro m l h; cases h⟩, by decide, rfl⟩

theorem test_witness_InventoryAndIdLawsKept :
    ∃ s t, TunnelLaw s.dev ∧ LaneLaw s.dev ∧ InventoryLaw s.dev ∧ IdLaw s.dev ∧ s.dev.track.established = true
      ∧ step s = .next t := by
  refine ⟨next (.rodAdd 1 4) (declared (onTrack (fun t => { t with established := true, inventory := 1 }) (shortTunnel d0))), _,
    test_shortTunnel_law,
    ⟨by decide, by unfold LanesValid; decide, ⟨(by intro c h; cases h), by intro w h; cases h⟩, by decide, by intro m l h; cases h⟩,
    ⟨by decide, by decide, by decide, (by intro m l h; cases h), fun _ => ⟨⟨by decide, by decide, rfl⟩, by decide⟩⟩,
    ⟨by decide, by decide⟩, rfl, rfl⟩

end Sys2Proof.Tests
end

section
/-! SUPPORT. The proof about TRACK_FORGET (R23, R24), under the facts it rests on: what a notice and a closed record leave
unchanged, that a reply which has joined the reply line is not lost to the transmitter, and what TRACK_FORGET does at the
tunnel track. -/

namespace Sys2Proof.Machine

/-! What the operations that place notices change. -/

/-- A notice touches the link port and the counts only (R190). -/
theorem Device.notify_only (n : Notice) (d : Device) :
    d.notify n = { d with link := (d.notify n).link, counts := (d.notify n).counts } := by
  obtain ⟨_, h⟩ | ⟨_, h⟩ := d.notify_cases n
  · rw [h]
  · rw [h]; rfl

/-- Closing records touches the link port, which carries their notices, and the counts only (R5, R24). -/
theorem Device.closeAll_only (outcome : CloseOutcome) (rods : List Rod) (d : Device) :
    d.closeAll outcome rods =
      { d with link := (d.closeAll outcome rods).link, counts := (d.closeAll outcome rods).counts } := by
  induction rods generalizing d with
  | nil => rfl
  | cons r rs ih =>
    have first : d.closeAll outcome (r :: rs) = (d.closeRod outcome r).closeAll outcome rs := rfl
    have closed : d.closeRod outcome r =
        { d with link := (d.closeRod outcome r).link, counts := (d.closeRod outcome r).counts } := d.notify_only _
    rw [first, ih (d.closeRod outcome r), closed]

/-- The track with its inventory unestablished; the count of an established inventory is dropped (R19). -/
def Track.unestablished (t : Track) : Track :=
  { t with established := false, inventory := if t.established then 0 else t.inventory }

theorem Track.unestablished_of_not {t : Track} (h : t.established = false) : t.unestablished = t := by
  cases t; cases h; rfl

/-- The inventory becomes unestablished; beside that only the notice of the change is placed (R19). -/
theorem Device.unestablish_only (d : Device) :
    d.unestablish =
      { d with track := d.track.unestablished, link := d.unestablish.link, counts := d.unestablish.counts } := by
  unfold Device.unestablish
  split
  · rename_i h
    rw [Device.notifyLine, Device.notify_only]
    simp [Track.unestablished, h]
  · rename_i h
    rw [Track.unestablished_of_not (Bool.eq_false_of_not_eq_true h)]

/-! Replies. -/

/-- A reply in the reply line stays there or is the one that the transmitter begins (R190). -/
theorem Device.pump_keeps_reply {r : Reply} {d : Device} (h : r ∈ d.link.replies) :
    r ∈ d.pump.link.replies ∨ d.pump.link.tx.map Transmission.item = some (.reply r) := by
  unfold Device.pump
  split
  · exact .inl h
  · split
    · exact .inl h
    · split
      · rename_i rs hrs
        rw [hrs] at h
        obtain rfl | h := List.mem_cons.mp h
        · exact .inr rfl
        · exact .inl h
      · rename_i hnil
        simp [hnil] at h

/-- A request that has been served was answered with its owner's status (R189). -/
theorem Served.replied (i : Instr) (s : State) (d : Device) (a : Answer) : Replied i a.status (Served i s d a).dev :=
  ⟨⟨(frameOf i).kind, (frameOf i).tag, a.status, a.detail, a.data, true⟩, rfl, rfl, rfl,
    Device.pump_keeps_reply (List.mem_append_right _ (List.mem_singleton_self _))⟩

/-! TRACK_FORGET. -/

/-- A track that has been forgotten: every position UNKNOWN and the inventory unestablished (R24). -/
def Track.forgotten (t : Track) : Track :=
  { t with positions := t.positions.map fun _ => .unknown }.unestablished

/-- On a STOPPED line with an IDLE pacer TRACK_FORGET forgets the track, and beside that touches only what its notices
touch (R23, R24). -/
theorem trackForget_accepted {d : Device} (h : d.pace.line = .stopped ∧ d.pace.pacer = .idle) :
    (trackForget d).2 = accepted ∧ (trackForget d).1 =
      { d with track := d.track.forgotten, link := (trackForget d).1.link, counts := (trackForget d).1.counts } := by
  rw [trackForget, if_pos h]
  refine ⟨rfl, ?_⟩
  dsimp only
  rw [Device.unestablish_only, Device.closeAll_only]
  rfl

/-- In any other line or pacer state TRACK_FORGET changes nothing (R23). -/
theorem trackForget_refused {d : Device} (h : ¬(d.pace.line = .stopped ∧ d.pace.pacer = .idle)) :
    trackForget d = (d, ⟨.wrongState, 0, []⟩) :=
  if_neg h

/-- TRACK_FORGET in its turn is served with the tunnel track's answer. -/
theorem exec_trackForget_of_turn {tag : Byte} {s : State} (h : Turn (.trackForget tag) s) :
    exec (.trackForget tag) s =
      .next (Served (.trackForget tag) s (trackForget s.dev).1 (trackForget s.dev).2) :=
  run_ask trackForget h rfl

/-- An IDLE pacer has no move in flight (R23, R66). -/
theorem MoveLaw.inFlight_eq_none_of_idle {d : Device} (law : MoveLaw d) (idle : d.pace.pacer = .idle) :
    d.pace.inFlight = none := by
  obtain ⟨_, _, inFlight, _⟩ := law
  cases hm : d.pace.inFlight with
  | none => rfl
  | some m => simp [hm, idle] at inFlight

/-- Settles O34: the two branches of TRACK_FORGET at the tunnel track, each served with one reply, and the law on chain
moves for an IDLE pacer. -/
theorem trackForgetAcceptedWhenIdle : Obligations.TrackForgetAcceptedWhenIdle := by
  intro tag s turn
  have served := exec_trackForget_of_turn turn
  refine ⟨fun idle => ⟨_, served, ?_⟩, fun other => ?_, MoveLaw.inFlight_eq_none_of_idle⟩
  · obtain ⟨answer, effect⟩ := trackForget_accepted idle
    rw [answer]
    refine ⟨Served.replied _ _ _ accepted, ?_⟩
    rw [effect]
    simp [Served, Track.forgotten, Track.unestablished]
  · rw [served, trackForget_refused other]

end Sys2Proof.Machine
end

section
/-! SUPPORT. The proof about the drying model's arithmetic (R28, R30, R31, R33), under one layer of facts for each of its
functions: `equilibrium`, `tempFactor`, `moistureLoss` and `zoneOf`. -/

namespace Sys2Proof.Machine

/-! The equilibrium moisture (R30). -/

/-- A share of at most 100 hundredths, with its quotient truncated toward zero, does not leave the span it is taken of,
whether the span rises or falls. -/
theorem interpolated_mem_span (lo hi f : Nat) (hf : f ≤ 100) :
    ((min lo hi : Nat) : Int) ≤ lo + (((hi : Int) - lo) * (f : Int)).tdiv 100
      ∧ lo + (((hi : Int) - lo) * (f : Int)).tdiv 100 ≤ ((max lo hi : Nat) : Int) := by
  have share_le (d : Nat) : d * f / 100 ≤ d := Nat.div_le_of_le_mul (by rw [Nat.mul_comm]; exact Nat.mul_le_mul_right d hf)
  have share_cast (d : Nat) : ((d : Int) * (f : Int)).tdiv 100 = ((d * f / 100 : Nat) : Int) := by
    rw [Int.ofNat_tdiv, Int.natCast_mul]; rfl
  obtain rises | falls := Nat.le_total lo hi
  · obtain ⟨d, rfl⟩ := Nat.exists_eq_add_of_le rises
    have span : ((lo + d : Nat) : Int) - lo = d := by omega
    have := share_le d
    rw [span, share_cast]
    omega
  · obtain ⟨d, rfl⟩ := Nat.exists_eq_add_of_le falls
    have span : (hi : Int) - ((hi + d : Nat) : Int) = -d := by omega
    have := share_le d
    rw [span, Int.neg_mul, Int.neg_tdiv, share_cast]
    omega

/-- At 100 % the table's last entry stands by itself (R30). -/
theorem equilibrium_of_saturated (eq : List Nat) {hum : Nat} (h : 10 ≤ hum / 100) :
    equilibrium eq hum = eq.getD 10 0 :=
  if_pos h

/-- Below 100 % the interpolated value is not negative, so the model's natural number is the rule's signed one (R30). -/
theorem equilibrium_interpolated (eq : List Nat) {hum : Nat} (h : hum / 100 < 10) :
    (equilibrium eq hum : Int) = (eq.getD (hum / 100) 0 : Int)
      + (((eq.getD (hum / 100 + 1) 0 : Int) - (eq.getD (hum / 100) 0 : Int)) * ((hum % 100 : Nat) : Int)).tdiv 100 := by
  obtain ⟨above, _⟩ :=
    interpolated_mem_span (eq.getD (hum / 100) 0) (eq.getD (hum / 100 + 1) 0) (hum % 100) (by omega)
  unfold equilibrium
  rw [if_neg (by omega), Int.toNat_of_nonneg (by omega)]

theorem equilibrium_mem_span (eq : List Nat) {hum : Nat} (h : hum / 100 < 10) :
    min (eq.getD (hum / 100) 0) (eq.getD (hum / 100 + 1) 0) ≤ equilibrium eq hum
      ∧ equilibrium eq hum ≤ max (eq.getD (hum / 100) 0) (eq.getD (hum / 100 + 1) 0) := by
  have := interpolated_mem_span (eq.getD (hum / 100) 0) (eq.getD (hum / 100 + 1) 0) (hum % 100) (by omega)
  rw [← equilibrium_interpolated eq h] at this
  omega

theorem getD_zero_le_of_forall_le {l : List Nat} {bound : Nat} (h : ∀ x ∈ l, x ≤ bound) (i : Nat) :
    l.getD i 0 ≤ bound := by
  obtain inside | outside := Nat.lt_or_ge i l.length
  · rw [List.getD_eq_getElem l 0 inside]
    exact h _ (List.getElem_mem inside)
  · rw [List.getD_eq_default l 0 outside]
    exact Nat.zero_le bound

/-- The equilibrium moisture keeps every bound that the table's entries keep (R30). -/
theorem equilibrium_le_of_forall_le {eq : List Nat} {bound : Nat} (h : ∀ x ∈ eq, x ≤ bound) (hum : Nat) :
    equilibrium eq hum ≤ bound := by
  obtain saturated | below := le_or_gt 10 (hum / 100)
  · rw [equilibrium_of_saturated eq saturated]
    exact getD_zero_le_of_forall_le h 10
  · calc equilibrium eq hum
        ≤ max (eq.getD (hum / 100) 0) (eq.getD (hum / 100 + 1) 0) := (equilibrium_mem_span eq below).2
      _ ≤ bound := max_le (getD_zero_le_of_forall_le h _) (getD_zero_le_of_forall_le h _)

/-! The temperature factor (R31). -/

/-- The clamp keeps the factor above 0, so the model's natural number is the rule's signed one (R31). -/
theorem tempFactor_clamped (gain temp : Nat) :
    (tempFactor gain temp : Int) = max 256 (min 4096 (1024 + (gain : Int) * ((temp : Int) - 600))) :=
  Int.toNat_of_nonneg (le_max_of_le_left (by decide))

/-- Without a deviation, by the gain or by the temperature, the factor is the reference's (R31). -/
theorem tempFactor_of_no_deviation {gain temp : Nat} (h : (gain : Int) * ((temp : Int) - 600) = 0) :
    tempFactor gain temp = 1024 := by
  have clamped := tempFactor_clamped gain temp
  rw [h] at clamped
  omega

/-! The moisture loss (R33). -/

/-- A record at or below the equilibrium loses nothing (R33). -/
theorem moistureLoss_of_le {moisture me : Nat} (h : moisture ≤ me) (rate dt : Nat) :
    moistureLoss moisture me rate dt = 0 := by
  simp [moistureLoss, Nat.sub_eq_zero_of_le h]

theorem moistureLoss_eq_min (moisture me rate dt : Nat) :
    moistureLoss moisture me rate dt = min ((moisture - me) * rate * dt / 2 ^ 24) (moisture - me) :=
  Nat.min_comm _ _

/-- The product D × K × Δt at its largest (R33). -/
theorem lossProduct_le {moisture rate dt : Nat} (hm : moisture ≤ 4000) (hr : rate ≤ 65528) (hd : dt ≤ 600) (me : Nat) :
    (moisture - me) * rate * dt ≤ 157267200000 :=
  calc (moisture - me) * rate * dt
      ≤ 4000 * 65528 * 600 := Nat.mul_le_mul (Nat.mul_le_mul ((Nat.sub_le moisture me).trans hm) hr) hd
    _ = 157267200000 := by norm_num

/-! The zone of a position (R28). -/

/-- The first zone whose last position is not before `k` is the zone of `k` (R28, R88). -/
theorem zoneOf_eq_of_span {zones : List ZoneEntry} {z k : Nat} {e : ZoneEntry} (entry : zones[z]? = some e)
    (inside : k ≤ e.last) (past : ∀ (y : Nat) (f : ZoneEntry), y < z → zones[y]? = some f → f.last < k) :
    zoneOf zones k = z := by
  obtain ⟨hz, rfl⟩ := List.getElem?_eq_some_iff.mp entry
  refine (List.findIdx_eq hz).mpr ⟨decide_eq_true inside, fun y hy => decide_eq_false ?_⟩
  exact Nat.not_le_of_lt (past y _ hy (List.getElem?_eq_getElem (hy.trans hz)))

/-- Settles O31, function by function: the interpolation stays in its span, the clamp and the floor are the rules' own, and
the zone of a position is the first one that reaches it. -/
theorem dryingArithmetic : Obligations.DryingArithmetic := by
  refine ⟨fun eq hum _ hhum => ?_, fun gain temp => ?_, fun moisture me rate dt => ?_, fun zones z k e => zoneOf_eq_of_span⟩
  · refine ⟨fun saturated => equilibrium_of_saturated eq saturated.ge, fun other => ?_,
      fun bounded => equilibrium_le_of_forall_le bounded hum⟩
    have below : hum / 100 < 10 := by omega
    exact ⟨equilibrium_interpolated eq below, equilibrium_mem_span eq below⟩
  · exact ⟨tempFactor_clamped gain temp, tempFactor_of_no_deviation (by simp), tempFactor_of_no_deviation (by simp)⟩
  · exact ⟨fun h => moistureLoss_of_le h rate dt, fun _ => moistureLoss_eq_min moisture me rate dt,
      fun hm hr hd => ⟨lossProduct_le hm hr hd me, by norm_num, by norm_num⟩⟩

end Sys2Proof.Machine
end

section
/-! SUPPORT. The proof about load-failed messages (R141), under the facts it rests on: which answer fits the load in flight,
what a load that ends without strands leaves, and what the slot's empty rod gives position 0. -/

namespace Sys2Proof.Machine

/-- An answer fits a load exactly if that load is in flight under the answer's number, with the slot LOADING (R140 to
R142). -/
theorem Device.loadAnswered_eq_some_iff {d : Device} {number : Nat} {l : Load} :
    d.loadAnswered number = some l ↔ d.spread.load = some l ∧ l.number = number ∧ d.spread.slot = .loading := by
  unfold Device.loadAnswered
  split
  case h_1 m inFlight =>
    constructor
    · intro h
      obtain ⟨fits, same⟩ := Option.ite_none_right_eq_some.mp h
      obtain rfl : m = l := Option.some.inj same
      exact ⟨inFlight, fits⟩
    · rintro ⟨h, fits⟩
      obtain rfl : m = l := Option.some.inj (inFlight.symm.trans h)
      exact if_pos fits
  case h_2 noLoad => simp [noLoad]

/-- A load-failed message that fits the load in flight ends that load, is counted and is reported (R141). -/
theorem Device.loadFailed_of_answered {d : Device} {number : Nat} {l : Load} (h : d.loadAnswered number = some l) :
    d.loadFailed number = (d.endLoad.bump .loadFails).post (.retry .loadOutcome) := by
  rw [Device.loadFailed, h]

theorem exec_loadFailed (number : Byte) (s : State) :
    exec (.loadFailed number) s = .next (After s (s.dev.loadFailed number.toNat)) :=
  run_after _ s

/-- The empty rod enters the tunnel as EMPTY, whatever the layout (R144). -/
theorem Slot.delivery_emptyStaged (zones : Nat) : Slot.emptyStaged.delivery zones = .empty := rfl

/-- Settles O36: the message fits the load in flight, so it takes the branch that ends the load without strands. -/
theorem loadFailedEndsLoad : Obligations.LoadFailedEndsLoad := by
  refine ⟨fun number s l inFlight numbered loading => ?_, Slot.delivery_emptyStaged⟩
  have answered : s.dev.loadAnswered number.toNat = some l :=
    Device.loadAnswered_eq_some_iff.mpr ⟨inFlight, numbered, loading⟩
  rw [exec_loadFailed, Device.loadFailed_of_answered answered]
  rfl

end Sys2Proof.Machine
end

section
/-! SUPPORT. The proof about the refused RESTART (R197), under the facts it rests on: what RESTART answers while an operation
is in flight, and that the link port serves no other request when a request's turn has come. -/

namespace Sys2Proof.Machine

/-! RESTART with an operation in flight. -/

/-- RESTART with an operation in flight changes nothing, and its answer names the operation's case (R197). -/
theorem restart_of_restartBar {d : Device} {case : Nat} (h : d.restartBar = some case) :
    restart d = (d, wrongState .operationInFlight case) := by
  rw [restart, h]

/-- RESTART in its turn is served with the link port's answer. -/
theorem exec_restart_of_turn {tag : Byte} {s : State} (h : Turn (.restart tag) s) :
    exec (.restart tag) s = .next (Served (.restart tag) s (restart s.dev).1 (restart s.dev).2) :=
  run_ask restart h rfl

theorem exec_restart_of_restartBar {tag : Byte} {s : State} {case : Nat} (turn : Turn (.restart tag) s)
    (h : s.dev.restartBar = some case) :
    exec (.restart tag) s = .next (Served (.restart tag) s s.dev (wrongState .operationInFlight case)) := by
  rw [exec_restart_of_turn turn, restart_of_restartBar h]

/-! The request queue when a request's turn has come (R188). -/

/-- The request in turn waits behind replied requests only (R188). -/
theorem Device.queue_of_nextRequest {d : Device} {f : Frame} (h : d.nextRequest = some f) :
    ∃ replied rest, d.link.queue = replied ++ ⟨f, .waiting⟩ :: rest ∧ ∀ x ∈ replied, x.stage = .answered := by
  unfold Device.nextRequest at h
  split at h
  case isTrue => cases h
  case isFalse =>
    split at h
    case h_1 x oldest =>
      obtain ⟨waits, same⟩ := Option.ite_none_right_eq_some.mp h
      obtain rfl := Option.some.inj same
      obtain ⟨-, replied, rest, queue, answered⟩ := List.find?_eq_some_iff_append.mp oldest
      exact ⟨replied, rest, by rw [queue, ← waits], by simpa using answered⟩
    case h_2 => cases h

/-- While a request's turn has come, no request is being served: those before it are answered, and those behind it wait
(R188). -/
theorem ServeLaw.serving_eq_none {d : Device} {f : Frame} (law : ServeLaw d) (turn : d.nextRequest = some f) :
    d.serving = none := by
  obtain ⟨waiting, -⟩ := law
  obtain ⟨replied, rest, queue, answered⟩ := d.queue_of_nextRequest turn
  have behind : ∀ x ∈ rest, x.stage = .waiting := by
    rw [queue, List.dropWhile_append_of_pos (by simpa using answered)] at waiting
    exact waiting
  have unserved : ∀ x ∈ d.link.queue, x.stage ≠ .serving := by
    intro x mem
    rw [queue, List.mem_append, List.mem_cons] at mem
    obtain before | rfl | later := mem
    · simp [answered x before]
    · simp
    · simp [behind x later]
  simpa [Device.serving] using unserved

/-- While a request's turn has come, the settings store writes nothing: a STORE is served until its write ends (R195). -/
theorem ServeLaw.storeWrite_eq_none {d : Device} {f : Frame} (law : ServeLaw d) (turn : d.nextRequest = some f) :
    d.link.storeWrite = none := by
  have idle := law.serving_eq_none turn
  obtain ⟨-, -, -, writeServed⟩ := law
  rw [idle] at writeServed
  exact Option.not_isSome_iff_eq_none.mp fun writing => Bool.false_ne_true (writeServed writing)

/-- Settles O11: RESTART's bar is the first of the seven cases, tested in their order, and a request in turn leaves no
STORE to be served. -/
theorem restartRefusedInFlight : Obligations.RestartRefusedInFlight := by
  intro tag s turn
  have refused {case : Nat} (bar : s.dev.restartBar = some case) := exec_restart_of_restartBar turn bar
  refine ⟨fun c1 => refused ?_, fun n1 c2 => refused ?_, fun n1 n2 c3 => refused ?_, fun n1 n2 n3 c4 => refused ?_,
    fun n1 n2 n3 n4 c5 => refused ?_, fun n1 n2 n3 n4 n5 c6 => refused ?_, fun n1 n2 n3 n4 n5 n6 c7 => refused ?_,
    fun law => law.storeWrite_eq_none turn.nextRequest⟩
  · rw [Device.restartBar, if_pos c1]
  · rw [Device.restartBar, if_neg n1, if_pos c2]
  · rw [Device.restartBar, if_neg n1, if_neg n2, if_pos c3]
  · rw [Device.restartBar, if_neg n1, if_neg n2, if_neg n3, if_pos c4]
  · rw [Device.restartBar, if_neg n1, if_neg n2, if_neg n3, if_neg n4, if_pos c5]
  · rw [Device.restartBar, if_neg n1, if_neg n2, if_neg n3, if_neg n4, if_neg n5, if_pos c6]
  · rw [Device.restartBar, if_neg n1, if_neg n2, if_neg n3, if_neg n4, if_neg n5, if_neg n6, if_pos c7]

end Sys2Proof.Machine
end

section
/-! SUPPORT. What each composite operation leaves unchanged: one lemma per operation, which names the blocks it does not
touch. The link port's operations, the fill decision, the arbiter, the shift, the attempt and the die carriage unit's
operations each have their lemma here, so that no later proof unfolds one of them to find that. -/

namespace Sys2Proof.Machine

/-! The spreader unit. -/

@[simp] theorem Device.fill_frame (d : Device) :
    d.fill.time = d.time ∧ d.fill.tables = d.tables ∧ d.fill.stored = d.stored ∧ d.fill.track = d.track
      ∧ d.fill.pace = d.pace ∧ d.fill.climate = d.climate ∧ d.fill.die = d.die ∧ d.fill.gauge = d.gauge
      ∧ d.fill.log = d.log ∧ d.fill.link = d.link ∧ d.fill.counts = d.counts ∧ d.fill.mail = d.mail := by
  obtain h | ⟨-, -, -, ⟨i, -, -, -, h⟩ | ⟨-, -, h⟩⟩ := d.fill_cases <;> rw [h] <;> simp

@[simp] theorem Device.fillIf_frame (rose : Bool) (d : Device) :
    (d.fillIf rose).time = d.time ∧ (d.fillIf rose).tables = d.tables ∧ (d.fillIf rose).stored = d.stored
      ∧ (d.fillIf rose).track = d.track ∧ (d.fillIf rose).pace = d.pace ∧ (d.fillIf rose).climate = d.climate
      ∧ (d.fillIf rose).die = d.die ∧ (d.fillIf rose).gauge = d.gauge ∧ (d.fillIf rose).log = d.log
      ∧ (d.fillIf rose).link = d.link ∧ (d.fillIf rose).counts = d.counts ∧ (d.fillIf rose).mail = d.mail := by
  cases rose <;> simp [Device.fillIf]

@[simp] theorem Device.clearHold_frame (d : Device) :
    d.clearHold.time = d.time ∧ d.clearHold.tables = d.tables ∧ d.clearHold.stored = d.stored
      ∧ d.clearHold.track = d.track ∧ d.clearHold.pace = d.pace ∧ d.clearHold.climate = d.climate
      ∧ d.clearHold.die = d.die ∧ d.clearHold.gauge = d.gauge ∧ d.clearHold.log = d.log ∧ d.clearHold.link = d.link
      ∧ d.clearHold.counts = d.counts ∧ d.clearHold.mail = d.mail := by
  obtain ⟨-, h⟩ | ⟨-, h⟩ := d.clearHold_cases <;> rw [h] <;> simp

/-! The accumulator unit. -/

theorem Device.grant_frame {d e : Device} (h : d.grant = some e) :
    e.time = d.time ∧ e.tables = d.tables ∧ e.stored = d.stored ∧ e.track = d.track ∧ e.pace = d.pace
      ∧ e.climate = d.climate ∧ e.die = d.die ∧ e.spread = d.spread ∧ e.gauge = d.gauge ∧ e.log = d.log
      ∧ e.link = d.link ∧ e.counts = d.counts ∧ e.mail = d.mail := by
  obtain ⟨-, -, l, c, r, rest, choice, -, rfl⟩ := Device.grant_some h
  obtain ⟨rfl, -⟩ | ⟨-, rfl⟩ | ⟨-, rfl⟩ := Device.chooseLane_cases choice <;>
    simp [Device.charge, Device.refill]

@[simp] theorem Device.accEnd_frame (freed : Bool) (d : Device) :
    (d.accEnd freed).time = d.time ∧ (d.accEnd freed).tables = d.tables ∧ (d.accEnd freed).stored = d.stored
      ∧ (d.accEnd freed).track = d.track ∧ (d.accEnd freed).pace = d.pace ∧ (d.accEnd freed).climate = d.climate
      ∧ (d.accEnd freed).die = d.die ∧ (d.accEnd freed).spread = d.spread ∧ (d.accEnd freed).gauge = d.gauge
      ∧ (d.accEnd freed).log = d.log ∧ (d.accEnd freed).link = d.link ∧ (d.accEnd freed).counts = d.counts := by
  obtain ⟨e, grant, h⟩ | ⟨-, h⟩ := d.accEnd_cases freed
  · rw [h]; simp [Device.grant_frame grant]
  · rw [h]; cases freed <;> simp

@[simp] theorem Device.returnRod_frame (c : Context) (d : Device) :
    (d.returnRod c).time = d.time ∧ (d.returnRod c).tables = d.tables ∧ (d.returnRod c).stored = d.stored
      ∧ (d.returnRod c).pace = d.pace ∧ (d.returnRod c).climate = d.climate ∧ (d.returnRod c).die = d.die
      ∧ (d.returnRod c).gauge = d.gauge ∧ (d.returnRod c).log = d.log ∧ (d.returnRod c).link = d.link
      ∧ (d.returnRod c).counts = d.counts := by
  obtain ⟨-, -, h⟩ | ⟨-, h⟩ := d.returnRod_cases c <;> rw [h] <;> simp

@[simp] theorem Device.releaseReservation_frame (l : Option Nat) (d : Device) :
    (d.releaseReservation l).time = d.time ∧ (d.releaseReservation l).tables = d.tables
      ∧ (d.releaseReservation l).stored = d.stored ∧ (d.releaseReservation l).track = d.track
      ∧ (d.releaseReservation l).pace = d.pace ∧ (d.releaseReservation l).climate = d.climate
      ∧ (d.releaseReservation l).die = d.die ∧ (d.releaseReservation l).spread = d.spread
      ∧ (d.releaseReservation l).gauge = d.gauge ∧ (d.releaseReservation l).log = d.log
      ∧ (d.releaseReservation l).link = d.link ∧ (d.releaseReservation l).counts = d.counts
      ∧ (d.releaseReservation l).mail = d.mail ∧ (d.releaseReservation l).bus = d.bus := by
  cases l <;> simp [Device.releaseReservation]

/-! The tunnel track. -/

@[simp] theorem Device.inventoryAdd_frame (n : Nat) (d : Device) :
    (d.inventoryAdd n).time = d.time ∧ (d.inventoryAdd n).tables = d.tables ∧ (d.inventoryAdd n).stored = d.stored
      ∧ (d.inventoryAdd n).pace = d.pace ∧ (d.inventoryAdd n).climate = d.climate ∧ (d.inventoryAdd n).die = d.die
      ∧ (d.inventoryAdd n).spread = d.spread ∧ (d.inventoryAdd n).acc = d.acc ∧ (d.inventoryAdd n).gauge = d.gauge
      ∧ (d.inventoryAdd n).log = d.log ∧ (d.inventoryAdd n).link = d.link ∧ (d.inventoryAdd n).counts = d.counts
      ∧ (d.inventoryAdd n).mail = d.mail ∧ (d.inventoryAdd n).bus = d.bus := by
  rw [Device.inventoryAdd_only]; simp

@[simp] theorem Device.inventorySub_frame (n : Nat) (d : Device) :
    (d.inventorySub n).time = d.time ∧ (d.inventorySub n).tables = d.tables ∧ (d.inventorySub n).stored = d.stored
      ∧ (d.inventorySub n).pace = d.pace ∧ (d.inventorySub n).climate = d.climate ∧ (d.inventorySub n).die = d.die
      ∧ (d.inventorySub n).spread = d.spread ∧ (d.inventorySub n).acc = d.acc ∧ (d.inventorySub n).gauge = d.gauge
      ∧ (d.inventorySub n).log = d.log ∧ (d.inventorySub n).link = d.link ∧ (d.inventorySub n).counts = d.counts
      ∧ (d.inventorySub n).mail = d.mail ∧ (d.inventorySub n).bus = d.bus := by
  rw [Device.inventorySub_only]; simp

@[simp] theorem Device.establish_frame (d : Device) :
    d.establish.time = d.time ∧ d.establish.tables = d.tables ∧ d.establish.stored = d.stored
      ∧ d.establish.pace = d.pace ∧ d.establish.climate = d.climate ∧ d.establish.die = d.die
      ∧ d.establish.spread = d.spread ∧ d.establish.acc = d.acc ∧ d.establish.gauge = d.gauge
      ∧ d.establish.log = d.log ∧ d.establish.mail = d.mail ∧ d.establish.bus = d.bus
      ∧ d.establish.track.positions = d.track.positions ∧ d.establish.track.lastId = d.track.lastId
      ∧ d.establish.track.spill = d.track.spill := by
  obtain h | ⟨-, -, h⟩ := d.establish_cases <;> rw [h] <;> simp

@[simp] theorem Device.unestablish_frame (d : Device) :
    d.unestablish.time = d.time ∧ d.unestablish.tables = d.tables ∧ d.unestablish.stored = d.stored
      ∧ d.unestablish.track = d.track.unestablished
      ∧ d.unestablish.pace = d.pace ∧ d.unestablish.climate = d.climate ∧ d.unestablish.die = d.die
      ∧ d.unestablish.spread = d.spread ∧ d.unestablish.acc = d.acc ∧ d.unestablish.gauge = d.gauge
      ∧ d.unestablish.log = d.log ∧ d.unestablish.mail = d.mail ∧ d.unestablish.bus = d.bus := by
  rw [Device.unestablish_only]; simp

@[simp] theorem Device.closeAll_frame (o : CloseOutcome) (rods : List Rod) (d : Device) :
    (d.closeAll o rods).time = d.time ∧ (d.closeAll o rods).tables = d.tables ∧ (d.closeAll o rods).stored = d.stored
      ∧ (d.closeAll o rods).track = d.track ∧ (d.closeAll o rods).pace = d.pace
      ∧ (d.closeAll o rods).climate = d.climate ∧ (d.closeAll o rods).die = d.die
      ∧ (d.closeAll o rods).spread = d.spread ∧ (d.closeAll o rods).acc = d.acc
      ∧ (d.closeAll o rods).gauge = d.gauge ∧ (d.closeAll o rods).log = d.log ∧ (d.closeAll o rods).mail = d.mail
      ∧ (d.closeAll o rods).bus = d.bus := by
  rw [Device.closeAll_only]; simp

@[simp] theorem Device.dischargeFree_frame (disp : Disposition) (l : Nat) (r : Rod) (d : Device) :
    (d.dischargeFree disp l r).time = d.time ∧ (d.dischargeFree disp l r).tables = d.tables
      ∧ (d.dischargeFree disp l r).stored = d.stored ∧ (d.dischargeFree disp l r).pace = d.pace
      ∧ (d.dischargeFree disp l r).climate = d.climate ∧ (d.dischargeFree disp l r).die = d.die
      ∧ (d.dischargeFree disp l r).spread = d.spread ∧ (d.dischargeFree disp l r).gauge = d.gauge
      ∧ (d.dischargeFree disp l r).log = d.log ∧ (d.dischargeFree disp l r).mail = d.mail
      ∧ (d.dischargeFree disp l r).bus = d.bus := by
  unfold Device.dischargeFree; split <;> simp

@[simp] theorem Device.dischargeUntracked_frame (d : Device) :
    d.dischargeUntracked.time = d.time ∧ d.dischargeUntracked.tables = d.tables
      ∧ d.dischargeUntracked.stored = d.stored ∧ d.dischargeUntracked.pace = d.pace
      ∧ d.dischargeUntracked.climate = d.climate ∧ d.dischargeUntracked.die = d.die
      ∧ d.dischargeUntracked.spread = d.spread ∧ d.dischargeUntracked.gauge = d.gauge
      ∧ d.dischargeUntracked.log = d.log ∧ d.dischargeUntracked.mail = d.mail
      ∧ d.dischargeUntracked.bus = d.bus := by
  simp [Device.dischargeUntracked]

@[simp] theorem Device.reconcile_frame (o : ShiftOrder) (c : Content) (d : Device) :
    (d.reconcile o c).time = d.time ∧ (d.reconcile o c).tables = d.tables ∧ (d.reconcile o c).stored = d.stored
      ∧ (d.reconcile o c).pace = d.pace ∧ (d.reconcile o c).climate = d.climate ∧ (d.reconcile o c).die = d.die
      ∧ (d.reconcile o c).gauge = d.gauge ∧ (d.reconcile o c).log = d.log := by
  cases c with
  | loaded r => simp only [Device.reconcile, Device.reconcileLoaded]; repeat' split
                all_goals simp
  | empty => simp only [Device.reconcile, Device.reconcileEmpty]; split <;> simp
  | gap => simp only [Device.reconcile, Device.reconcileGap]; split <;> simp
  | unknown => simp only [Device.reconcile, Device.reconcileUnknown]; split <;> simp

@[simp] theorem Device.advance_frame (d : Device) :
    d.advance.time = d.time ∧ d.advance.tables = d.tables ∧ d.advance.stored = d.stored
      ∧ d.advance.track = { d.track with
          positions := d.spread.slot.delivery d.tables.zones.length :: d.track.positions.dropLast }
      ∧ d.advance.pace = d.pace ∧ d.advance.climate = d.climate ∧ d.advance.die = d.die
      ∧ d.advance.gauge = d.gauge ∧ d.advance.log = d.log ∧ d.advance.link = d.link ∧ d.advance.mail = d.mail := by
  simp only [Device.advance]; split <;> simp

@[simp] theorem Device.shift_frame (o : ShiftOrder) (d : Device) :
    (d.shift o).time = d.time ∧ (d.shift o).tables = d.tables ∧ (d.shift o).stored = d.stored
      ∧ (d.shift o).pace = d.pace ∧ (d.shift o).climate = d.climate ∧ (d.shift o).die = d.die
      ∧ (d.shift o).gauge = d.gauge ∧ (d.shift o).log = d.log := by
  simp [Device.shift]

@[simp] theorem Device.shiftAndReport_frame (o : ShiftOrder) (late : Bool) (d : Device) :
    (d.shiftAndReport o late).time = d.time ∧ (d.shiftAndReport o late).tables = d.tables
      ∧ (d.shiftAndReport o late).stored = d.stored ∧ (d.shiftAndReport o late).pace = d.pace
      ∧ (d.shiftAndReport o late).climate = d.climate ∧ (d.shiftAndReport o late).die = d.die
      ∧ (d.shiftAndReport o late).gauge = d.gauge ∧ (d.shiftAndReport o late).log = d.log := by
  simp [Device.shiftAndReport]

@[simp] theorem update_frame (d : Device) :
    (update d).time = d.time ∧ (update d).tables = d.tables ∧ (update d).stored = d.stored ∧ (update d).pace = d.pace
      ∧ (update d).climate = d.climate ∧ (update d).die = d.die ∧ (update d).spread = d.spread ∧ (update d).acc = d.acc
      ∧ (update d).gauge = d.gauge ∧ (update d).log = d.log ∧ (update d).link = d.link ∧ (update d).counts = d.counts
      ∧ (update d).bus = d.bus := by
  rw [update_only]; simp

@[simp] theorem exitCheck_frame (d : Device) :
    (exitCheck d).time = d.time ∧ (exitCheck d).tables = d.tables ∧ (exitCheck d).stored = d.stored
      ∧ (exitCheck d).pace = d.pace ∧ (exitCheck d).climate = d.climate ∧ (exitCheck d).die = d.die
      ∧ (exitCheck d).spread = d.spread ∧ (exitCheck d).acc = d.acc ∧ (exitCheck d).gauge = d.gauge
      ∧ (exitCheck d).log = d.log ∧ (exitCheck d).link = d.link ∧ (exitCheck d).counts = d.counts
      ∧ (exitCheck d).bus = d.bus := by
  obtain h | ⟨r, -, -, -, h⟩ := exitCheck_cases d <;> rw [h] <;> simp

/-! The pacing unit. -/

@[simp] theorem Device.stopLine_frame (cause : StopCause) (d : Device) :
    (d.stopLine cause).time = d.time ∧ (d.stopLine cause).tables = d.tables ∧ (d.stopLine cause).stored = d.stored
      ∧ (d.stopLine cause).track = d.track ∧ (d.stopLine cause).climate = d.climate ∧ (d.stopLine cause).die = d.die
      ∧ (d.stopLine cause).spread = d.spread ∧ (d.stopLine cause).acc = d.acc ∧ (d.stopLine cause).gauge = d.gauge
      ∧ (d.stopLine cause).log = d.log ∧ (d.stopLine cause).mail = d.mail ∧ (d.stopLine cause).bus = d.bus := by
  simp only [Device.stopLine]; split <;> simp

@[simp] theorem Device.reserveAndMove_frame (kind : MoveKind) (d : Device) :
    (d.reserveAndMove kind).1.time = d.time ∧ (d.reserveAndMove kind).1.tables = d.tables
      ∧ (d.reserveAndMove kind).1.stored = d.stored ∧ (d.reserveAndMove kind).1.track = d.track
      ∧ (d.reserveAndMove kind).1.climate = d.climate ∧ (d.reserveAndMove kind).1.die = d.die
      ∧ (d.reserveAndMove kind).1.spread = d.spread ∧ (d.reserveAndMove kind).1.gauge = d.gauge
      ∧ (d.reserveAndMove kind).1.log = d.log ∧ (d.reserveAndMove kind).1.link = d.link
      ∧ (d.reserveAndMove kind).1.mail = d.mail := by
  obtain ⟨r, l, -, -, -, h⟩ | ⟨r, -, -, h⟩ | ⟨-, h⟩ := d.reserveAndMove_cases kind <;> rw [h] <;> simp

@[simp] theorem Device.attempt_frame (kind : MoveKind) (d : Device) :
    (d.attempt kind).1.time = d.time ∧ (d.attempt kind).1.tables = d.tables ∧ (d.attempt kind).1.stored = d.stored
      ∧ (d.attempt kind).1.climate = d.climate ∧ (d.attempt kind).1.die = d.die ∧ (d.attempt kind).1.gauge = d.gauge
      ∧ (d.attempt kind).1.log = d.log ∧ (d.attempt kind).1.link = d.link := by
  obtain ⟨-, h⟩ | ⟨-, h⟩ := d.attempt_cases kind <;> rw [h] <;> simp

@[simp] theorem Device.deferPace_frame (reason : DeferralReason) (d : Device) :
    (d.deferPace reason).time = d.time ∧ (d.deferPace reason).tables = d.tables
      ∧ (d.deferPace reason).stored = d.stored ∧ (d.deferPace reason).track = d.track
      ∧ (d.deferPace reason).climate = d.climate ∧ (d.deferPace reason).die = d.die
      ∧ (d.deferPace reason).spread = d.spread ∧ (d.deferPace reason).acc = d.acc
      ∧ (d.deferPace reason).gauge = d.gauge ∧ (d.deferPace reason).log = d.log
      ∧ (d.deferPace reason).link = d.link ∧ (d.deferPace reason).mail = d.mail
      ∧ (d.deferPace reason).bus = d.bus := by
  simp [Device.deferPace]

/-- A PACED attempt starts its move, or defers, with the chain hold cleared if it had set it (R72 to R74, R138). -/
theorem Device.pacedAttempt_cases (d : Device) :
    ((d.attempt .paced).2 = .started ∧ d.pacedAttempt = (d.attempt .paced).1)
      ∨ ((d.attempt .paced).2 = .ended .loadInFlight ∧ d.pacedAttempt = (d.attempt .paced).1.deferPace .loadInFlight)
      ∨ ((d.attempt .paced).2 = .ended .laneFull
        ∧ d.pacedAttempt = ((d.attempt .paced).1.deferPace .laneFull).clearHold) := by
  unfold Device.pacedAttempt
  split <;> rename_i h <;> simp [h]

@[simp] theorem Device.pacedAttempt_frame (d : Device) :
    d.pacedAttempt.time = d.time ∧ d.pacedAttempt.tables = d.tables ∧ d.pacedAttempt.stored = d.stored
      ∧ d.pacedAttempt.climate = d.climate ∧ d.pacedAttempt.die = d.die ∧ d.pacedAttempt.gauge = d.gauge
      ∧ d.pacedAttempt.log = d.log ∧ d.pacedAttempt.link = d.link := by
  obtain ⟨-, h⟩ | ⟨-, h⟩ | ⟨-, h⟩ := d.pacedAttempt_cases <;> rw [h] <;> simp

@[simp] theorem Device.loseDue_frame (d : Device) :
    d.loseDue.time = d.time ∧ d.loseDue.tables = d.tables ∧ d.loseDue.stored = d.stored ∧ d.loseDue.track = d.track
      ∧ d.loseDue.pace = d.pace ∧ d.loseDue.climate = d.climate ∧ d.loseDue.die = d.die
      ∧ d.loseDue.spread = d.spread ∧ d.loseDue.acc = d.acc ∧ d.loseDue.gauge = d.gauge ∧ d.loseDue.log = d.log
      ∧ d.loseDue.link = d.link ∧ d.loseDue.bus = d.bus := by
  simp [Device.loseDue]

@[simp] theorem Device.due_frame (d : Device) :
    d.due.time = d.time ∧ d.due.tables = d.tables ∧ d.due.stored = d.stored ∧ d.due.climate = d.climate
      ∧ d.due.die = d.die ∧ d.due.gauge = d.gauge ∧ d.due.log = d.log ∧ d.due.link = d.link := by
  obtain ⟨-, h⟩ | ⟨-, -, h⟩ | ⟨-, h⟩ | ⟨-, h⟩ := d.due_cases <;> rw [h] <;> simp

@[simp] theorem Device.bringIntoForce_frame (d : Device) :
    d.bringIntoForce.time = d.time ∧ d.bringIntoForce.tables = d.tables ∧ d.bringIntoForce.stored = d.stored
      ∧ d.bringIntoForce.track = d.track ∧ d.bringIntoForce.climate = d.climate ∧ d.bringIntoForce.die = d.die
      ∧ d.bringIntoForce.spread = d.spread ∧ d.bringIntoForce.acc = d.acc ∧ d.bringIntoForce.gauge = d.gauge
      ∧ d.bringIntoForce.log = d.log ∧ d.bringIntoForce.link = d.link ∧ d.bringIntoForce.counts = d.counts
      ∧ d.bringIntoForce.mail = d.mail ∧ d.bringIntoForce.bus = d.bus := by
  simp [Device.bringIntoForce]

@[simp] theorem Device.startInterval_frame (d : Device) :
    d.startInterval.time = d.time ∧ d.startInterval.tables = d.tables ∧ d.startInterval.stored = d.stored
      ∧ d.startInterval.track = d.track ∧ d.startInterval.climate = d.climate ∧ d.startInterval.die = d.die
      ∧ d.startInterval.spread = d.spread ∧ d.startInterval.acc = d.acc ∧ d.startInterval.gauge = d.gauge
      ∧ d.startInterval.log = d.log ∧ d.startInterval.link = d.link ∧ d.startInterval.counts = d.counts
      ∧ d.startInterval.mail = d.mail ∧ d.startInterval.bus = d.bus := by
  simp [Device.startInterval]

@[simp] theorem Device.clearReference_frame (d : Device) :
    d.clearReference.time = d.time ∧ d.clearReference.tables = d.tables ∧ d.clearReference.stored = d.stored
      ∧ d.clearReference.track = d.track ∧ d.clearReference.climate = d.climate ∧ d.clearReference.die = d.die
      ∧ d.clearReference.spread = d.spread ∧ d.clearReference.acc = d.acc ∧ d.clearReference.gauge = d.gauge
      ∧ d.clearReference.log = d.log ∧ d.clearReference.link = d.link ∧ d.clearReference.counts = d.counts
      ∧ d.clearReference.mail = d.mail ∧ d.clearReference.bus = d.bus := by
  simp [Device.clearReference]

@[simp] theorem Device.nextInterval_frame (d : Device) :
    d.nextInterval.time = d.time ∧ d.nextInterval.tables = d.tables ∧ d.nextInterval.stored = d.stored
      ∧ d.nextInterval.track = d.track ∧ d.nextInterval.climate = d.climate ∧ d.nextInterval.die = d.die
      ∧ d.nextInterval.spread = d.spread ∧ d.nextInterval.acc = d.acc ∧ d.nextInterval.gauge = d.gauge
      ∧ d.nextInterval.log = d.log ∧ d.nextInterval.link = d.link ∧ d.nextInterval.counts = d.counts
      ∧ d.nextInterval.mail = d.mail ∧ d.nextInterval.bus = d.bus := by
  simp only [Device.nextInterval]; split <;> simp

@[simp] theorem Device.proceed_frame (d : Device) :
    d.proceed.time = d.time ∧ d.proceed.tables = d.tables ∧ d.proceed.stored = d.stored
      ∧ d.proceed.climate = d.climate ∧ d.proceed.die = d.die ∧ d.proceed.gauge = d.gauge ∧ d.proceed.log = d.log
      ∧ d.proceed.link = d.link := by
  simp only [Device.proceed]; split <;> simp

@[simp] theorem Device.moveDone_frame (n : Nat) (seen : Sighting) (d : Device) :
    (d.moveDone n seen).time = d.time ∧ (d.moveDone n seen).tables = d.tables
      ∧ (d.moveDone n seen).stored = d.stored ∧ (d.moveDone n seen).climate = d.climate
      ∧ (d.moveDone n seen).die = d.die ∧ (d.moveDone n seen).gauge = d.gauge ∧ (d.moveDone n seen).log = d.log := by
  simp only [Device.moveDone, Device.lateDone, Device.ignoreDone]; repeat' split
  all_goals simp

@[simp] theorem Device.notMoved_frame (m : Move) (d : Device) :
    (d.notMoved m).time = d.time ∧ (d.notMoved m).tables = d.tables ∧ (d.notMoved m).stored = d.stored
      ∧ (d.notMoved m).climate = d.climate ∧ (d.notMoved m).die = d.die ∧ (d.notMoved m).gauge = d.gauge
      ∧ (d.notMoved m).log = d.log := by
  simp [Device.notMoved]

end Sys2Proof.Machine
end

section
/-! SUPPORT. What each operation of the die carriage, zone, spreader, gauge and accumulator units, of the fault log and of the
link port leaves unchanged, one lemma per operation as for the shared ones. -/

namespace Sys2Proof.Machine

/-! The die carriage unit. -/

@[simp] theorem Device.startPressLimit_frame (d : Device) :
    d.startPressLimit.time = d.time ∧ d.startPressLimit.tables = d.tables ∧ d.startPressLimit.stored = d.stored
      ∧ d.startPressLimit.track = d.track ∧ d.startPressLimit.pace = d.pace ∧ d.startPressLimit.climate = d.climate
      ∧ d.startPressLimit.die = { d.die with pressTimer := some ⟨d.time, 10000⟩ }
      ∧ d.startPressLimit.spread = d.spread ∧ d.startPressLimit.acc = d.acc ∧ d.startPressLimit.gauge = d.gauge
      ∧ d.startPressLimit.log = d.log ∧ d.startPressLimit.link = d.link ∧ d.startPressLimit.counts = d.counts
      ∧ d.startPressLimit.mail = d.mail ∧ d.startPressLimit.bus = d.bus := by
  simp [Device.startPressLimit, Device.timer, pressLimit]

@[simp] theorem Device.stopPressLimit_frame (d : Device) :
    d.stopPressLimit.time = d.time ∧ d.stopPressLimit.tables = d.tables ∧ d.stopPressLimit.stored = d.stored
      ∧ d.stopPressLimit.track = d.track ∧ d.stopPressLimit.pace = d.pace ∧ d.stopPressLimit.climate = d.climate
      ∧ d.stopPressLimit.die = { d.die with pressTimer := none }
      ∧ d.stopPressLimit.spread = d.spread ∧ d.stopPressLimit.acc = d.acc ∧ d.stopPressLimit.gauge = d.gauge
      ∧ d.stopPressLimit.log = d.log ∧ d.stopPressLimit.link = d.link ∧ d.stopPressLimit.counts = d.counts
      ∧ d.stopPressLimit.mail = d.mail ∧ d.stopPressLimit.bus = d.bus := by
  simp [Device.stopPressLimit]

@[simp] theorem Device.setPress_frame (p : PressState) (d : Device) :
    (d.setPress p).time = d.time ∧ (d.setPress p).tables = d.tables ∧ (d.setPress p).stored = d.stored
      ∧ (d.setPress p).track = d.track ∧ (d.setPress p).pace = d.pace ∧ (d.setPress p).climate = d.climate
      ∧ (d.setPress p).die = { d.die with press := p } ∧ (d.setPress p).gauge = d.gauge ∧ (d.setPress p).log = d.log
      ∧ (d.setPress p).mail = d.mail := by
  obtain ⟨rfl, h⟩ | ⟨-, -, h⟩ | ⟨-, -, h⟩ := d.setPress_cases p <;> rw [h] <;> simp

/-- Only RUNNING makes a fill decision (R137), so any other state of the press leaves the slot and the stores alone. -/
theorem Device.setPress_frame_of_ne {p : PressState} (d : Device) (hp : p ≠ .running) :
    (d.setPress p).spread = d.spread ∧ (d.setPress p).acc = d.acc ∧ (d.setPress p).bus = d.bus := by
  obtain ⟨-, h⟩ | ⟨-, -, h⟩ | ⟨-, hr, -⟩ := d.setPress_cases p
  · rw [h]; simp
  · rw [h]; simp
  · exact absurd hr hp

@[simp] theorem Device.stopPress_frame (d : Device) :
    d.stopPress.time = d.time ∧ d.stopPress.tables = d.tables ∧ d.stopPress.stored = d.stored
      ∧ d.stopPress.track = d.track ∧ d.stopPress.pace = d.pace ∧ d.stopPress.climate = d.climate
      ∧ d.stopPress.spread = d.spread ∧ d.stopPress.acc = d.acc ∧ d.stopPress.gauge = d.gauge
      ∧ d.stopPress.log = d.log ∧ d.stopPress.mail = d.mail := by
  obtain ⟨-, h⟩ | ⟨-, h⟩ := d.stopPress_cases <;> rw [h] <;> simp [Device.setPress_frame_of_ne]

@[simp] theorem Device.pressFault_frame (d : Device) :
    d.pressFault.time = d.time ∧ d.pressFault.tables = d.tables ∧ d.pressFault.stored = d.stored
      ∧ d.pressFault.track = d.track ∧ d.pressFault.pace = d.pace ∧ d.pressFault.climate = d.climate
      ∧ d.pressFault.die = { d.die with press := .stopped, pressTimer := none }
      ∧ d.pressFault.spread = d.spread ∧ d.pressFault.acc = d.acc ∧ d.pressFault.gauge = d.gauge
      ∧ d.pressFault.log = d.log ∧ d.pressFault.bus = d.bus := by
  simp [Device.pressFault, Device.setPress_frame_of_ne]

@[simp] theorem Device.leaveActive_frame (d : Device) :
    d.leaveActive.time = d.time ∧ d.leaveActive.tables = d.tables ∧ d.leaveActive.stored = d.stored
      ∧ d.leaveActive.track = d.track ∧ d.leaveActive.pace = d.pace ∧ d.leaveActive.climate = d.climate
      ∧ d.leaveActive.spread = d.spread ∧ d.leaveActive.acc = d.acc ∧ d.leaveActive.gauge = d.gauge
      ∧ d.leaveActive.log = d.log ∧ d.leaveActive.mail = d.mail := by
  simp [Device.leaveActive]

@[simp] theorem Device.reportWear_frame (side : Side) (d : Device) :
    (d.reportWear side).time = d.time ∧ (d.reportWear side).tables = d.tables ∧ (d.reportWear side).stored = d.stored
      ∧ (d.reportWear side).track = d.track ∧ (d.reportWear side).pace = d.pace
      ∧ (d.reportWear side).climate = d.climate ∧ (d.reportWear side).spread = d.spread
      ∧ (d.reportWear side).acc = d.acc ∧ (d.reportWear side).gauge = d.gauge ∧ (d.reportWear side).log = d.log
      ∧ (d.reportWear side).link = d.link ∧ (d.reportWear side).counts = d.counts
      ∧ (d.reportWear side).bus = d.bus := by
  unfold Device.reportWear; repeat' split
  all_goals simp

@[simp] theorem Device.newBatch_frame (format : Nat) (d : Device) :
    (d.newBatch format).time = d.time ∧ (d.newBatch format).tables = d.tables ∧ (d.newBatch format).stored = d.stored
      ∧ (d.newBatch format).track = d.track ∧ (d.newBatch format).pace = d.pace
      ∧ (d.newBatch format).climate = d.climate ∧ (d.newBatch format).die = d.die ∧ (d.newBatch format).acc = d.acc
      ∧ (d.newBatch format).gauge = d.gauge ∧ (d.newBatch format).log = d.log ∧ (d.newBatch format).link = d.link
      ∧ (d.newBatch format).counts = d.counts ∧ (d.newBatch format).mail = d.mail
      ∧ (d.newBatch format).bus = d.bus ∧ (d.newBatch format).spread.slot = d.spread.slot
      ∧ (d.newBatch format).spread.load = d.spread.load ∧ (d.newBatch format).spread.hold = d.spread.hold := by
  simp [Device.newBatch]

@[simp] theorem Device.activate_frame (byCarriage : Bool) (side : Side) (d : Device) :
    (d.activate byCarriage side).time = d.time ∧ (d.activate byCarriage side).tables = d.tables
      ∧ (d.activate byCarriage side).stored = d.stored ∧ (d.activate byCarriage side).track = d.track
      ∧ (d.activate byCarriage side).pace = d.pace ∧ (d.activate byCarriage side).climate = d.climate
      ∧ (d.activate byCarriage side).gauge = d.gauge ∧ (d.activate byCarriage side).log = d.log
      ∧ (d.activate byCarriage side).link = d.link ∧ (d.activate byCarriage side).counts = d.counts := by
  simp only [Device.activate]; repeat' split
  all_goals simp

@[simp] theorem Device.reject_frame (side : Side) (reason : RejectReason) (d : Device) :
    (d.reject side reason).time = d.time ∧ (d.reject side reason).tables = d.tables
      ∧ (d.reject side reason).stored = d.stored ∧ (d.reject side reason).track = d.track
      ∧ (d.reject side reason).pace = d.pace ∧ (d.reject side reason).climate = d.climate
      ∧ (d.reject side reason).spread = d.spread ∧ (d.reject side reason).acc = d.acc
      ∧ (d.reject side reason).gauge = d.gauge ∧ (d.reject side reason).log = d.log
      ∧ (d.reject side reason).link = d.link ∧ (d.reject side reason).counts = d.counts
      ∧ (d.reject side reason).bus = d.bus := by
  simp [Device.reject]

@[simp] theorem Device.readRecord_frame (side : Side) (bytes : List Byte) (d : Device) :
    (d.readRecord side bytes).time = d.time ∧ (d.readRecord side bytes).tables = d.tables
      ∧ (d.readRecord side bytes).stored = d.stored ∧ (d.readRecord side bytes).track = d.track
      ∧ (d.readRecord side bytes).pace = d.pace ∧ (d.readRecord side bytes).climate = d.climate
      ∧ (d.readRecord side bytes).gauge = d.gauge ∧ (d.readRecord side bytes).log = d.log
      ∧ (d.readRecord side bytes).link = d.link ∧ (d.readRecord side bytes).counts = d.counts := by
  unfold Device.readRecord; repeat' split
  all_goals simp

@[simp] theorem Device.memoryReadReply_frame (side : Side) (n : Nat) (bytes : Option (List Byte)) (d : Device) :
    (d.memoryReadReply side n bytes).time = d.time ∧ (d.memoryReadReply side n bytes).tables = d.tables
      ∧ (d.memoryReadReply side n bytes).stored = d.stored ∧ (d.memoryReadReply side n bytes).track = d.track
      ∧ (d.memoryReadReply side n bytes).pace = d.pace ∧ (d.memoryReadReply side n bytes).climate = d.climate
      ∧ (d.memoryReadReply side n bytes).gauge = d.gauge ∧ (d.memoryReadReply side n bytes).log = d.log
      ∧ (d.memoryReadReply side n bytes).link = d.link ∧ (d.memoryReadReply side n bytes).counts = d.counts := by
  unfold Device.memoryReadReply; repeat' split
  all_goals simp

@[simp] theorem Device.writeLost_frame (side : Side) (d : Device) :
    (d.writeLost side).time = d.time ∧ (d.writeLost side).tables = d.tables ∧ (d.writeLost side).stored = d.stored
      ∧ (d.writeLost side).track = d.track ∧ (d.writeLost side).pace = d.pace
      ∧ (d.writeLost side).climate = d.climate ∧ (d.writeLost side).spread = d.spread
      ∧ (d.writeLost side).acc = d.acc ∧ (d.writeLost side).gauge = d.gauge ∧ (d.writeLost side).log = d.log
      ∧ (d.writeLost side).link = d.link ∧ (d.writeLost side).counts = d.counts
      ∧ (d.writeLost side).bus = d.bus := by
  simp [Device.writeLost]

@[simp] theorem Device.memoryWriteReply_frame (side : Side) (n : Nat) (ok : Bool) (d : Device) :
    (d.memoryWriteReply side n ok).time = d.time ∧ (d.memoryWriteReply side n ok).tables = d.tables
      ∧ (d.memoryWriteReply side n ok).stored = d.stored ∧ (d.memoryWriteReply side n ok).track = d.track
      ∧ (d.memoryWriteReply side n ok).pace = d.pace ∧ (d.memoryWriteReply side n ok).climate = d.climate
      ∧ (d.memoryWriteReply side n ok).spread = d.spread ∧ (d.memoryWriteReply side n ok).acc = d.acc
      ∧ (d.memoryWriteReply side n ok).gauge = d.gauge ∧ (d.memoryWriteReply side n ok).log = d.log
      ∧ (d.memoryWriteReply side n ok).link = d.link := by
  unfold Device.memoryWriteReply; repeat' split
  all_goals simp

@[simp] theorem Device.memoryExpired_frame (side : Side) (d : Device) :
    (d.memoryExpired side).time = d.time ∧ (d.memoryExpired side).tables = d.tables
      ∧ (d.memoryExpired side).stored = d.stored ∧ (d.memoryExpired side).track = d.track
      ∧ (d.memoryExpired side).pace = d.pace ∧ (d.memoryExpired side).climate = d.climate
      ∧ (d.memoryExpired side).spread = d.spread ∧ (d.memoryExpired side).acc = d.acc
      ∧ (d.memoryExpired side).gauge = d.gauge ∧ (d.memoryExpired side).log = d.log
      ∧ (d.memoryExpired side).link = d.link := by
  unfold Device.memoryExpired; split <;> simp

@[simp] theorem Device.surprise_frame (side : Side) (dest : StationState) (d : Device) :
    (d.surprise side dest).time = d.time ∧ (d.surprise side dest).tables = d.tables
      ∧ (d.surprise side dest).stored = d.stored ∧ (d.surprise side dest).track = d.track
      ∧ (d.surprise side dest).pace = d.pace ∧ (d.surprise side dest).climate = d.climate
      ∧ (d.surprise side dest).spread = d.spread ∧ (d.surprise side dest).acc = d.acc
      ∧ (d.surprise side dest).gauge = d.gauge ∧ (d.surprise side dest).log = d.log := by
  simp only [Device.surprise]; repeat' split
  all_goals simp

@[simp] theorem Device.presenceEvent_frame (side : Side) (on : Bool) (d : Device) :
    (d.presenceEvent side on).time = d.time ∧ (d.presenceEvent side on).tables = d.tables
      ∧ (d.presenceEvent side on).stored = d.stored ∧ (d.presenceEvent side on).track = d.track
      ∧ (d.presenceEvent side on).pace = d.pace ∧ (d.presenceEvent side on).climate = d.climate
      ∧ (d.presenceEvent side on).spread = d.spread ∧ (d.presenceEvent side on).acc = d.acc
      ∧ (d.presenceEvent side on).gauge = d.gauge ∧ (d.presenceEvent side on).log = d.log := by
  simp only [Device.presenceEvent]; repeat' split
  all_goals simp

@[simp] theorem Device.debounceExpired_frame (side : Side) (d : Device) :
    (d.debounceExpired side).time = d.time ∧ (d.debounceExpired side).tables = d.tables
      ∧ (d.debounceExpired side).stored = d.stored ∧ (d.debounceExpired side).track = d.track
      ∧ (d.debounceExpired side).pace = d.pace ∧ (d.debounceExpired side).climate = d.climate
      ∧ (d.debounceExpired side).spread = d.spread ∧ (d.debounceExpired side).acc = d.acc
      ∧ (d.debounceExpired side).gauge = d.gauge ∧ (d.debounceExpired side).log = d.log
      ∧ (d.debounceExpired side).link = d.link ∧ (d.debounceExpired side).mail = d.mail := by
  simp only [Device.debounceExpired]; split <;> simp

@[simp] theorem Device.clampEvent_frame (side : Side) (closed : Bool) (d : Device) :
    (d.clampEvent side closed).time = d.time ∧ (d.clampEvent side closed).tables = d.tables
      ∧ (d.clampEvent side closed).stored = d.stored ∧ (d.clampEvent side closed).track = d.track
      ∧ (d.clampEvent side closed).pace = d.pace ∧ (d.clampEvent side closed).climate = d.climate
      ∧ (d.clampEvent side closed).spread = d.spread ∧ (d.clampEvent side closed).acc = d.acc
      ∧ (d.clampEvent side closed).gauge = d.gauge ∧ (d.clampEvent side closed).log = d.log := by
  simp only [Device.clampEvent]; repeat' split
  all_goals simp

@[simp] theorem Device.buttonEvent_frame (side : Side) (d : Device) :
    (d.buttonEvent side).time = d.time ∧ (d.buttonEvent side).tables = d.tables
      ∧ (d.buttonEvent side).stored = d.stored ∧ (d.buttonEvent side).track = d.track
      ∧ (d.buttonEvent side).pace = d.pace ∧ (d.buttonEvent side).climate = d.climate
      ∧ (d.buttonEvent side).spread = d.spread ∧ (d.buttonEvent side).acc = d.acc
      ∧ (d.buttonEvent side).gauge = d.gauge ∧ (d.buttonEvent side).log = d.log
      ∧ (d.buttonEvent side).link = d.link ∧ (d.buttonEvent side).mail = d.mail := by
  unfold Device.buttonEvent; split <;> simp

@[simp] theorem Device.writeBack_frame (side : Side) (d : Device) :
    (d.writeBack side).time = d.time ∧ (d.writeBack side).tables = d.tables ∧ (d.writeBack side).stored = d.stored
      ∧ (d.writeBack side).track = d.track ∧ (d.writeBack side).pace = d.pace
      ∧ (d.writeBack side).climate = d.climate ∧ (d.writeBack side).spread = d.spread
      ∧ (d.writeBack side).acc = d.acc ∧ (d.writeBack side).gauge = d.gauge ∧ (d.writeBack side).log = d.log
      ∧ (d.writeBack side).link = d.link ∧ (d.writeBack side).mail = d.mail := by
  unfold Device.writeBack; repeat' split
  all_goals simp

@[simp] theorem Device.release_frame (side : Side) (d : Device) :
    (d.release side).time = d.time ∧ (d.release side).tables = d.tables ∧ (d.release side).stored = d.stored
      ∧ (d.release side).track = d.track ∧ (d.release side).pace = d.pace ∧ (d.release side).climate = d.climate
      ∧ (d.release side).spread = d.spread ∧ (d.release side).acc = d.acc ∧ (d.release side).gauge = d.gauge
      ∧ (d.release side).log = d.log := by
  simp only [Device.release]; split <;> simp

@[simp] theorem Device.startCarriage_frame (target : Side) (d : Device) :
    (d.startCarriage target).time = d.time ∧ (d.startCarriage target).tables = d.tables
      ∧ (d.startCarriage target).stored = d.stored ∧ (d.startCarriage target).track = d.track
      ∧ (d.startCarriage target).pace = d.pace ∧ (d.startCarriage target).climate = d.climate
      ∧ (d.startCarriage target).spread = d.spread ∧ (d.startCarriage target).acc = d.acc
      ∧ (d.startCarriage target).gauge = d.gauge ∧ (d.startCarriage target).log = d.log
      ∧ (d.startCarriage target).mail = d.mail := by
  simp only [Device.startCarriage]; split <;> simp

@[simp] theorem Device.carriageAt_frame (side : Side) (d : Device) :
    (d.carriageAt side).time = d.time ∧ (d.carriageAt side).tables = d.tables
      ∧ (d.carriageAt side).stored = d.stored ∧ (d.carriageAt side).track = d.track
      ∧ (d.carriageAt side).pace = d.pace ∧ (d.carriageAt side).climate = d.climate
      ∧ (d.carriageAt side).die = { d.die with position := some side, carriage := .idle, carriageTimer := none }
      ∧ (d.carriageAt side).spread = d.spread ∧ (d.carriageAt side).acc = d.acc
      ∧ (d.carriageAt side).gauge = d.gauge ∧ (d.carriageAt side).log = d.log ∧ (d.carriageAt side).link = d.link
      ∧ (d.carriageAt side).counts = d.counts ∧ (d.carriageAt side).mail = d.mail
      ∧ (d.carriageAt side).bus = d.bus := by
  simp [Device.carriageAt]

@[simp] theorem Device.queryFailed_frame (d : Device) :
    d.queryFailed.time = d.time ∧ d.queryFailed.tables = d.tables ∧ d.queryFailed.stored = d.stored
      ∧ d.queryFailed.track = d.track ∧ d.queryFailed.pace = d.pace ∧ d.queryFailed.climate = d.climate
      ∧ d.queryFailed.die = { d.die with carriage := .idle, carriageTimer := none }
      ∧ d.queryFailed.spread = d.spread ∧ d.queryFailed.acc = d.acc ∧ d.queryFailed.gauge = d.gauge
      ∧ d.queryFailed.log = d.log ∧ d.queryFailed.link = d.link ∧ d.queryFailed.bus = d.bus := by
  simp [Device.queryFailed]

@[simp] theorem Device.carriageLost_frame (d : Device) :
    d.carriageLost.time = d.time ∧ d.carriageLost.tables = d.tables ∧ d.carriageLost.stored = d.stored
      ∧ d.carriageLost.track = d.track ∧ d.carriageLost.pace = d.pace ∧ d.carriageLost.climate = d.climate
      ∧ d.carriageLost.die = { d.die with position := none, carriage := .lost, carriageTimer := none }
      ∧ d.carriageLost.spread = d.spread ∧ d.carriageLost.acc = d.acc ∧ d.carriageLost.gauge = d.gauge
      ∧ d.carriageLost.log = d.log ∧ d.carriageLost.link = d.link ∧ d.carriageLost.bus = d.bus := by
  simp [Device.carriageLost]

@[simp] theorem Device.queryAnswer_frame (station : Option Side) (d : Device) :
    (d.queryAnswer station).time = d.time ∧ (d.queryAnswer station).tables = d.tables
      ∧ (d.queryAnswer station).stored = d.stored ∧ (d.queryAnswer station).track = d.track
      ∧ (d.queryAnswer station).pace = d.pace ∧ (d.queryAnswer station).climate = d.climate
      ∧ (d.queryAnswer station).gauge = d.gauge ∧ (d.queryAnswer station).log = d.log
      ∧ (d.queryAnswer station).link = d.link := by
  obtain ⟨-, h⟩ | ⟨-, -, ⟨side, -, h⟩ | ⟨-, h⟩⟩ := d.queryAnswer_cases station <;> rw [h] <;> simp

@[simp] theorem Device.carriageDone_frame (station : Option Side) (d : Device) :
    (d.carriageDone station).time = d.time ∧ (d.carriageDone station).tables = d.tables
      ∧ (d.carriageDone station).stored = d.stored ∧ (d.carriageDone station).track = d.track
      ∧ (d.carriageDone station).pace = d.pace ∧ (d.carriageDone station).climate = d.climate
      ∧ (d.carriageDone station).gauge = d.gauge ∧ (d.carriageDone station).log = d.log
      ∧ (d.carriageDone station).link = d.link := by
  unfold Device.carriageDone; split <;> simp

@[simp] theorem Device.pressStarted_frame (d : Device) :
    d.pressStarted.time = d.time ∧ d.pressStarted.tables = d.tables ∧ d.pressStarted.stored = d.stored
      ∧ d.pressStarted.track = d.track ∧ d.pressStarted.pace = d.pace ∧ d.pressStarted.climate = d.climate
      ∧ d.pressStarted.gauge = d.gauge ∧ d.pressStarted.log = d.log ∧ d.pressStarted.mail = d.mail := by
  unfold Device.pressStarted; split <;> simp

@[simp] theorem Device.pressHalted_frame (d : Device) :
    d.pressHalted.time = d.time ∧ d.pressHalted.tables = d.tables ∧ d.pressHalted.stored = d.stored
      ∧ d.pressHalted.track = d.track ∧ d.pressHalted.pace = d.pace ∧ d.pressHalted.climate = d.climate
      ∧ d.pressHalted.spread = d.spread ∧ d.pressHalted.acc = d.acc
      ∧ d.pressHalted.gauge = d.gauge ∧ d.pressHalted.log = d.log ∧ d.pressHalted.mail = d.mail := by
  unfold Device.pressHalted; split <;> simp [Device.setPress_frame_of_ne]

@[simp] theorem Device.countWear_frame (d : Device) :
    d.countWear.time = d.time ∧ d.countWear.tables = d.tables ∧ d.countWear.stored = d.stored
      ∧ d.countWear.track = d.track ∧ d.countWear.pace = d.pace ∧ d.countWear.climate = d.climate
      ∧ d.countWear.spread = d.spread ∧ d.countWear.acc = d.acc ∧ d.countWear.gauge = d.gauge
      ∧ d.countWear.log = d.log ∧ d.countWear.link = d.link ∧ d.countWear.counts = d.counts
      ∧ d.countWear.bus = d.bus := by
  unfold Device.countWear; split <;> simp

/-- What an event of the die carriage unit leaves, its notice does too. -/
@[simp] theorem dieEvent_frame (act : Device → Device) (d : Device) :
    (dieEvent act d).time = (act d).time ∧ (dieEvent act d).tables = (act d).tables
      ∧ (dieEvent act d).stored = (act d).stored ∧ (dieEvent act d).track = (act d).track
      ∧ (dieEvent act d).pace = (act d).pace ∧ (dieEvent act d).climate = (act d).climate
      ∧ (dieEvent act d).die = (act d).die ∧ (dieEvent act d).spread = (act d).spread
      ∧ (dieEvent act d).acc = (act d).acc ∧ (dieEvent act d).gauge = (act d).gauge
      ∧ (dieEvent act d).log = (act d).log ∧ (dieEvent act d).mail = (act d).mail
      ∧ (dieEvent act d).bus = (act d).bus := by
  obtain ⟨-, h⟩ | ⟨-, h⟩ := dieEvent_cases act d <;> rw [h] <;> simp

/-! The zone unit. -/

@[simp] theorem Device.recompute_frame (z : Nat) (d : Device) :
    (d.recompute z).time = d.time ∧ (d.recompute z).tables = d.tables ∧ (d.recompute z).stored = d.stored
      ∧ (d.recompute z).track = d.track ∧ (d.recompute z).pace = d.pace ∧ (d.recompute z).die = d.die
      ∧ (d.recompute z).spread = d.spread ∧ (d.recompute z).acc = d.acc ∧ (d.recompute z).gauge = d.gauge
      ∧ (d.recompute z).log = d.log ∧ (d.recompute z).link = d.link ∧ (d.recompute z).counts = d.counts
      ∧ (d.recompute z).mail = d.mail ∧ (d.recompute z).bus = d.bus := by
  simp [Device.recompute]

@[simp] theorem Device.startSettle_frame (z : Nat) (d : Device) :
    (d.startSettle z).time = d.time ∧ (d.startSettle z).tables = d.tables ∧ (d.startSettle z).stored = d.stored
      ∧ (d.startSettle z).track = d.track ∧ (d.startSettle z).pace = d.pace ∧ (d.startSettle z).die = d.die
      ∧ (d.startSettle z).spread = d.spread ∧ (d.startSettle z).acc = d.acc ∧ (d.startSettle z).gauge = d.gauge
      ∧ (d.startSettle z).log = d.log ∧ (d.startSettle z).link = d.link ∧ (d.startSettle z).counts = d.counts
      ∧ (d.startSettle z).mail = d.mail ∧ (d.startSettle z).bus = d.bus := by
  simp [Device.startSettle]

@[simp] theorem Device.setTrim_frame (trim z : Nat) (d : Device) :
    (d.setTrim trim z).time = d.time ∧ (d.setTrim trim z).tables = d.tables ∧ (d.setTrim trim z).stored = d.stored
      ∧ (d.setTrim trim z).track = d.track ∧ (d.setTrim trim z).pace = d.pace ∧ (d.setTrim trim z).die = d.die
      ∧ (d.setTrim trim z).spread = d.spread ∧ (d.setTrim trim z).acc = d.acc ∧ (d.setTrim trim z).gauge = d.gauge
      ∧ (d.setTrim trim z).log = d.log ∧ (d.setTrim trim z).link = d.link ∧ (d.setTrim trim z).counts = d.counts
      ∧ (d.setTrim trim z).mail = d.mail ∧ (d.setTrim trim z).bus = d.bus := by
  simp [Device.setTrim]

/-- A change of a zone index, whatever it is, touches the zones only; so a run of them over a list does. -/
theorem foldl_zones_only {α : Type} {f : Device → α → Device}
    (step : ∀ d a, f d a = { d with climate := { d.climate with zones := (f d a).climate.zones } }) (xs : List α)
    (d : Device) :
    xs.foldl f d = { d with climate := { d.climate with zones := (xs.foldl f d).climate.zones } } := by
  induction xs generalizing d with
  | nil => rfl
  | cons x xs ih => rw [List.foldl_cons, ih (f d x), step d x]

theorem Device.examineZone_only (d : Device) (z : Nat) :
    d.examineZone z = { d with climate := { d.climate with zones := (d.examineZone z).climate.zones } } := by
  unfold Device.examineZone; repeat' split
  all_goals rfl

theorem Device.adoptions_only (d : Device) :
    d.adoptions = { d with climate := { d.climate with zones := d.adoptions.climate.zones } } :=
  foldl_zones_only Device.examineZone_only _ d

theorem takeTally_only (d : Device) (p : (Nat × Nat) × Nat) :
    takeTally d p = { d with climate := { d.climate with zones := (takeTally d p).climate.zones } } := by
  simp only [takeTally]; repeat' split
  all_goals rfl

theorem Device.takeTallies_only (pairs : List (Nat × Nat)) (d : Device) :
    d.takeTallies pairs = { d with climate := { d.climate with zones := (d.takeTallies pairs).climate.zones } } :=
  foldl_zones_only takeTally_only _ d

theorem recomputeFor_only (profile : Nat) (d : Device) (z : Nat) :
    recomputeFor profile d z = { d with climate := { d.climate with zones := (recomputeFor profile d z).climate.zones } } := by
  unfold recomputeFor; split <;> rfl

theorem Device.recomputeProfile_only (profile : Nat) (d : Device) :
    d.recomputeProfile profile =
      { d with climate := { d.climate with zones := (d.recomputeProfile profile).climate.zones } } :=
  foldl_zones_only (recomputeFor_only profile) _ d

theorem Device.acceptZone_only (d : Device) (z : Nat) :
    d.acceptZone z = { d with climate := { d.climate with zones := (d.acceptZone z).climate.zones } } := rfl

theorem relayZone_only (old : List ZoneEntry) (carried : Nat → Bool) (d : Device) (z : Nat) :
    relayZone old carried d z =
      { d with climate := { d.climate with zones := (relayZone old carried d z).climate.zones } } := by
  simp only [relayZone]; repeat' split
  all_goals rfl

theorem Device.setLayout_only (zones : List ZoneEntry) (carried : Nat → Bool) (d : Device) :
    d.setLayout zones carried = { d with
      tables := { d.tables with zones := zones }
      climate := { d.climate with zones := (d.setLayout zones carried).climate.zones } } := by
  simp only [Device.setLayout, Device.runOut]
  rw [foldl_zones_only (relayZone_only d.tables.zones carried)]
  rfl

@[simp] theorem Device.adoptions_frame (d : Device) :
    d.adoptions.time = d.time ∧ d.adoptions.tables = d.tables ∧ d.adoptions.stored = d.stored
      ∧ d.adoptions.track = d.track ∧ d.adoptions.pace = d.pace ∧ d.adoptions.die = d.die
      ∧ d.adoptions.spread = d.spread ∧ d.adoptions.acc = d.acc ∧ d.adoptions.gauge = d.gauge
      ∧ d.adoptions.log = d.log ∧ d.adoptions.link = d.link ∧ d.adoptions.counts = d.counts
      ∧ d.adoptions.mail = d.mail ∧ d.adoptions.bus = d.bus ∧ d.adoptions.climate.round = d.climate.round
      ∧ d.adoptions.climate.exchange = d.climate.exchange
      ∧ d.adoptions.climate.periodicFrom = d.climate.periodicFrom := by
  rw [Device.adoptions_only]; simp

@[simp] theorem Device.takeTallies_frame (pairs : List (Nat × Nat)) (d : Device) :
    (d.takeTallies pairs).time = d.time ∧ (d.takeTallies pairs).tables = d.tables
      ∧ (d.takeTallies pairs).stored = d.stored ∧ (d.takeTallies pairs).track = d.track
      ∧ (d.takeTallies pairs).pace = d.pace ∧ (d.takeTallies pairs).die = d.die
      ∧ (d.takeTallies pairs).spread = d.spread ∧ (d.takeTallies pairs).acc = d.acc
      ∧ (d.takeTallies pairs).gauge = d.gauge ∧ (d.takeTallies pairs).log = d.log
      ∧ (d.takeTallies pairs).link = d.link ∧ (d.takeTallies pairs).counts = d.counts
      ∧ (d.takeTallies pairs).mail = d.mail ∧ (d.takeTallies pairs).bus = d.bus := by
  rw [Device.takeTallies_only]; simp

@[simp] theorem Device.recomputeProfile_frame (p : Nat) (d : Device) :
    (d.recomputeProfile p).time = d.time ∧ (d.recomputeProfile p).tables = d.tables
      ∧ (d.recomputeProfile p).stored = d.stored ∧ (d.recomputeProfile p).track = d.track
      ∧ (d.recomputeProfile p).pace = d.pace ∧ (d.recomputeProfile p).die = d.die
      ∧ (d.recomputeProfile p).spread = d.spread ∧ (d.recomputeProfile p).acc = d.acc
      ∧ (d.recomputeProfile p).gauge = d.gauge ∧ (d.recomputeProfile p).log = d.log
      ∧ (d.recomputeProfile p).link = d.link ∧ (d.recomputeProfile p).counts = d.counts
      ∧ (d.recomputeProfile p).mail = d.mail ∧ (d.recomputeProfile p).bus = d.bus := by
  rw [Device.recomputeProfile_only]; simp

@[simp] theorem Device.setLayout_frame (zones : List ZoneEntry) (carried : Nat → Bool) (d : Device) :
    (d.setLayout zones carried).time = d.time
      ∧ (d.setLayout zones carried).tables = { d.tables with zones := zones }
      ∧ (d.setLayout zones carried).stored = d.stored ∧ (d.setLayout zones carried).track = d.track
      ∧ (d.setLayout zones carried).pace = d.pace ∧ (d.setLayout zones carried).die = d.die
      ∧ (d.setLayout zones carried).spread = d.spread ∧ (d.setLayout zones carried).acc = d.acc
      ∧ (d.setLayout zones carried).gauge = d.gauge ∧ (d.setLayout zones carried).log = d.log
      ∧ (d.setLayout zones carried).link = d.link ∧ (d.setLayout zones carried).counts = d.counts
      ∧ (d.setLayout zones carried).mail = d.mail ∧ (d.setLayout zones carried).bus = d.bus := by
  rw [Device.setLayout_only]; simp

@[simp] theorem zoneAccept_frame (zone : Byte) (d : Device) :
    (zoneAccept zone d).1.time = d.time ∧ (zoneAccept zone d).1.tables = d.tables
      ∧ (zoneAccept zone d).1.stored = d.stored ∧ (zoneAccept zone d).1.track = d.track
      ∧ (zoneAccept zone d).1.pace = d.pace ∧ (zoneAccept zone d).1.die = d.die
      ∧ (zoneAccept zone d).1.spread = d.spread ∧ (zoneAccept zone d).1.acc = d.acc
      ∧ (zoneAccept zone d).1.gauge = d.gauge ∧ (zoneAccept zone d).1.log = d.log
      ∧ (zoneAccept zone d).1.link = d.link ∧ (zoneAccept zone d).1.counts = d.counts
      ∧ (zoneAccept zone d).1.mail = d.mail ∧ (zoneAccept zone d).1.bus = d.bus := by
  unfold zoneAccept; repeat' split
  · rw [foldl_zones_only Device.acceptZone_only]; simp
  · simp [Device.acceptZone]
  · simp

@[simp] theorem Device.sendRead_frame (r : Round) (z : Nat) (results : List ZoneResult) (d : Device) :
    (d.sendRead r z results).time = d.time ∧ (d.sendRead r z results).tables = d.tables
      ∧ (d.sendRead r z results).stored = d.stored ∧ (d.sendRead r z results).track = d.track
      ∧ (d.sendRead r z results).pace = d.pace ∧ (d.sendRead r z results).die = d.die
      ∧ (d.sendRead r z results).spread = d.spread ∧ (d.sendRead r z results).acc = d.acc
      ∧ (d.sendRead r z results).gauge = d.gauge ∧ (d.sendRead r z results).log = d.log
      ∧ (d.sendRead r z results).link = d.link ∧ (d.sendRead r z results).counts = d.counts
      ∧ (d.sendRead r z results).mail = d.mail ∧ (d.sendRead r z results).climate.zones = d.climate.zones := by
  simp [Device.sendRead]

@[simp] theorem Device.startRound_frame (t : Trigger) (d : Device) :
    (d.startRound t).time = d.time ∧ (d.startRound t).tables = d.tables ∧ (d.startRound t).stored = d.stored
      ∧ (d.startRound t).track = d.track ∧ (d.startRound t).pace = d.pace ∧ (d.startRound t).die = d.die
      ∧ (d.startRound t).spread = d.spread ∧ (d.startRound t).acc = d.acc ∧ (d.startRound t).gauge = d.gauge
      ∧ (d.startRound t).log = d.log ∧ (d.startRound t).link = d.link ∧ (d.startRound t).counts = d.counts
      ∧ (d.startRound t).mail = d.mail ∧ (d.startRound t).climate.zones = d.climate.zones := by
  simp [Device.startRound]

@[simp] theorem Device.trigger_frame (t : Trigger) (d : Device) :
    (d.trigger t).time = d.time ∧ (d.trigger t).tables = d.tables ∧ (d.trigger t).stored = d.stored
      ∧ (d.trigger t).track = d.track ∧ (d.trigger t).pace = d.pace ∧ (d.trigger t).die = d.die
      ∧ (d.trigger t).spread = d.spread ∧ (d.trigger t).acc = d.acc ∧ (d.trigger t).gauge = d.gauge
      ∧ (d.trigger t).log = d.log ∧ (d.trigger t).link = d.link ∧ (d.trigger t).mail = d.mail
      ∧ (d.trigger t).climate.zones = d.climate.zones := by
  unfold Device.trigger; split <;> simp

@[simp] theorem Device.endRound_frame (r : Round) (results : List ZoneResult) (d : Device) :
    (d.endRound r results).time = d.time ∧ (d.endRound r results).tables = d.tables
      ∧ (d.endRound r results).stored = d.stored ∧ (d.endRound r results).track = d.track
      ∧ (d.endRound r results).pace = d.pace ∧ (d.endRound r results).die = d.die
      ∧ (d.endRound r results).spread = d.spread ∧ (d.endRound r results).acc = d.acc
      ∧ (d.endRound r results).gauge = d.gauge ∧ (d.endRound r results).log = d.log
      ∧ (d.endRound r results).mail = d.mail ∧ (d.endRound r results).bus = d.bus
      ∧ (d.endRound r results).climate = { d.climate with round := none } := by
  simp [Device.endRound]

@[simp] theorem Device.nextZone_frame (r : Round) (outcome : ReadOutcome) (set : Option Bool) (d : Device) :
    (d.nextZone r outcome set).time = d.time ∧ (d.nextZone r outcome set).tables = d.tables
      ∧ (d.nextZone r outcome set).stored = d.stored ∧ (d.nextZone r outcome set).track = d.track
      ∧ (d.nextZone r outcome set).pace = d.pace ∧ (d.nextZone r outcome set).die = d.die
      ∧ (d.nextZone r outcome set).spread = d.spread ∧ (d.nextZone r outcome set).acc = d.acc
      ∧ (d.nextZone r outcome set).gauge = d.gauge ∧ (d.nextZone r outcome set).log = d.log
      ∧ (d.nextZone r outcome set).mail = d.mail
      ∧ (d.nextZone r outcome set).climate.zones = d.climate.zones := by
  obtain ⟨-, h⟩ | ⟨-, h⟩ := d.nextZone_cases r outcome set <;> rw [h] <;> simp

@[simp] theorem Device.sendSet_frame (r : Round) (outcome : ReadOutcome) (d : Device) :
    (d.sendSet r outcome).time = d.time ∧ (d.sendSet r outcome).tables = d.tables
      ∧ (d.sendSet r outcome).stored = d.stored ∧ (d.sendSet r outcome).track = d.track
      ∧ (d.sendSet r outcome).pace = d.pace ∧ (d.sendSet r outcome).die = d.die
      ∧ (d.sendSet r outcome).spread = d.spread ∧ (d.sendSet r outcome).acc = d.acc
      ∧ (d.sendSet r outcome).gauge = d.gauge ∧ (d.sendSet r outcome).log = d.log
      ∧ (d.sendSet r outcome).link = d.link ∧ (d.sendSet r outcome).counts = d.counts
      ∧ (d.sendSet r outcome).mail = d.mail ∧ (d.sendSet r outcome).climate.zones = d.climate.zones := by
  simp [Device.sendSet]

@[simp] theorem Device.takeOutput_frame (z : Nat) (status : OutputStatus) (d : Device) :
    (d.takeOutput z status).time = d.time ∧ (d.takeOutput z status).tables = d.tables
      ∧ (d.takeOutput z status).stored = d.stored ∧ (d.takeOutput z status).track = d.track
      ∧ (d.takeOutput z status).pace = d.pace ∧ (d.takeOutput z status).die = d.die
      ∧ (d.takeOutput z status).spread = d.spread ∧ (d.takeOutput z status).acc = d.acc
      ∧ (d.takeOutput z status).gauge = d.gauge ∧ (d.takeOutput z status).log = d.log
      ∧ (d.takeOutput z status).link = d.link ∧ (d.takeOutput z status).counts = d.counts
      ∧ (d.takeOutput z status).bus = d.bus
      ∧ (d.takeOutput z status).climate = (d.modifyZone z fun rt => { rt with output := status }).climate := by
  simp only [Device.takeOutput]; split <;> simp

@[simp] theorem Device.tellMonitor_frame (z : Nat) (e : ZoneEntry) (m : Monitor) (t : Transition)
    (reading setpoint band : Nat) (d : Device) :
    (d.tellMonitor z e m t reading setpoint band).time = d.time
      ∧ (d.tellMonitor z e m t reading setpoint band).tables = d.tables
      ∧ (d.tellMonitor z e m t reading setpoint band).stored = d.stored
      ∧ (d.tellMonitor z e m t reading setpoint band).track = d.track
      ∧ (d.tellMonitor z e m t reading setpoint band).pace = d.pace
      ∧ (d.tellMonitor z e m t reading setpoint band).climate = d.climate
      ∧ (d.tellMonitor z e m t reading setpoint band).die = d.die
      ∧ (d.tellMonitor z e m t reading setpoint band).spread = d.spread
      ∧ (d.tellMonitor z e m t reading setpoint band).acc = d.acc
      ∧ (d.tellMonitor z e m t reading setpoint band).gauge = d.gauge
      ∧ (d.tellMonitor z e m t reading setpoint band).log = d.log
      ∧ (d.tellMonitor z e m t reading setpoint band).bus = d.bus := by
  simp only [Device.tellMonitor]; repeat' split
  all_goals simp

@[simp] theorem Device.evaluate_frame (z : Nat) (e : ZoneEntry) (m : Monitor) (reading : Nat) (d : Device) :
    (d.evaluate z e m reading).time = d.time ∧ (d.evaluate z e m reading).tables = d.tables
      ∧ (d.evaluate z e m reading).stored = d.stored ∧ (d.evaluate z e m reading).track = d.track
      ∧ (d.evaluate z e m reading).pace = d.pace ∧ (d.evaluate z e m reading).die = d.die
      ∧ (d.evaluate z e m reading).spread = d.spread ∧ (d.evaluate z e m reading).acc = d.acc
      ∧ (d.evaluate z e m reading).gauge = d.gauge ∧ (d.evaluate z e m reading).log = d.log
      ∧ (d.evaluate z e m reading).bus = d.bus ∧ (d.evaluate z e m reading).climate.round = d.climate.round
      ∧ (d.evaluate z e m reading).climate.exchange = d.climate.exchange
      ∧ (d.evaluate z e m reading).climate.periodicFrom = d.climate.periodicFrom := by
  simp only [Device.evaluate]; repeat' split
  all_goals simp

@[simp] theorem Device.monitors_frame (z temp hum : Nat) (d : Device) :
    (d.monitors z temp hum).time = d.time ∧ (d.monitors z temp hum).tables = d.tables
      ∧ (d.monitors z temp hum).stored = d.stored ∧ (d.monitors z temp hum).track = d.track
      ∧ (d.monitors z temp hum).pace = d.pace ∧ (d.monitors z temp hum).die = d.die
      ∧ (d.monitors z temp hum).spread = d.spread ∧ (d.monitors z temp hum).acc = d.acc
      ∧ (d.monitors z temp hum).gauge = d.gauge ∧ (d.monitors z temp hum).log = d.log
      ∧ (d.monitors z temp hum).bus = d.bus ∧ (d.monitors z temp hum).climate.round = d.climate.round
      ∧ (d.monitors z temp hum).climate.exchange = d.climate.exchange
      ∧ (d.monitors z temp hum).climate.periodicFrom = d.climate.periodicFrom := by
  unfold Device.monitors; repeat' split
  all_goals simp

@[simp] theorem Device.takeReply_frame (z : Nat) (r : ModuleReply) (d : Device) :
    (d.takeReply z r).1.time = d.time ∧ (d.takeReply z r).1.tables = d.tables ∧ (d.takeReply z r).1.stored = d.stored
      ∧ (d.takeReply z r).1.track = d.track ∧ (d.takeReply z r).1.pace = d.pace ∧ (d.takeReply z r).1.die = d.die
      ∧ (d.takeReply z r).1.spread = d.spread ∧ (d.takeReply z r).1.acc = d.acc
      ∧ (d.takeReply z r).1.gauge = d.gauge ∧ (d.takeReply z r).1.log = d.log ∧ (d.takeReply z r).1.bus = d.bus
      ∧ (d.takeReply z r).1.climate.round = d.climate.round
      ∧ (d.takeReply z r).1.climate.exchange = d.climate.exchange
      ∧ (d.takeReply z r).1.climate.periodicFrom = d.climate.periodicFrom := by
  simp only [Device.takeReply, Device.mismatch, Device.settlingReply, Device.takeReading]; repeat' split
  all_goals simp

@[simp] theorem Device.readReply_frame (n : Nat) (r : ModuleReply) (d : Device) :
    (d.readReply n r).time = d.time ∧ (d.readReply n r).tables = d.tables ∧ (d.readReply n r).stored = d.stored
      ∧ (d.readReply n r).track = d.track ∧ (d.readReply n r).pace = d.pace ∧ (d.readReply n r).die = d.die
      ∧ (d.readReply n r).spread = d.spread ∧ (d.readReply n r).acc = d.acc ∧ (d.readReply n r).gauge = d.gauge
      ∧ (d.readReply n r).log = d.log := by
  simp only [Device.readReply]; repeat' split
  all_goals simp

@[simp] theorem Device.miss_frame (z : Nat) (d : Device) :
    (d.miss z).time = d.time ∧ (d.miss z).tables = d.tables ∧ (d.miss z).stored = d.stored
      ∧ (d.miss z).track = d.track ∧ (d.miss z).pace = d.pace ∧ (d.miss z).die = d.die
      ∧ (d.miss z).spread = d.spread ∧ (d.miss z).acc = d.acc ∧ (d.miss z).gauge = d.gauge
      ∧ (d.miss z).log = d.log ∧ (d.miss z).link = d.link ∧ (d.miss z).bus = d.bus := by
  simp only [Device.miss]; split <;> simp

@[simp] theorem Device.readExpired_frame (d : Device) :
    d.readExpired.time = d.time ∧ d.readExpired.tables = d.tables ∧ d.readExpired.stored = d.stored
      ∧ d.readExpired.track = d.track ∧ d.readExpired.pace = d.pace ∧ d.readExpired.die = d.die
      ∧ d.readExpired.spread = d.spread ∧ d.readExpired.acc = d.acc ∧ d.readExpired.gauge = d.gauge
      ∧ d.readExpired.log = d.log := by
  unfold Device.readExpired; split <;> simp

@[simp] theorem Device.endSet_frame (ok : Bool) (d : Device) :
    (d.endSet ok).time = d.time ∧ (d.endSet ok).tables = d.tables ∧ (d.endSet ok).stored = d.stored
      ∧ (d.endSet ok).track = d.track ∧ (d.endSet ok).pace = d.pace ∧ (d.endSet ok).die = d.die
      ∧ (d.endSet ok).spread = d.spread ∧ (d.endSet ok).acc = d.acc ∧ (d.endSet ok).gauge = d.gauge
      ∧ (d.endSet ok).log = d.log ∧ (d.endSet ok).mail = d.mail
      ∧ (d.endSet ok).climate.zones = d.climate.zones := by
  unfold Device.endSet; repeat' split
  all_goals simp

@[simp] theorem Device.setReply_frame (n : Nat) (ok : Bool) (d : Device) :
    (d.setReply n ok).time = d.time ∧ (d.setReply n ok).tables = d.tables ∧ (d.setReply n ok).stored = d.stored
      ∧ (d.setReply n ok).track = d.track ∧ (d.setReply n ok).pace = d.pace ∧ (d.setReply n ok).die = d.die
      ∧ (d.setReply n ok).spread = d.spread ∧ (d.setReply n ok).acc = d.acc ∧ (d.setReply n ok).gauge = d.gauge
      ∧ (d.setReply n ok).log = d.log ∧ (d.setReply n ok).mail = d.mail
      ∧ (d.setReply n ok).climate.zones = d.climate.zones := by
  unfold Device.setReply; repeat' split
  all_goals simp

/-! The gauge unit and the report of a shift. -/

@[simp] theorem Device.examineGauge_frame (d : Device) :
    d.examineGauge.time = d.time ∧ d.examineGauge.tables = d.tables ∧ d.examineGauge.stored = d.stored
      ∧ d.examineGauge.track = d.track ∧ d.examineGauge.pace = d.pace ∧ d.examineGauge.climate = d.climate
      ∧ d.examineGauge.die = d.die ∧ d.examineGauge.spread = d.spread ∧ d.examineGauge.acc = d.acc
      ∧ d.examineGauge.log = d.log ∧ d.examineGauge.link = d.link ∧ d.examineGauge.mail = d.mail
      ∧ d.examineGauge.gauge.factors = d.gauge.factors := by
  unfold Device.examineGauge Device.measure; repeat' split
  all_goals simp

@[simp] theorem Device.advanceTrigger_frame (d : Device) :
    d.advanceTrigger.time = d.time ∧ d.advanceTrigger.tables = d.tables ∧ d.advanceTrigger.stored = d.stored
      ∧ d.advanceTrigger.track = d.track ∧ d.advanceTrigger.pace = d.pace ∧ d.advanceTrigger.die = d.die
      ∧ d.advanceTrigger.spread = d.spread ∧ d.advanceTrigger.acc = d.acc ∧ d.advanceTrigger.gauge = d.gauge
      ∧ d.advanceTrigger.log = d.log ∧ d.advanceTrigger.link = d.link ∧ d.advanceTrigger.mail = d.mail
      ∧ d.advanceTrigger.climate.zones = d.climate.zones := by
  unfold Device.advanceTrigger; split <;> simp

@[simp] theorem Device.shiftReported_frame (late : Bool) (d : Device) :
    (d.shiftReported late).time = d.time ∧ (d.shiftReported late).tables = d.tables
      ∧ (d.shiftReported late).stored = d.stored ∧ (d.shiftReported late).climate = d.climate
      ∧ (d.shiftReported late).die = d.die ∧ (d.shiftReported late).gauge = d.gauge
      ∧ (d.shiftReported late).log = d.log ∧ (d.shiftReported late).link = d.link := by
  unfold Device.shiftReported; repeat' split
  all_goals simp

@[simp] theorem Device.checkBand_frame (band rod : Nat) (deviation : Int) (d : Device) :
    (d.checkBand band rod deviation).time = d.time ∧ (d.checkBand band rod deviation).tables = d.tables
      ∧ (d.checkBand band rod deviation).stored = d.stored ∧ (d.checkBand band rod deviation).track = d.track
      ∧ (d.checkBand band rod deviation).pace = d.pace ∧ (d.checkBand band rod deviation).climate = d.climate
      ∧ (d.checkBand band rod deviation).die = d.die ∧ (d.checkBand band rod deviation).spread = d.spread
      ∧ (d.checkBand band rod deviation).acc = d.acc ∧ (d.checkBand band rod deviation).gauge = d.gauge
      ∧ (d.checkBand band rod deviation).log = d.log ∧ (d.checkBand band rod deviation).link = d.link
      ∧ (d.checkBand band rod deviation).counts = d.counts ∧ (d.checkBand band rod deviation).bus = d.bus := by
  unfold Device.checkBand; split <;> simp

/-- A gauge result touches the records beyond the staged slot, the gauge unit, the counts and the mail only (R169). -/
@[simp] theorem Device.gaugeResult_frame (n rod value : Nat) (d : Device) :
    (d.gaugeResult n rod value).time = d.time ∧ (d.gaugeResult n rod value).tables = d.tables
      ∧ (d.gaugeResult n rod value).stored = d.stored ∧ (d.gaugeResult n rod value).pace = d.pace
      ∧ (d.gaugeResult n rod value).climate = d.climate ∧ (d.gaugeResult n rod value).die = d.die
      ∧ (d.gaugeResult n rod value).spread = d.spread ∧ (d.gaugeResult n rod value).log = d.log
      ∧ (d.gaugeResult n rod value).link = d.link ∧ (d.gaugeResult n rod value).bus = d.bus := by
  simp only [Device.gaugeResult, Device.takeResult, Device.applyResult, Device.lateResult]; repeat' split
  all_goals simp

@[simp] theorem Device.measurementLost_frame (m : Measurement) (d : Device) :
    (d.measurementLost m).time = d.time ∧ (d.measurementLost m).tables = d.tables
      ∧ (d.measurementLost m).stored = d.stored ∧ (d.measurementLost m).track = d.track
      ∧ (d.measurementLost m).pace = d.pace ∧ (d.measurementLost m).climate = d.climate
      ∧ (d.measurementLost m).die = d.die ∧ (d.measurementLost m).spread = d.spread
      ∧ (d.measurementLost m).acc = d.acc ∧ (d.measurementLost m).gauge = { d.gauge with inFlight := none }
      ∧ (d.measurementLost m).log = d.log ∧ (d.measurementLost m).link = d.link
      ∧ (d.measurementLost m).counts = d.counts ∧ (d.measurementLost m).bus = d.bus := by
  simp [Device.measurementLost]

/-! The fault log. -/

@[simp] theorem Device.takeRaise_frame (k : FaultKind) (c : Context) (d : Device) :
    (d.takeRaise k c).time = d.time ∧ (d.takeRaise k c).tables = d.tables ∧ (d.takeRaise k c).stored = d.stored
      ∧ (d.takeRaise k c).track = d.track ∧ (d.takeRaise k c).pace = d.pace ∧ (d.takeRaise k c).climate = d.climate
      ∧ (d.takeRaise k c).die = d.die ∧ (d.takeRaise k c).spread = d.spread ∧ (d.takeRaise k c).acc = d.acc
      ∧ (d.takeRaise k c).gauge = d.gauge ∧ (d.takeRaise k c).bus = d.bus := by
  obtain ⟨-, h⟩ | ⟨-, h⟩ := d.takeRaise_cases k c
  · rw [h]; simp [Device.countRaise]
  · have first (e : Device) : ((e.fillFirst k c).time = e.time ∧ (e.fillFirst k c).tables = e.tables
        ∧ (e.fillFirst k c).stored = e.stored ∧ (e.fillFirst k c).track = e.track ∧ (e.fillFirst k c).pace = e.pace
        ∧ (e.fillFirst k c).climate = e.climate ∧ (e.fillFirst k c).die = e.die ∧ (e.fillFirst k c).spread = e.spread
        ∧ (e.fillFirst k c).acc = e.acc ∧ (e.fillFirst k c).gauge = e.gauge ∧ (e.fillFirst k c).bus = e.bus) := by
      unfold Device.fillFirst; split <;> simp
    rw [h]
    cases (d.faultSetting k).severity <;>
      simp [Device.faultAction, Device.faultNotice, Device.setStatus, Device.countRaise, first]

/-! The link port. -/

@[simp] theorem Device.takeByte_frame (b : Byte) (d : Device) :
    (d.takeByte b).time = d.time ∧ (d.takeByte b).tables = d.tables ∧ (d.takeByte b).stored = d.stored
      ∧ (d.takeByte b).track = d.track ∧ (d.takeByte b).pace = d.pace ∧ (d.takeByte b).climate = d.climate
      ∧ (d.takeByte b).die = d.die ∧ (d.takeByte b).spread = d.spread ∧ (d.takeByte b).acc = d.acc
      ∧ (d.takeByte b).gauge = d.gauge ∧ (d.takeByte b).log = d.log ∧ (d.takeByte b).mail = d.mail
      ∧ (d.takeByte b).bus = d.bus := by
  simp only [Device.takeByte, Device.moreBytes, Device.endFrame, Device.badFrame, Device.collect, Device.hunt]
  repeat' split
  all_goals simp

theorem Device.foldl_takeByte_frame (bytes : List Byte) (d : Device) :
    (bytes.foldl Device.takeByte d).time = d.time ∧ (bytes.foldl Device.takeByte d).tables = d.tables
      ∧ (bytes.foldl Device.takeByte d).stored = d.stored ∧ (bytes.foldl Device.takeByte d).track = d.track
      ∧ (bytes.foldl Device.takeByte d).pace = d.pace ∧ (bytes.foldl Device.takeByte d).climate = d.climate
      ∧ (bytes.foldl Device.takeByte d).die = d.die ∧ (bytes.foldl Device.takeByte d).spread = d.spread
      ∧ (bytes.foldl Device.takeByte d).acc = d.acc ∧ (bytes.foldl Device.takeByte d).gauge = d.gauge
      ∧ (bytes.foldl Device.takeByte d).log = d.log ∧ (bytes.foldl Device.takeByte d).mail = d.mail
      ∧ (bytes.foldl Device.takeByte d).bus = d.bus := by
  induction bytes generalizing d with
  | nil => simp
  | cons b bs ih => rw [List.foldl_cons]; simp [ih]

@[simp] theorem Device.endGap_frame (d : Device) :
    d.endGap.time = d.time ∧ d.endGap.tables = d.tables ∧ d.endGap.stored = d.stored ∧ d.endGap.track = d.track
      ∧ d.endGap.pace = d.pace ∧ d.endGap.climate = d.climate ∧ d.endGap.die = d.die ∧ d.endGap.spread = d.spread
      ∧ d.endGap.acc = d.acc ∧ d.endGap.gauge = d.gauge ∧ d.endGap.log = d.log ∧ d.endGap.mail = d.mail
      ∧ d.endGap.bus = d.bus := by
  unfold Device.endGap Device.frameTimedOut Device.hunt; repeat' split
  all_goals simp

@[simp] theorem Device.takeBytes_frame (bytes : List Byte) (d : Device) :
    (d.takeBytes bytes).time = d.time ∧ (d.takeBytes bytes).tables = d.tables
      ∧ (d.takeBytes bytes).stored = d.stored ∧ (d.takeBytes bytes).track = d.track
      ∧ (d.takeBytes bytes).pace = d.pace ∧ (d.takeBytes bytes).climate = d.climate
      ∧ (d.takeBytes bytes).die = d.die ∧ (d.takeBytes bytes).spread = d.spread ∧ (d.takeBytes bytes).acc = d.acc
      ∧ (d.takeBytes bytes).gauge = d.gauge ∧ (d.takeBytes bytes).log = d.log
      ∧ (d.takeBytes bytes).mail = d.mail ∧ (d.takeBytes bytes).bus = d.bus := by
  simp only [Device.takeBytes]; split <;> simp [Device.foldl_takeByte_frame]

@[simp] theorem Device.frameSent_frame (d : Device) :
    d.frameSent.time = d.time ∧ d.frameSent.tables = d.tables ∧ d.frameSent.stored = d.stored
      ∧ d.frameSent.track = d.track ∧ d.frameSent.pace = d.pace ∧ d.frameSent.climate = d.climate
      ∧ d.frameSent.die = d.die ∧ d.frameSent.spread = d.spread ∧ d.frameSent.acc = d.acc
      ∧ d.frameSent.gauge = d.gauge ∧ d.frameSent.log = d.log ∧ d.frameSent.counts = d.counts
      ∧ d.frameSent.mail = d.mail ∧ d.frameSent.bus = d.bus := by
  unfold Device.frameSent; split <;> simp

@[simp] theorem Device.endStore_frame (ok : Bool) (d : Device) :
    (d.endStore ok).time = d.time ∧ (d.endStore ok).tables = d.tables ∧ (d.endStore ok).track = d.track
      ∧ (d.endStore ok).pace = d.pace ∧ (d.endStore ok).climate = d.climate ∧ (d.endStore ok).die = d.die
      ∧ (d.endStore ok).spread = d.spread ∧ (d.endStore ok).acc = d.acc ∧ (d.endStore ok).gauge = d.gauge
      ∧ (d.endStore ok).log = d.log ∧ (d.endStore ok).counts = d.counts ∧ (d.endStore ok).mail = d.mail
      ∧ (d.endStore ok).bus = d.bus := by
  simp only [Device.endStore]; repeat' split
  all_goals simp

@[simp] theorem restart_frame (d : Device) :
    (restart d).1.time = d.time ∧ (restart d).1.tables = d.tables ∧ (restart d).1.stored = d.stored
      ∧ (restart d).1.track = d.track ∧ (restart d).1.pace = d.pace ∧ (restart d).1.climate = d.climate
      ∧ (restart d).1.die = d.die ∧ (restart d).1.spread = d.spread ∧ (restart d).1.acc = d.acc
      ∧ (restart d).1.gauge = d.gauge ∧ (restart d).1.bus = d.bus := by
  unfold restart; split
  · simp
  · simp [Device.restarted, Device.freePlaces, Device.hunt, Device.emptyNotices, Device.emptyLog]

end Sys2Proof.Machine
end

section
/-! SUPPORT. One step, seen from the part's laws: each command is an effect on the device (an event's own act, or what the
owner of a request does), wrapped in the link port's receipt, reply and transmission. A law that ignores that wrapping is
kept by every step as soon as each command's effect keeps it. -/

namespace Sys2Proof.Machine

/-- What a command does to the part: the act of an event, or what the owner of a request does when it is served. A read
does nothing. -/
def effect (i : Instr) (d : Device) : Device :=
  match i with
  | .powerUp lost presenceA clampA presenceB clampB =>
    powered (if lost then none else d.stored) presenceA clampA presenceB clampB
  | .hostFrame bytes => d.takeBytes bytes
  | .frameGapTimeout => expire d.gapDeadline Device.frameTimedOut d
  | .frameSent => expire (d.link.tx.map Transmission.done) Device.frameSent d
  | .tableWriteTunnel _ start count entries =>
    (writeTable tunnelSpec 1 start.toNat count.toNat entries tunnelOwn d).1
  | .tableWriteProfile _ start count entries => (profileWrite start.toNat count.toNat entries d).1
  | .tableWriteFormatMap _ start count entries =>
    (writeTable formatMapSpec 64 start.toNat count.toNat entries (formatMapOwn start.toNat) d).1
  | .tableWriteZoneLayout _ start count entries => (zoneLayoutWrite start.toNat count.toNat entries d).1
  | .tableWriteLanes _ start count entries =>
    (writeTable laneSpec 4 start.toNat count.toNat entries (lanesOwn start.toNat count.toNat) d).1
  | .tableWriteDisposition _ start count entries =>
    (writeTable dispositionSpec 5 start.toNat count.toNat entries (dispositionOwn start.toNat) d).1
  | .tableWritePacing _ start count entries =>
    (writeTable pacingSpec 1 start.toNat count.toNat entries pacingOwn d).1
  | .tableWriteSampling _ start count entries =>
    (writeTable samplingSpec 1 start.toNat count.toNat entries samplingOwn d).1
  | .tableWriteFaultSettings _ start count entries =>
    (writeTable faultSpec 23 start.toNat count.toNat entries (faultSettingsOwn start.toNat) d).1
  | .tableWriteDieSettings _ start count entries =>
    (writeTable dieSpec 1 start.toNat count.toNat entries dieSettingsOwn d).1
  | .tableWriteGaugeSettings _ start count entries =>
    (writeTable gaugeSpec 1 start.toNat count.toNat entries gaugeSettingsOwn d).1
  | .tableWriteSpreaderSettings _ start count entries =>
    (writeTable spreaderSpec 1 start.toNat count.toNat entries spreaderSettingsOwn d).1
  | .tableWriteAccumulatorSettings _ start count entries =>
    (writeTable accSpec 1 start.toNat count.toNat entries accSettingsOwn d).1
  | .lineRun _ => (lineRun d).1
  | .lineStop _ => (lineStop d).1
  | .stopOrder cause => (d.take (.stop cause)).stopLine cause
  | .jog _ => (jog d).1
  | .paceRestart _ => (paceRestart d).1
  | .moveResolveMoved _ => (moveResolveMoved d).1
  | .moveResolveNotMoved _ outcome => (moveResolveNotMoved outcome d).1
  | .pitchTimerExpiry => expire d.pitchDeadline Device.pitchExpired d
  | .pressScrewPulse edge wait => { d with time := d.time + wait }.pulse edge
  | .attemptRetry report => (d.take (.retry report)).retry report
  | .moveDone number seen => d.moveDone number.toNat seen
  | .moveLimitExpiry => expire d.moveDeadline Device.moveExpired d
  | .shiftDoneReport late => (d.take (.shiftDone late)).shiftDone late
  | .standstillExpiry => expire (some d.standstillDeadline) update d
  | .talliesHanded pairs => (d.take (.tallies pairs)).takeTallies pairs
  | .rodMark _ id => (rodMark id.toNat d).1
  | .trackForget _ => (trackForget d).1
  | .loadDone number => d.loadDone number.toNat
  | .loadFailed number => d.loadFailed number.toNat
  | .loadLimitExpiry => expire d.loadDeadline Device.loadExpired d
  | .batchNew _ => (batchNew d).1
  | .presenceEvent side on => dieEvent (Device.presenceEvent side on) d
  | .debounceExpiry side => expire (d.debounceDeadline side) (dieEvent (Device.debounceExpired side)) d
  | .clampEvent side closed => dieEvent (Device.clampEvent side closed) d
  | .buttonEvent side => dieEvent (Device.buttonEvent side) d
  | .memoryReadReply side number bytes => dieEvent (Device.memoryReadReply side number.toNat bytes) d
  | .memoryExchangeExpiry side => expire (d.memoryDeadline side) (dieEvent (Device.memoryExpired side)) d
  | .memoryWriteReply side number ok => dieEvent (Device.memoryWriteReply side number.toNat ok) d
  | .dieRelease _ station => (dieRelease station d).1
  | .dieKeep _ station => (dieKeep station d).1
  | .dieReread _ station => (dieReread station d).1
  | .dieSwap _ station => (dieSwap station d).1
  | .carriageQueryAnswer station => dieEvent (Device.queryAnswer station) d
  | .carriageQueryExpiry => expire d.queryDeadline (dieEvent Device.queryFailed) d
  | .carriageDone station => dieEvent (Device.carriageDone station) d
  | .carriageMoveExpiry => expire d.carriageDeadline (dieEvent Device.carriageLost) d
  | .pressStart _ => (pressStart d).1
  | .pressStop _ => (pressStop d).1
  | .pressStopOrder => (d.take .pressStop).stopPress
  | .pressStarted => d.pressStarted
  | .pressHalted => d.pressHalted
  | .pressFaultReport => d.pressFault
  | .pressAckExpiry => expire d.pressDeadline Device.pressFault d
  | .periodicTimerExpiry => expire (some d.periodicDeadline) Device.periodicExpired d
  | .sampleNow _ => (sampleNow d).1
  | .readReply number reply => d.readReply number.toNat reply
  | .readLimitExpiry => expire d.readDeadline Device.readExpired d
  | .setReply number ok => d.setReply number.toNat ok
  | .setLimitExpiry => expire d.setDeadline (Device.endSet false) d
  | .settleTimerRunOut zone => expire (d.settleDeadline zone) (Device.settleExpired zone) d
  | .setpointRecomputeOrder profile => (d.take (.recompute profile)).recomputeProfile profile
  | .zoneAccept _ zone => (zoneAccept zone d).1
  | .gaugeResult number rod value => d.gaugeResult number.toNat rod.toNat value.toNat
  | .gaugeFailReport number => d.gaugeFail number.toNat
  | .gaugeLimitExpiry => expire d.gaugeDeadline Device.gaugeExpired d
  | .correctionResetOrder profile => (d.take (.reset profile)).modifyFactor profile fun _ => 256
  | .stripDone number => d.stripDone number.toNat
  | .stripFaultReport number => d.stripFault number.toNat
  | .stripLimitExpiry => expire d.stripDeadline (Device.stall .stripperTimeout) d
  | .stripRetry _ => (stripRetry d).1
  | .stripDiscard _ => (stripDiscard d).1
  | .stripPause _ => (stripPause d).1
  | .stripResume _ => (stripResume d).1
  | .laneDeclare _ lane count => (laneDeclare lane.toNat count.toNat d).1
  | .returnDeclare _ count => (returnDeclare count.toNat d).1
  | .rodAdd _ count => (rodAdd count.toNat d).1
  | .rodRemoveReturn _ count => (rodRemoveReturn count.toNat d).1
  | .rodRemoveSpill _ place count => (rodRemoveSpill place count.toNat d).1
  | .faultRaise kind context => (d.take (.raise kind context)).takeRaise kind context
  | .faultClear _ kinds => (faultClear kinds d).1
  | .store _ => (store d).1
  | .storeWriteEnd ok => d.endStore ok
  | .storeLimitExpiry => expire d.storeDeadline (Device.endStore false) d
  | .restart _ => (restart d).1
  | _ => d

/-- A command is an event, which acts, or a request, which its owner serves: in a state where the owner acts, its act is
the command's effect. -/
def Meant (i : Instr) : Prop :=
  (∀ s, exec i s = run (effect i) s)
    ∨ ∃ f own, (∀ d, (own d).1 = d ∨ (own d).1 = effect i d) ∧ ∀ s, exec i s = run (fun d => d.request f own) s

theorem notWritten_keeps (table : Nat) (d : Device) : (notWritten table d).1 = d := by
  unfold notWritten; split <;> rfl

theorem rodFind_keeps (id : Nat) (d : Device) : (rodFind id d).1 = d := by
  unfold rodFind; repeat' split
  all_goals rfl

theorem meant_of_ask {i : Instr} (own : Device → Device × Answer)
    (runs : ∀ s, exec i s = run (fun d => d.ask i own) s) (acts : ∀ d, (own d).1 = effect i d) : Meant i := by
  refine .inr ⟨frameOf i, _, fun d => ?_, runs⟩
  split
  · exact .inr (acts d)
  · exact .inl rfl

theorem meant (i : Instr) : Meant i := by
  cases i
  case unknownRequest => exact .inr ⟨_, _, fun _ => .inl rfl, fun _ => rfl⟩
  case tableWriteNotWritten =>
    exact meant_of_ask _ (fun _ => rfl) fun d => notWritten_keeps _ d
  case rodFind => exact meant_of_ask _ (fun _ => rfl) fun d => rodFind_keeps _ d
  case store => exact .inr ⟨_, _, fun _ => .inr rfl, fun _ => rfl⟩
  all_goals first
    | exact .inl fun _ => rfl
    | exact meant_of_ask _ (fun _ => rfl) fun _ => rfl

end Sys2Proof.Machine
end

section
/-! SUPPORT. What the owners of the requests and the remaining events leave unchanged, and from these lemmas one table for
all commands: the blocks that a command's effect may change, and that it leaves every other block as it was. -/

namespace Sys2Proof.Machine

/-! Table writes. -/

/-- A table write refuses, and changes nothing, or hands its owner the values it names. -/
theorem writeTable_cases (specs : List FieldSpec) (size start count : Nat) (entries : List Byte)
    (own : List (List (List Nat)) → Device → Device × Answer) (d : Device) :
    (writeTable specs size start count entries own d).1 = d
      ∨ (1 ≤ count ∧ start + count ≤ size ∧ badEntry? specs start (readEntries specs count entries) = none
        ∧ writeTable specs size start count entries own d = own (readEntries specs count entries) d) := by
  by_cases h : 1 ≤ count ∧ start + count ≤ size
  · cases hb : badEntry? specs start (readEntries specs count entries) with
    | some p => exact .inl (by simp [writeTable, h, hb])
    | none => exact .inr ⟨h.1, h.2, rfl, by simp [writeTable, h, hb]⟩
  · exact .inl (by simp [writeTable, h])

/-- What the owner of a table write leaves of the part, whatever values it is handed, the write leaves. -/
theorem writeTable_keeps {α : Sort*} (proj : Device → α) {specs : List FieldSpec} {size start count : Nat}
    {entries : List Byte} {own : List (List (List Nat)) → Device → Device × Answer} {d : Device}
    (keeps : ∀ values, proj (own values d).1 = proj d) :
    proj (writeTable specs size start count entries own d).1 = proj d := by
  obtain h | ⟨-, -, -, h⟩ := writeTable_cases specs size start count entries own d
  · rw [h]
  · rw [h]; exact keeps _

@[simp] theorem tunnelOwn_frame (values : List (List (List Nat))) (d : Device) :
    (tunnelOwn values d).1.time = d.time ∧ (tunnelOwn values d).1.stored = d.stored
      ∧ (tunnelOwn values d).1.pace = d.pace ∧ (tunnelOwn values d).1.climate = d.climate
      ∧ (tunnelOwn values d).1.die = d.die ∧ (tunnelOwn values d).1.spread = d.spread
      ∧ (tunnelOwn values d).1.acc = d.acc ∧ (tunnelOwn values d).1.gauge = d.gauge
      ∧ (tunnelOwn values d).1.log = d.log ∧ (tunnelOwn values d).1.link = d.link
      ∧ (tunnelOwn values d).1.counts = d.counts ∧ (tunnelOwn values d).1.mail = d.mail
      ∧ (tunnelOwn values d).1.bus = d.bus := by
  simp only [tunnelOwn, Device.setLength]
  repeat' split
  all_goals simp

theorem foldl_orderProfile_only (ps : List Nat) (d : Device) :
    ps.foldl orderProfile d = { d with mail := (ps.foldl orderProfile d).mail } := by
  induction ps generalizing d with
  | nil => rfl
  | cons p ps ih => rw [List.foldl_cons, ih]; rfl

@[simp] theorem profileOwn_frame (start : Nat) (values : List (List (List Nat))) (d : Device) :
    (profileOwn start values d).1.time = d.time ∧ (profileOwn start values d).1.stored = d.stored
      ∧ (profileOwn start values d).1.track = d.track ∧ (profileOwn start values d).1.pace = d.pace
      ∧ (profileOwn start values d).1.climate = d.climate ∧ (profileOwn start values d).1.die = d.die
      ∧ (profileOwn start values d).1.spread = d.spread ∧ (profileOwn start values d).1.acc = d.acc
      ∧ (profileOwn start values d).1.gauge = d.gauge ∧ (profileOwn start values d).1.log = d.log
      ∧ (profileOwn start values d).1.link = d.link ∧ (profileOwn start values d).1.counts = d.counts
      ∧ (profileOwn start values d).1.bus = d.bus := by
  simp only [profileOwn]; split
  · simp
  · rw [foldl_orderProfile_only]; simp

@[simp] theorem formatMapOwn_frame (start : Nat) (values : List (List (List Nat))) (d : Device) :
    (formatMapOwn start values d).1.time = d.time ∧ (formatMapOwn start values d).1.stored = d.stored
      ∧ (formatMapOwn start values d).1.track = d.track ∧ (formatMapOwn start values d).1.pace = d.pace
      ∧ (formatMapOwn start values d).1.climate = d.climate ∧ (formatMapOwn start values d).1.die = d.die
      ∧ (formatMapOwn start values d).1.spread = d.spread ∧ (formatMapOwn start values d).1.acc = d.acc
      ∧ (formatMapOwn start values d).1.gauge = d.gauge ∧ (formatMapOwn start values d).1.log = d.log
      ∧ (formatMapOwn start values d).1.link = d.link ∧ (formatMapOwn start values d).1.counts = d.counts
      ∧ (formatMapOwn start values d).1.mail = d.mail ∧ (formatMapOwn start values d).1.bus = d.bus := by
  simp [formatMapOwn]

@[simp] theorem lanesOwn_frame (start count : Nat) (values : List (List (List Nat))) (d : Device) :
    (lanesOwn start count values d).1.time = d.time ∧ (lanesOwn start count values d).1.stored = d.stored
      ∧ (lanesOwn start count values d).1.track = d.track ∧ (lanesOwn start count values d).1.pace = d.pace
      ∧ (lanesOwn start count values d).1.climate = d.climate ∧ (lanesOwn start count values d).1.die = d.die
      ∧ (lanesOwn start count values d).1.spread = d.spread ∧ (lanesOwn start count values d).1.gauge = d.gauge
      ∧ (lanesOwn start count values d).1.log = d.log ∧ (lanesOwn start count values d).1.link = d.link
      ∧ (lanesOwn start count values d).1.counts = d.counts := by
  simp only [lanesOwn]; repeat' split
  all_goals simp

@[simp] theorem dispositionOwn_frame (start : Nat) (values : List (List (List Nat))) (d : Device) :
    (dispositionOwn start values d).1.time = d.time ∧ (dispositionOwn start values d).1.stored = d.stored
      ∧ (dispositionOwn start values d).1.track = d.track ∧ (dispositionOwn start values d).1.pace = d.pace
      ∧ (dispositionOwn start values d).1.climate = d.climate ∧ (dispositionOwn start values d).1.die = d.die
      ∧ (dispositionOwn start values d).1.spread = d.spread ∧ (dispositionOwn start values d).1.gauge = d.gauge
      ∧ (dispositionOwn start values d).1.log = d.log ∧ (dispositionOwn start values d).1.link = d.link
      ∧ (dispositionOwn start values d).1.counts = d.counts := by
  simp only [dispositionOwn]; split <;> simp

@[simp] theorem pacingOwn_frame (values : List (List (List Nat))) (d : Device) :
    (pacingOwn values d).1.time = d.time ∧ (pacingOwn values d).1.stored = d.stored
      ∧ (pacingOwn values d).1.track = d.track ∧ (pacingOwn values d).1.climate = d.climate
      ∧ (pacingOwn values d).1.die = d.die ∧ (pacingOwn values d).1.spread = d.spread
      ∧ (pacingOwn values d).1.acc = d.acc ∧ (pacingOwn values d).1.gauge = d.gauge
      ∧ (pacingOwn values d).1.log = d.log ∧ (pacingOwn values d).1.link = d.link
      ∧ (pacingOwn values d).1.counts = d.counts ∧ (pacingOwn values d).1.mail = d.mail
      ∧ (pacingOwn values d).1.bus = d.bus := by
  simp only [pacingOwn]; split <;> simp

@[simp] theorem samplingOwn_frame (values : List (List (List Nat))) (d : Device) :
    (samplingOwn values d).1.time = d.time ∧ (samplingOwn values d).1.stored = d.stored
      ∧ (samplingOwn values d).1.track = d.track ∧ (samplingOwn values d).1.pace = d.pace
      ∧ (samplingOwn values d).1.die = d.die ∧ (samplingOwn values d).1.spread = d.spread
      ∧ (samplingOwn values d).1.acc = d.acc ∧ (samplingOwn values d).1.gauge = d.gauge
      ∧ (samplingOwn values d).1.log = d.log ∧ (samplingOwn values d).1.link = d.link
      ∧ (samplingOwn values d).1.counts = d.counts ∧ (samplingOwn values d).1.mail = d.mail
      ∧ (samplingOwn values d).1.bus = d.bus := by
  simp [samplingOwn]

@[simp] theorem faultSettingsOwn_frame (start : Nat) (values : List (List (List Nat))) (d : Device) :
    (faultSettingsOwn start values d).1.time = d.time ∧ (faultSettingsOwn start values d).1.stored = d.stored
      ∧ (faultSettingsOwn start values d).1.track = d.track ∧ (faultSettingsOwn start values d).1.pace = d.pace
      ∧ (faultSettingsOwn start values d).1.climate = d.climate ∧ (faultSettingsOwn start values d).1.die = d.die
      ∧ (faultSettingsOwn start values d).1.spread = d.spread ∧ (faultSettingsOwn start values d).1.acc = d.acc
      ∧ (faultSettingsOwn start values d).1.gauge = d.gauge ∧ (faultSettingsOwn start values d).1.log = d.log
      ∧ (faultSettingsOwn start values d).1.link = d.link ∧ (faultSettingsOwn start values d).1.counts = d.counts
      ∧ (faultSettingsOwn start values d).1.mail = d.mail ∧ (faultSettingsOwn start values d).1.bus = d.bus := by
  simp [faultSettingsOwn]

@[simp] theorem dieSettingsOwn_frame (values : List (List (List Nat))) (d : Device) :
    (dieSettingsOwn values d).1.time = d.time ∧ (dieSettingsOwn values d).1.stored = d.stored
      ∧ (dieSettingsOwn values d).1.track = d.track ∧ (dieSettingsOwn values d).1.pace = d.pace
      ∧ (dieSettingsOwn values d).1.climate = d.climate ∧ (dieSettingsOwn values d).1.die = d.die
      ∧ (dieSettingsOwn values d).1.spread = d.spread ∧ (dieSettingsOwn values d).1.acc = d.acc
      ∧ (dieSettingsOwn values d).1.gauge = d.gauge ∧ (dieSettingsOwn values d).1.log = d.log
      ∧ (dieSettingsOwn values d).1.link = d.link ∧ (dieSettingsOwn values d).1.counts = d.counts
      ∧ (dieSettingsOwn values d).1.mail = d.mail ∧ (dieSettingsOwn values d).1.bus = d.bus := by
  simp [dieSettingsOwn]

@[simp] theorem gaugeSettingsOwn_frame (values : List (List (List Nat))) (d : Device) :
    (gaugeSettingsOwn values d).1.time = d.time ∧ (gaugeSettingsOwn values d).1.stored = d.stored
      ∧ (gaugeSettingsOwn values d).1.track = d.track ∧ (gaugeSettingsOwn values d).1.pace = d.pace
      ∧ (gaugeSettingsOwn values d).1.climate = d.climate ∧ (gaugeSettingsOwn values d).1.die = d.die
      ∧ (gaugeSettingsOwn values d).1.spread = d.spread ∧ (gaugeSettingsOwn values d).1.acc = d.acc
      ∧ (gaugeSettingsOwn values d).1.gauge = d.gauge ∧ (gaugeSettingsOwn values d).1.log = d.log
      ∧ (gaugeSettingsOwn values d).1.link = d.link ∧ (gaugeSettingsOwn values d).1.counts = d.counts
      ∧ (gaugeSettingsOwn values d).1.mail = d.mail ∧ (gaugeSettingsOwn values d).1.bus = d.bus := by
  simp only [gaugeSettingsOwn]; split <;> simp

@[simp] theorem spreaderSettingsOwn_frame (values : List (List (List Nat))) (d : Device) :
    (spreaderSettingsOwn values d).1.time = d.time ∧ (spreaderSettingsOwn values d).1.stored = d.stored
      ∧ (spreaderSettingsOwn values d).1.track = d.track ∧ (spreaderSettingsOwn values d).1.pace = d.pace
      ∧ (spreaderSettingsOwn values d).1.climate = d.climate ∧ (spreaderSettingsOwn values d).1.die = d.die
      ∧ (spreaderSettingsOwn values d).1.gauge = d.gauge ∧ (spreaderSettingsOwn values d).1.log = d.log
      ∧ (spreaderSettingsOwn values d).1.link = d.link ∧ (spreaderSettingsOwn values d).1.counts = d.counts
      ∧ (spreaderSettingsOwn values d).1.mail = d.mail := by
  simp [spreaderSettingsOwn]

@[simp] theorem accSettingsOwn_frame (values : List (List (List Nat))) (d : Device) :
    (accSettingsOwn values d).1.time = d.time ∧ (accSettingsOwn values d).1.stored = d.stored
      ∧ (accSettingsOwn values d).1.track = d.track ∧ (accSettingsOwn values d).1.pace = d.pace
      ∧ (accSettingsOwn values d).1.climate = d.climate ∧ (accSettingsOwn values d).1.die = d.die
      ∧ (accSettingsOwn values d).1.spread = d.spread ∧ (accSettingsOwn values d).1.gauge = d.gauge
      ∧ (accSettingsOwn values d).1.log = d.log ∧ (accSettingsOwn values d).1.link = d.link
      ∧ (accSettingsOwn values d).1.counts = d.counts := by
  simp only [accSettingsOwn]; split <;> simp

@[simp] theorem zoneLayoutWrite_frame (start count : Nat) (entries : List Byte) (d : Device) :
    (zoneLayoutWrite start count entries d).1.time = d.time
      ∧ (zoneLayoutWrite start count entries d).1.stored = d.stored
      ∧ (zoneLayoutWrite start count entries d).1.track = d.track
      ∧ (zoneLayoutWrite start count entries d).1.pace = d.pace
      ∧ (zoneLayoutWrite start count entries d).1.die = d.die
      ∧ (zoneLayoutWrite start count entries d).1.spread = d.spread
      ∧ (zoneLayoutWrite start count entries d).1.acc = d.acc
      ∧ (zoneLayoutWrite start count entries d).1.gauge = d.gauge
      ∧ (zoneLayoutWrite start count entries d).1.log = d.log
      ∧ (zoneLayoutWrite start count entries d).1.link = d.link
      ∧ (zoneLayoutWrite start count entries d).1.counts = d.counts
      ∧ (zoneLayoutWrite start count entries d).1.mail = d.mail
      ∧ (zoneLayoutWrite start count entries d).1.bus = d.bus := by
  simp only [zoneLayoutWrite]; repeat' split
  all_goals simp

/-! The pacing unit. -/

@[simp] theorem lineRun_frame (d : Device) :
    (lineRun d).1.time = d.time ∧ (lineRun d).1.tables = d.tables ∧ (lineRun d).1.stored = d.stored
      ∧ (lineRun d).1.track = d.track ∧ (lineRun d).1.climate = d.climate ∧ (lineRun d).1.die = d.die
      ∧ (lineRun d).1.spread = d.spread ∧ (lineRun d).1.acc = d.acc ∧ (lineRun d).1.gauge = d.gauge
      ∧ (lineRun d).1.log = d.log := by
  simp only [lineRun]; repeat' split
  all_goals simp

@[simp] theorem paceRestart_frame (d : Device) :
    (paceRestart d).1.time = d.time ∧ (paceRestart d).1.tables = d.tables ∧ (paceRestart d).1.stored = d.stored
      ∧ (paceRestart d).1.track = d.track ∧ (paceRestart d).1.climate = d.climate ∧ (paceRestart d).1.die = d.die
      ∧ (paceRestart d).1.spread = d.spread ∧ (paceRestart d).1.acc = d.acc ∧ (paceRestart d).1.gauge = d.gauge
      ∧ (paceRestart d).1.log = d.log ∧ (paceRestart d).1.link = d.link ∧ (paceRestart d).1.counts = d.counts
      ∧ (paceRestart d).1.mail = d.mail ∧ (paceRestart d).1.bus = d.bus := by
  simp only [paceRestart]; split <;> simp

/-- A JOG is refused and changes nothing, or makes an attempt, which may leave the chain hold to be cleared (R81). -/
theorem jog_cases (d : Device) :
    (jog d).1 = d ∨ (jog d).1 = (d.attempt .jog).1 ∨ (jog d).1 = (d.attempt .jog).1.clearHold := by
  unfold jog; repeat' split
  · exact .inl rfl
  · exact .inl rfl
  all_goals rename_i h; rw [h]
  · exact .inr (.inl rfl)
  · exact .inr (.inl rfl)
  · exact .inr (.inr rfl)

@[simp] theorem jog_frame (d : Device) :
    (jog d).1.time = d.time ∧ (jog d).1.tables = d.tables ∧ (jog d).1.stored = d.stored
      ∧ (jog d).1.climate = d.climate ∧ (jog d).1.die = d.die ∧ (jog d).1.gauge = d.gauge ∧ (jog d).1.log = d.log
      ∧ (jog d).1.link = d.link := by
  obtain h | h | h := jog_cases d <;> rw [h] <;> simp

@[simp] theorem moveResolveMoved_frame (d : Device) :
    (moveResolveMoved d).1.time = d.time ∧ (moveResolveMoved d).1.tables = d.tables
      ∧ (moveResolveMoved d).1.stored = d.stored ∧ (moveResolveMoved d).1.climate = d.climate
      ∧ (moveResolveMoved d).1.die = d.die ∧ (moveResolveMoved d).1.gauge = d.gauge
      ∧ (moveResolveMoved d).1.log = d.log := by
  simp only [moveResolveMoved]; repeat' split
  all_goals simp

@[simp] theorem moveResolveNotMoved_frame (outcome : Byte) (d : Device) :
    (moveResolveNotMoved outcome d).1.time = d.time ∧ (moveResolveNotMoved outcome d).1.tables = d.tables
      ∧ (moveResolveNotMoved outcome d).1.stored = d.stored ∧ (moveResolveNotMoved outcome d).1.climate = d.climate
      ∧ (moveResolveNotMoved outcome d).1.die = d.die ∧ (moveResolveNotMoved outcome d).1.gauge = d.gauge
      ∧ (moveResolveNotMoved outcome d).1.log = d.log := by
  simp only [moveResolveNotMoved]; repeat' split
  all_goals simp

@[simp] theorem Device.pitchExpired_frame (d : Device) :
    d.pitchExpired.time = d.time ∧ d.pitchExpired.tables = d.tables ∧ d.pitchExpired.stored = d.stored
      ∧ d.pitchExpired.climate = d.climate ∧ d.pitchExpired.die = d.die ∧ d.pitchExpired.gauge = d.gauge
      ∧ d.pitchExpired.log = d.log ∧ d.pitchExpired.link = d.link := by
  simp [Device.pitchExpired]

@[simp] theorem Device.pulse_frame (edge : Edge) (d : Device) :
    (d.pulse edge).time = d.time ∧ (d.pulse edge).tables = d.tables ∧ (d.pulse edge).stored = d.stored
      ∧ (d.pulse edge).climate = d.climate ∧ (d.pulse edge).die = d.die ∧ (d.pulse edge).gauge = d.gauge
      ∧ (d.pulse edge).log = d.log ∧ (d.pulse edge).link = d.link := by
  simp only [Device.pulse]; repeat' split
  all_goals simp

@[simp] theorem Device.retry_frame (report : PaceReport) (d : Device) :
    (d.retry report).time = d.time ∧ (d.retry report).tables = d.tables ∧ (d.retry report).stored = d.stored
      ∧ (d.retry report).climate = d.climate ∧ (d.retry report).die = d.die ∧ (d.retry report).gauge = d.gauge
      ∧ (d.retry report).log = d.log ∧ (d.retry report).link = d.link := by
  unfold Device.retry; split <;> simp

@[simp] theorem Device.moveExpired_frame (d : Device) :
    d.moveExpired.time = d.time ∧ d.moveExpired.tables = d.tables ∧ d.moveExpired.stored = d.stored
      ∧ d.moveExpired.track = d.track ∧ d.moveExpired.climate = d.climate ∧ d.moveExpired.die = d.die
      ∧ d.moveExpired.spread = d.spread ∧ d.moveExpired.acc = d.acc ∧ d.moveExpired.gauge = d.gauge
      ∧ d.moveExpired.log = d.log ∧ d.moveExpired.bus = d.bus := by
  simp [Device.moveExpired]

@[simp] theorem Device.shiftDone_frame (late : Bool) (d : Device) :
    (d.shiftDone late).time = d.time ∧ (d.shiftDone late).tables = d.tables ∧ (d.shiftDone late).stored = d.stored
      ∧ (d.shiftDone late).die = d.die ∧ (d.shiftDone late).log = d.log ∧ (d.shiftDone late).link = d.link
      ∧ (d.shiftDone late).gauge.factors = d.gauge.factors := by
  simp [Device.shiftDone]

/-! Requests on records. -/

@[simp] theorem rodMark_frame (id : Nat) (d : Device) :
    (rodMark id d).1.time = d.time ∧ (rodMark id d).1.tables = d.tables ∧ (rodMark id d).1.stored = d.stored
      ∧ (rodMark id d).1.pace = d.pace ∧ (rodMark id d).1.climate = d.climate ∧ (rodMark id d).1.die = d.die
      ∧ (rodMark id d).1.acc = d.acc ∧ (rodMark id d).1.gauge = d.gauge ∧ (rodMark id d).1.log = d.log
      ∧ (rodMark id d).1.link = d.link ∧ (rodMark id d).1.counts = d.counts ∧ (rodMark id d).1.mail = d.mail
      ∧ (rodMark id d).1.bus = d.bus := by
  unfold rodMark; repeat' split
  all_goals simp

@[simp] theorem trackForget_frame (d : Device) :
    (trackForget d).1.time = d.time ∧ (trackForget d).1.tables = d.tables ∧ (trackForget d).1.stored = d.stored
      ∧ (trackForget d).1.pace = d.pace ∧ (trackForget d).1.climate = d.climate ∧ (trackForget d).1.die = d.die
      ∧ (trackForget d).1.spread = d.spread ∧ (trackForget d).1.acc = d.acc ∧ (trackForget d).1.gauge = d.gauge
      ∧ (trackForget d).1.log = d.log ∧ (trackForget d).1.bus = d.bus := by
  simp only [trackForget]; split <;> simp

/-! The spreader unit. -/

@[simp] theorem Device.loadDone_frame (n : Nat) (d : Device) :
    (d.loadDone n).time = d.time ∧ (d.loadDone n).tables = d.tables ∧ (d.loadDone n).stored = d.stored
      ∧ (d.loadDone n).pace = d.pace ∧ (d.loadDone n).climate = d.climate ∧ (d.loadDone n).acc = d.acc
      ∧ (d.loadDone n).gauge = d.gauge ∧ (d.loadDone n).log = d.log ∧ (d.loadDone n).link = d.link
      ∧ (d.loadDone n).bus = d.bus := by
  unfold Device.loadDone; split <;> simp [Device.completeLoad, Device.lateLoad]

@[simp] theorem Device.loadFailed_frame (n : Nat) (d : Device) :
    (d.loadFailed n).time = d.time ∧ (d.loadFailed n).tables = d.tables ∧ (d.loadFailed n).stored = d.stored
      ∧ (d.loadFailed n).track = d.track ∧ (d.loadFailed n).pace = d.pace ∧ (d.loadFailed n).climate = d.climate
      ∧ (d.loadFailed n).die = d.die ∧ (d.loadFailed n).acc = d.acc ∧ (d.loadFailed n).gauge = d.gauge
      ∧ (d.loadFailed n).log = d.log ∧ (d.loadFailed n).link = d.link ∧ (d.loadFailed n).bus = d.bus := by
  unfold Device.loadFailed; split <;> simp [Device.endLoad, Device.lateLoad]

@[simp] theorem Device.loadExpired_frame (d : Device) :
    d.loadExpired.time = d.time ∧ d.loadExpired.tables = d.tables ∧ d.loadExpired.stored = d.stored
      ∧ d.loadExpired.track = d.track ∧ d.loadExpired.pace = d.pace ∧ d.loadExpired.climate = d.climate
      ∧ d.loadExpired.die = d.die ∧ d.loadExpired.acc = d.acc ∧ d.loadExpired.gauge = d.gauge
      ∧ d.loadExpired.log = d.log ∧ d.loadExpired.link = d.link ∧ d.loadExpired.counts = d.counts
      ∧ d.loadExpired.bus = d.bus := by
  unfold Device.loadExpired; split <;> simp [Device.endLoad]

@[simp] theorem batchNew_frame (d : Device) :
    (batchNew d).1.time = d.time ∧ (batchNew d).1.tables = d.tables ∧ (batchNew d).1.stored = d.stored
      ∧ (batchNew d).1.track = d.track ∧ (batchNew d).1.pace = d.pace ∧ (batchNew d).1.climate = d.climate
      ∧ (batchNew d).1.die = d.die ∧ (batchNew d).1.acc = d.acc ∧ (batchNew d).1.gauge = d.gauge
      ∧ (batchNew d).1.log = d.log ∧ (batchNew d).1.link = d.link ∧ (batchNew d).1.counts = d.counts
      ∧ (batchNew d).1.mail = d.mail ∧ (batchNew d).1.bus = d.bus := by
  simp [batchNew]

/-! The accumulator unit. -/

@[simp] theorem Device.stripDone_frame (n : Nat) (d : Device) :
    (d.stripDone n).time = d.time ∧ (d.stripDone n).tables = d.tables ∧ (d.stripDone n).stored = d.stored
      ∧ (d.stripDone n).pace = d.pace ∧ (d.stripDone n).climate = d.climate ∧ (d.stripDone n).die = d.die
      ∧ (d.stripDone n).gauge = d.gauge ∧ (d.stripDone n).log = d.log := by
  simp only [Device.stripDone, Device.completeStrip, Device.ignoreStripDone]; repeat' split
  all_goals simp

@[simp] theorem Device.stall_frame (kind : FaultKind) (d : Device) :
    (d.stall kind).time = d.time ∧ (d.stall kind).tables = d.tables ∧ (d.stall kind).stored = d.stored
      ∧ (d.stall kind).track = d.track ∧ (d.stall kind).pace = d.pace ∧ (d.stall kind).climate = d.climate
      ∧ (d.stall kind).die = d.die ∧ (d.stall kind).spread = d.spread ∧ (d.stall kind).gauge = d.gauge
      ∧ (d.stall kind).log = d.log ∧ (d.stall kind).link = d.link ∧ (d.stall kind).bus = d.bus := by
  unfold Device.stall; split <;> simp

@[simp] theorem Device.stripFault_frame (n : Nat) (d : Device) :
    (d.stripFault n).time = d.time ∧ (d.stripFault n).tables = d.tables ∧ (d.stripFault n).stored = d.stored
      ∧ (d.stripFault n).track = d.track ∧ (d.stripFault n).pace = d.pace ∧ (d.stripFault n).climate = d.climate
      ∧ (d.stripFault n).die = d.die ∧ (d.stripFault n).spread = d.spread ∧ (d.stripFault n).gauge = d.gauge
      ∧ (d.stripFault n).log = d.log ∧ (d.stripFault n).link = d.link ∧ (d.stripFault n).bus = d.bus := by
  unfold Device.stripFault; split <;> simp

@[simp] theorem stripRetry_frame (d : Device) :
    (stripRetry d).1.time = d.time ∧ (stripRetry d).1.tables = d.tables ∧ (stripRetry d).1.stored = d.stored
      ∧ (stripRetry d).1.track = d.track ∧ (stripRetry d).1.pace = d.pace ∧ (stripRetry d).1.climate = d.climate
      ∧ (stripRetry d).1.die = d.die ∧ (stripRetry d).1.spread = d.spread ∧ (stripRetry d).1.gauge = d.gauge
      ∧ (stripRetry d).1.log = d.log ∧ (stripRetry d).1.link = d.link ∧ (stripRetry d).1.counts = d.counts := by
  unfold stripRetry; split <;> simp

@[simp] theorem stripDiscard_frame (d : Device) :
    (stripDiscard d).1.time = d.time ∧ (stripDiscard d).1.tables = d.tables ∧ (stripDiscard d).1.stored = d.stored
      ∧ (stripDiscard d).1.pace = d.pace ∧ (stripDiscard d).1.climate = d.climate ∧ (stripDiscard d).1.die = d.die
      ∧ (stripDiscard d).1.spread = d.spread ∧ (stripDiscard d).1.gauge = d.gauge ∧ (stripDiscard d).1.log = d.log := by
  unfold stripDiscard; split <;> simp

@[simp] theorem stripPause_frame (d : Device) :
    (stripPause d).1.time = d.time ∧ (stripPause d).1.tables = d.tables ∧ (stripPause d).1.stored = d.stored
      ∧ (stripPause d).1.track = d.track ∧ (stripPause d).1.pace = d.pace ∧ (stripPause d).1.climate = d.climate
      ∧ (stripPause d).1.die = d.die ∧ (stripPause d).1.spread = d.spread ∧ (stripPause d).1.gauge = d.gauge
      ∧ (stripPause d).1.log = d.log ∧ (stripPause d).1.link = d.link ∧ (stripPause d).1.counts = d.counts := by
  simp [stripPause, Device.setPause]

@[simp] theorem stripResume_frame (d : Device) :
    (stripResume d).1.time = d.time ∧ (stripResume d).1.tables = d.tables ∧ (stripResume d).1.stored = d.stored
      ∧ (stripResume d).1.track = d.track ∧ (stripResume d).1.pace = d.pace ∧ (stripResume d).1.climate = d.climate
      ∧ (stripResume d).1.die = d.die ∧ (stripResume d).1.spread = d.spread ∧ (stripResume d).1.gauge = d.gauge
      ∧ (stripResume d).1.log = d.log ∧ (stripResume d).1.link = d.link ∧ (stripResume d).1.counts = d.counts := by
  simp [stripResume, Device.setPause]

@[simp] theorem Device.declareLane_frame (lane n : Nat) (d : Device) :
    (d.declareLane lane n).time = d.time ∧ (d.declareLane lane n).tables = d.tables
      ∧ (d.declareLane lane n).stored = d.stored ∧ (d.declareLane lane n).pace = d.pace
      ∧ (d.declareLane lane n).climate = d.climate ∧ (d.declareLane lane n).die = d.die
      ∧ (d.declareLane lane n).spread = d.spread ∧ (d.declareLane lane n).gauge = d.gauge
      ∧ (d.declareLane lane n).log = d.log ∧ (d.declareLane lane n).link = d.link
      ∧ (d.declareLane lane n).counts = d.counts ∧ (d.declareLane lane n).mail = d.mail
      ∧ (d.declareLane lane n).bus = d.bus := by
  obtain ⟨new, -, -, -, h⟩ := Device.declareMany_eq lane n d
  rw [Device.declareLane, h]; simp

@[simp] theorem laneDeclare_frame (lane n : Nat) (d : Device) :
    (laneDeclare lane n d).1.time = d.time ∧ (laneDeclare lane n d).1.tables = d.tables
      ∧ (laneDeclare lane n d).1.stored = d.stored ∧ (laneDeclare lane n d).1.pace = d.pace
      ∧ (laneDeclare lane n d).1.climate = d.climate ∧ (laneDeclare lane n d).1.die = d.die
      ∧ (laneDeclare lane n d).1.spread = d.spread ∧ (laneDeclare lane n d).1.gauge = d.gauge
      ∧ (laneDeclare lane n d).1.log = d.log := by
  simp only [laneDeclare]; repeat' split
  all_goals simp

@[simp] theorem returnDeclare_frame (n : Nat) (d : Device) :
    (returnDeclare n d).1.time = d.time ∧ (returnDeclare n d).1.tables = d.tables
      ∧ (returnDeclare n d).1.stored = d.stored ∧ (returnDeclare n d).1.pace = d.pace
      ∧ (returnDeclare n d).1.climate = d.climate ∧ (returnDeclare n d).1.die = d.die
      ∧ (returnDeclare n d).1.gauge = d.gauge ∧ (returnDeclare n d).1.log = d.log := by
  simp only [returnDeclare, Device.setReturn]; split <;> simp

@[simp] theorem rodAdd_frame (n : Nat) (d : Device) :
    (rodAdd n d).1.time = d.time ∧ (rodAdd n d).1.tables = d.tables ∧ (rodAdd n d).1.stored = d.stored
      ∧ (rodAdd n d).1.pace = d.pace ∧ (rodAdd n d).1.climate = d.climate ∧ (rodAdd n d).1.die = d.die
      ∧ (rodAdd n d).1.gauge = d.gauge ∧ (rodAdd n d).1.log = d.log ∧ (rodAdd n d).1.link = d.link
      ∧ (rodAdd n d).1.counts = d.counts := by
  simp only [rodAdd, Device.setReturn]; repeat' split
  all_goals simp

@[simp] theorem rodRemoveReturn_frame (n : Nat) (d : Device) :
    (rodRemoveReturn n d).1.time = d.time ∧ (rodRemoveReturn n d).1.tables = d.tables
      ∧ (rodRemoveReturn n d).1.stored = d.stored ∧ (rodRemoveReturn n d).1.pace = d.pace
      ∧ (rodRemoveReturn n d).1.climate = d.climate ∧ (rodRemoveReturn n d).1.die = d.die
      ∧ (rodRemoveReturn n d).1.spread = d.spread ∧ (rodRemoveReturn n d).1.gauge = d.gauge
      ∧ (rodRemoveReturn n d).1.log = d.log ∧ (rodRemoveReturn n d).1.link = d.link
      ∧ (rodRemoveReturn n d).1.counts = d.counts := by
  simp only [rodRemoveReturn, Device.setReturn]; repeat' split
  all_goals simp

@[simp] theorem rodRemoveSpill_frame (place : Byte) (n : Nat) (d : Device) :
    (rodRemoveSpill place n d).1.time = d.time ∧ (rodRemoveSpill place n d).1.tables = d.tables
      ∧ (rodRemoveSpill place n d).1.stored = d.stored ∧ (rodRemoveSpill place n d).1.pace = d.pace
      ∧ (rodRemoveSpill place n d).1.climate = d.climate ∧ (rodRemoveSpill place n d).1.die = d.die
      ∧ (rodRemoveSpill place n d).1.spread = d.spread ∧ (rodRemoveSpill place n d).1.gauge = d.gauge
      ∧ (rodRemoveSpill place n d).1.log = d.log ∧ (rodRemoveSpill place n d).1.link = d.link
      ∧ (rodRemoveSpill place n d).1.counts = d.counts := by
  simp only [rodRemoveSpill]; repeat' split
  all_goals simp

/-! The gauge unit, the zone unit's requests, the press and the fault log. -/

@[simp] theorem Device.gaugeFail_frame (n : Nat) (d : Device) :
    (d.gaugeFail n).time = d.time ∧ (d.gaugeFail n).tables = d.tables ∧ (d.gaugeFail n).stored = d.stored
      ∧ (d.gaugeFail n).track = d.track ∧ (d.gaugeFail n).pace = d.pace ∧ (d.gaugeFail n).climate = d.climate
      ∧ (d.gaugeFail n).die = d.die ∧ (d.gaugeFail n).spread = d.spread ∧ (d.gaugeFail n).acc = d.acc
      ∧ (d.gaugeFail n).log = d.log ∧ (d.gaugeFail n).link = d.link ∧ (d.gaugeFail n).counts = d.counts
      ∧ (d.gaugeFail n).bus = d.bus ∧ (d.gaugeFail n).gauge.factors = d.gauge.factors := by
  unfold Device.gaugeFail; repeat' split
  all_goals simp

@[simp] theorem Device.gaugeExpired_frame (d : Device) :
    d.gaugeExpired.time = d.time ∧ d.gaugeExpired.tables = d.tables ∧ d.gaugeExpired.stored = d.stored
      ∧ d.gaugeExpired.track = d.track ∧ d.gaugeExpired.pace = d.pace ∧ d.gaugeExpired.climate = d.climate
      ∧ d.gaugeExpired.die = d.die ∧ d.gaugeExpired.spread = d.spread ∧ d.gaugeExpired.acc = d.acc
      ∧ d.gaugeExpired.log = d.log ∧ d.gaugeExpired.link = d.link ∧ d.gaugeExpired.counts = d.counts
      ∧ d.gaugeExpired.bus = d.bus ∧ d.gaugeExpired.gauge.factors = d.gauge.factors := by
  unfold Device.gaugeExpired; split <;> simp

@[simp] theorem sampleNow_frame (d : Device) :
    (sampleNow d).1.time = d.time ∧ (sampleNow d).1.tables = d.tables ∧ (sampleNow d).1.stored = d.stored
      ∧ (sampleNow d).1.track = d.track ∧ (sampleNow d).1.pace = d.pace ∧ (sampleNow d).1.die = d.die
      ∧ (sampleNow d).1.spread = d.spread ∧ (sampleNow d).1.acc = d.acc ∧ (sampleNow d).1.gauge = d.gauge
      ∧ (sampleNow d).1.log = d.log ∧ (sampleNow d).1.link = d.link ∧ (sampleNow d).1.counts = d.counts
      ∧ (sampleNow d).1.mail = d.mail ∧ (sampleNow d).1.climate.zones = d.climate.zones := by
  unfold sampleNow; split <;> simp

@[simp] theorem Device.periodicExpired_frame (d : Device) :
    d.periodicExpired.time = d.time ∧ d.periodicExpired.tables = d.tables ∧ d.periodicExpired.stored = d.stored
      ∧ d.periodicExpired.track = d.track ∧ d.periodicExpired.pace = d.pace ∧ d.periodicExpired.die = d.die
      ∧ d.periodicExpired.spread = d.spread ∧ d.periodicExpired.acc = d.acc ∧ d.periodicExpired.gauge = d.gauge
      ∧ d.periodicExpired.log = d.log ∧ d.periodicExpired.link = d.link ∧ d.periodicExpired.mail = d.mail
      ∧ d.periodicExpired.climate.zones = d.climate.zones := by
  simp [Device.periodicExpired]

@[simp] theorem Device.settleExpired_frame (z : Nat) (d : Device) :
    (d.settleExpired z).time = d.time ∧ (d.settleExpired z).tables = d.tables
      ∧ (d.settleExpired z).stored = d.stored ∧ (d.settleExpired z).track = d.track
      ∧ (d.settleExpired z).pace = d.pace ∧ (d.settleExpired z).die = d.die ∧ (d.settleExpired z).spread = d.spread
      ∧ (d.settleExpired z).acc = d.acc ∧ (d.settleExpired z).gauge = d.gauge ∧ (d.settleExpired z).log = d.log
      ∧ (d.settleExpired z).link = d.link ∧ (d.settleExpired z).counts = d.counts
      ∧ (d.settleExpired z).mail = d.mail ∧ (d.settleExpired z).bus = d.bus := by
  simp [Device.settleExpired]

@[simp] theorem faultClear_frame (kinds : List Byte) (d : Device) :
    (faultClear kinds d).1.time = d.time ∧ (faultClear kinds d).1.tables = d.tables
      ∧ (faultClear kinds d).1.stored = d.stored ∧ (faultClear kinds d).1.track = d.track
      ∧ (faultClear kinds d).1.pace = d.pace ∧ (faultClear kinds d).1.climate = d.climate
      ∧ (faultClear kinds d).1.die = d.die ∧ (faultClear kinds d).1.spread = d.spread
      ∧ (faultClear kinds d).1.acc = d.acc ∧ (faultClear kinds d).1.gauge = d.gauge
      ∧ (faultClear kinds d).1.link = d.link ∧ (faultClear kinds d).1.counts = d.counts
      ∧ (faultClear kinds d).1.mail = d.mail ∧ (faultClear kinds d).1.bus = d.bus := by
  simp only [faultClear, Device.clearKinds]; split <;> simp

@[simp] theorem dieRelease_frame (station : Byte) (d : Device) :
    (dieRelease station d).1.time = d.time ∧ (dieRelease station d).1.tables = d.tables
      ∧ (dieRelease station d).1.stored = d.stored ∧ (dieRelease station d).1.track = d.track
      ∧ (dieRelease station d).1.pace = d.pace ∧ (dieRelease station d).1.climate = d.climate
      ∧ (dieRelease station d).1.spread = d.spread ∧ (dieRelease station d).1.acc = d.acc
      ∧ (dieRelease station d).1.gauge = d.gauge ∧ (dieRelease station d).1.log = d.log := by
  simp only [dieRelease, withSide]; repeat' split
  all_goals simp

@[simp] theorem dieKeep_frame (station : Byte) (d : Device) :
    (dieKeep station d).1.time = d.time ∧ (dieKeep station d).1.tables = d.tables
      ∧ (dieKeep station d).1.stored = d.stored ∧ (dieKeep station d).1.track = d.track
      ∧ (dieKeep station d).1.pace = d.pace ∧ (dieKeep station d).1.climate = d.climate
      ∧ (dieKeep station d).1.spread = d.spread ∧ (dieKeep station d).1.acc = d.acc
      ∧ (dieKeep station d).1.gauge = d.gauge ∧ (dieKeep station d).1.log = d.log := by
  simp only [dieKeep, withSide]; repeat' split
  all_goals simp

@[simp] theorem dieReread_frame (station : Byte) (d : Device) :
    (dieReread station d).1.time = d.time ∧ (dieReread station d).1.tables = d.tables
      ∧ (dieReread station d).1.stored = d.stored ∧ (dieReread station d).1.track = d.track
      ∧ (dieReread station d).1.pace = d.pace ∧ (dieReread station d).1.climate = d.climate
      ∧ (dieReread station d).1.spread = d.spread ∧ (dieReread station d).1.acc = d.acc
      ∧ (dieReread station d).1.gauge = d.gauge ∧ (dieReread station d).1.log = d.log := by
  simp only [dieReread, withSide]; repeat' split
  all_goals simp

@[simp] theorem dieSwap_frame (station : Byte) (d : Device) :
    (dieSwap station d).1.time = d.time ∧ (dieSwap station d).1.tables = d.tables
      ∧ (dieSwap station d).1.stored = d.stored ∧ (dieSwap station d).1.track = d.track
      ∧ (dieSwap station d).1.pace = d.pace ∧ (dieSwap station d).1.climate = d.climate
      ∧ (dieSwap station d).1.spread = d.spread ∧ (dieSwap station d).1.acc = d.acc
      ∧ (dieSwap station d).1.gauge = d.gauge ∧ (dieSwap station d).1.log = d.log := by
  simp only [dieSwap, withSide]; repeat' split
  all_goals simp

@[simp] theorem pressStart_frame (d : Device) :
    (pressStart d).1.time = d.time ∧ (pressStart d).1.tables = d.tables ∧ (pressStart d).1.stored = d.stored
      ∧ (pressStart d).1.track = d.track ∧ (pressStart d).1.pace = d.pace ∧ (pressStart d).1.climate = d.climate
      ∧ (pressStart d).1.spread = d.spread ∧ (pressStart d).1.acc = d.acc ∧ (pressStart d).1.gauge = d.gauge
      ∧ (pressStart d).1.log = d.log := by
  simp only [pressStart]; repeat' split
  all_goals simp [Device.setPress_frame_of_ne]

@[simp] theorem pressStop_frame (d : Device) :
    (pressStop d).1.time = d.time ∧ (pressStop d).1.tables = d.tables ∧ (pressStop d).1.stored = d.stored
      ∧ (pressStop d).1.track = d.track ∧ (pressStop d).1.pace = d.pace ∧ (pressStop d).1.climate = d.climate
      ∧ (pressStop d).1.spread = d.spread ∧ (pressStop d).1.acc = d.acc ∧ (pressStop d).1.gauge = d.gauge
      ∧ (pressStop d).1.log = d.log := by
  simp [pressStop]

end Sys2Proof.Machine
end

section
/-! SUPPORT. What each operation does to the host link. The operations of the blocks place notices and change nothing else
of it, and the notice queue and its dropped-since count stay within their sizes (R190). -/

namespace Sys2Proof.Machine

/-- The link but for its notice queue. -/
def Link.silent (l : Link) : Link := { l with notices := [], droppedSince := 0 }

/-- The notice queue and the dropped-since count are within their sizes (R190). -/
def Link.fits (l : Link) : Prop := l.notices.length ≤ 32 ∧ l.droppedSince ≤ 65535

@[simp] theorem Device.notify_link (n : Notice) (d : Device) :
    (d.notify n).link.silent = d.link.silent ∧ (d.link.fits → (d.notify n).link.fits) := by
  obtain ⟨room, h⟩ | ⟨-, h⟩ := d.notify_cases n <;> rw [h]
  · exact ⟨rfl, fun ⟨_, dropped⟩ => ⟨by rw [List.length_append]; exact room, dropped⟩⟩
  · exact ⟨rfl, fun ⟨size, _⟩ => ⟨size, Nat.min_le_left _ _⟩⟩

@[simp] theorem Device.notifyLine_link (e : LineEvent) (d : Device) :
    (d.notifyLine e).link.silent = d.link.silent ∧ (d.link.fits → (d.notifyLine e).link.fits) := d.notify_link _

@[simp] theorem Device.notifyDie_link (e : DieEvent) (d : Device) :
    (d.notifyDie e).link.silent = d.link.silent ∧ (d.link.fits → (d.notifyDie e).link.fits) := d.notify_link _

@[simp] theorem Device.closeRod_link (o : CloseOutcome) (r : Rod) (d : Device) :
    (d.closeRod o r).link.silent = d.link.silent ∧ (d.link.fits → (d.closeRod o r).link.fits) := d.notify_link _

/-! The tunnel track. -/

@[simp] theorem Device.unestablish_link (d : Device) :
    d.unestablish.link.silent = d.link.silent ∧ (d.link.fits → d.unestablish.link.fits) := by
  simp only [Device.unestablish]; repeat' split
  all_goals simp -implicitDefEqProofs +contextual

@[simp] theorem Device.establish_link (d : Device) :
    d.establish.link.silent = d.link.silent ∧ (d.link.fits → d.establish.link.fits) := by
  obtain h | ⟨-, -, h⟩ := d.establish_cases <;> rw [h] <;> simp -implicitDefEqProofs +contextual

@[simp] theorem Device.returnRod_link (c : Context) (d : Device) :
    (d.returnRod c).link.silent = d.link.silent ∧ (d.link.fits → (d.returnRod c).link.fits) := by
  simp -implicitDefEqProofs +contextual

@[simp] theorem Device.dischargeFree_link (disp : Disposition) (l : Nat) (r : Rod) (d : Device) :
    (d.dischargeFree disp l r).link.silent = d.link.silent ∧ (d.link.fits → (d.dischargeFree disp l r).link.fits) := by
  simp only [Device.dischargeFree]; repeat' split
  all_goals simp -implicitDefEqProofs +contextual

@[simp] theorem Device.dischargeUntracked_link (d : Device) :
    d.dischargeUntracked.link.silent = d.link.silent ∧ (d.link.fits → d.dischargeUntracked.link.fits) := by
  have link : d.assignId.link = d.link := rfl
  rw [Device.dischargeUntracked, ← link]
  exact Device.dischargeFree_link _ _ _ _

@[simp] theorem Device.reconcile_link (o : ShiftOrder) (c : Content) (d : Device) :
    (d.reconcile o c).link.silent = d.link.silent ∧ (d.link.fits → (d.reconcile o c).link.fits) := by
  cases c with
  | loaded r => simp only [Device.reconcile, Device.reconcileLoaded]; repeat' split
                all_goals simp -implicitDefEqProofs +contextual
  | empty => simp only [Device.reconcile, Device.reconcileEmpty]; split <;> simp -implicitDefEqProofs +contextual
  | gap => simp only [Device.reconcile, Device.reconcileGap]; split <;> simp -implicitDefEqProofs +contextual
  | unknown => simp only [Device.reconcile, Device.reconcileUnknown]; split <;> simp -implicitDefEqProofs +contextual

@[simp] theorem Device.shift_link (o : ShiftOrder) (d : Device) :
    (d.shift o).link.silent = d.link.silent ∧ (d.link.fits → (d.shift o).link.fits) := by
  simp -implicitDefEqProofs +contextual [Device.shift]

@[simp] theorem Device.shiftAndReport_link (o : ShiftOrder) (late : Bool) (d : Device) :
    (d.shiftAndReport o late).link.silent = d.link.silent ∧ (d.link.fits → (d.shiftAndReport o late).link.fits) := by
  simp -implicitDefEqProofs +contextual [Device.shiftAndReport]

@[simp] theorem Device.closeAll_link (o : CloseOutcome) (rods : List Rod) (d : Device) :
    (d.closeAll o rods).link.silent = d.link.silent ∧ (d.link.fits → (d.closeAll o rods).link.fits) := by
  induction rods generalizing d with
  | nil => exact ⟨rfl, id⟩
  | cons r rods ih =>
    obtain ⟨silent, fits⟩ := ih (d.closeRod o r)
    exact ⟨silent.trans (d.closeRod_link o r).1, fun h => fits ((d.closeRod_link o r).2 h)⟩

@[simp] theorem trackForget_link (d : Device) :
    (trackForget d).1.link.silent = d.link.silent ∧ (d.link.fits → (trackForget d).1.link.fits) := by
  simp only [trackForget]; repeat' split
  all_goals simp -implicitDefEqProofs +contextual

/-! The pacing unit. -/

@[simp] theorem Device.stopLine_link (cause : StopCause) (d : Device) :
    (d.stopLine cause).link.silent = d.link.silent ∧ (d.link.fits → (d.stopLine cause).link.fits) := by
  simp only [Device.stopLine]; repeat' split
  all_goals simp -implicitDefEqProofs +contextual

@[simp] theorem lineRun_link (d : Device) :
    (lineRun d).1.link.silent = d.link.silent ∧ (d.link.fits → (lineRun d).1.link.fits) := by
  simp only [lineRun]; repeat' split
  all_goals simp -implicitDefEqProofs +contextual

@[simp] theorem Device.moveDone_link (n : Nat) (seen : Sighting) (d : Device) :
    (d.moveDone n seen).link.silent = d.link.silent ∧ (d.link.fits → (d.moveDone n seen).link.fits) := by
  simp only [Device.moveDone, Device.lateDone, Device.ignoreDone]; repeat' split
  all_goals simp -implicitDefEqProofs +contextual

@[simp] theorem Device.notMoved_link (m : Move) (d : Device) :
    (d.notMoved m).link.silent = d.link.silent ∧ (d.link.fits → (d.notMoved m).link.fits) := by
  simp -implicitDefEqProofs +contextual [Device.notMoved]

@[simp] theorem moveResolveMoved_link (d : Device) :
    (moveResolveMoved d).1.link.silent = d.link.silent ∧ (d.link.fits → (moveResolveMoved d).1.link.fits) := by
  simp only [moveResolveMoved]; repeat' split
  all_goals simp -implicitDefEqProofs +contextual

@[simp] theorem moveResolveNotMoved_link (outcome : Byte) (d : Device) :
    (moveResolveNotMoved outcome d).1.link.silent = d.link.silent
      ∧ (d.link.fits → (moveResolveNotMoved outcome d).1.link.fits) := by
  simp only [moveResolveNotMoved]; repeat' split
  all_goals simp -implicitDefEqProofs +contextual

@[simp] theorem Device.moveExpired_link (d : Device) :
    d.moveExpired.link.silent = d.link.silent ∧ (d.link.fits → d.moveExpired.link.fits) := by
  simp -implicitDefEqProofs +contextual [Device.moveExpired]

/-! The die carriage unit. -/

@[simp] theorem Device.setPress_link (p : PressState) (d : Device) :
    (d.setPress p).link.silent = d.link.silent ∧ (d.link.fits → (d.setPress p).link.fits) := by
  obtain ⟨rfl, h⟩ | ⟨-, -, h⟩ | ⟨-, -, h⟩ := d.setPress_cases p <;> rw [h] <;> simp -implicitDefEqProofs +contextual

@[simp] theorem Device.stopPress_link (d : Device) :
    d.stopPress.link.silent = d.link.silent ∧ (d.link.fits → d.stopPress.link.fits) := by
  obtain ⟨-, h⟩ | ⟨-, h⟩ := d.stopPress_cases <;> rw [h] <;> simp -implicitDefEqProofs +contextual

@[simp] theorem Device.pressFault_link (d : Device) :
    d.pressFault.link.silent = d.link.silent ∧ (d.link.fits → d.pressFault.link.fits) := by
  simp -implicitDefEqProofs +contextual [Device.pressFault]

@[simp] theorem Device.pressStarted_link (d : Device) :
    d.pressStarted.link.silent = d.link.silent ∧ (d.link.fits → d.pressStarted.link.fits) := by
  simp only [Device.pressStarted]; repeat' split
  all_goals simp -implicitDefEqProofs +contextual

@[simp] theorem Device.pressHalted_link (d : Device) :
    d.pressHalted.link.silent = d.link.silent ∧ (d.link.fits → d.pressHalted.link.fits) := by
  simp only [Device.pressHalted]; repeat' split
  all_goals simp -implicitDefEqProofs +contextual

@[simp] theorem pressStart_link (d : Device) :
    (pressStart d).1.link.silent = d.link.silent ∧ (d.link.fits → (pressStart d).1.link.fits) := by
  simp only [pressStart]; repeat' split
  all_goals simp -implicitDefEqProofs +contextual

@[simp] theorem Device.leaveActive_link (d : Device) :
    d.leaveActive.link.silent = d.link.silent ∧ (d.link.fits → d.leaveActive.link.fits) := by
  simp -implicitDefEqProofs +contextual [Device.leaveActive]

@[simp] theorem Device.surprise_link (side : Side) (dest : StationState) (d : Device) :
    (d.surprise side dest).link.silent = d.link.silent ∧ (d.link.fits → (d.surprise side dest).link.fits) := by
  simp only [Device.surprise]; repeat' split
  all_goals simp -implicitDefEqProofs +contextual

@[simp] theorem Device.presenceEvent_link (side : Side) (on : Bool) (d : Device) :
    (d.presenceEvent side on).link.silent = d.link.silent ∧ (d.link.fits → (d.presenceEvent side on).link.fits) := by
  simp only [Device.presenceEvent]; repeat' split
  all_goals simp -implicitDefEqProofs +contextual

@[simp] theorem Device.clampEvent_link (side : Side) (closed : Bool) (d : Device) :
    (d.clampEvent side closed).link.silent = d.link.silent ∧ (d.link.fits → (d.clampEvent side closed).link.fits) := by
  simp only [Device.clampEvent]; repeat' split
  all_goals simp -implicitDefEqProofs +contextual

@[simp] theorem Device.release_link (side : Side) (d : Device) :
    (d.release side).link.silent = d.link.silent ∧ (d.link.fits → (d.release side).link.fits) := by
  simp only [Device.release]; repeat' split
  all_goals simp -implicitDefEqProofs +contextual

@[simp] theorem Device.startCarriage_link (target : Side) (d : Device) :
    (d.startCarriage target).link.silent = d.link.silent ∧ (d.link.fits → (d.startCarriage target).link.fits) := by
  simp only [Device.startCarriage]; repeat' split
  all_goals simp -implicitDefEqProofs +contextual

/-- An event of the die carriage unit places a DIE_STATE notice beside what its act does to the link. -/
theorem dieEvent_link {act : Device → Device} {d : Device}
    (keeps : (act d).link.silent = d.link.silent ∧ (d.link.fits → (act d).link.fits)) :
    (dieEvent act d).link.silent = d.link.silent ∧ (d.link.fits → (dieEvent act d).link.fits) := by
  obtain ⟨silent, fits⟩ := keeps
  obtain ⟨-, h⟩ | ⟨-, h⟩ := dieEvent_cases act d <;> rw [h]
  · exact ⟨silent, fits⟩
  · exact ⟨(Device.notifyDie_link _ _).1.trans silent, fun h => (Device.notifyDie_link _ _).2 (fits h)⟩

@[simp] theorem dieRelease_link (station : Byte) (d : Device) :
    (dieRelease station d).1.link.silent = d.link.silent ∧ (d.link.fits → (dieRelease station d).1.link.fits) := by
  simp only [dieRelease, withSide]; repeat' split
  all_goals simp -implicitDefEqProofs +contextual [dieEvent_link]

@[simp] theorem dieKeep_link (station : Byte) (d : Device) :
    (dieKeep station d).1.link.silent = d.link.silent ∧ (d.link.fits → (dieKeep station d).1.link.fits) := by
  simp only [dieKeep, withSide]; repeat' split
  all_goals simp -implicitDefEqProofs +contextual [dieEvent_link]

@[simp] theorem dieReread_link (station : Byte) (d : Device) :
    (dieReread station d).1.link.silent = d.link.silent ∧ (d.link.fits → (dieReread station d).1.link.fits) := by
  simp only [dieReread, withSide]; repeat' split
  all_goals simp -implicitDefEqProofs +contextual [dieEvent_link]

@[simp] theorem dieSwap_link (station : Byte) (d : Device) :
    (dieSwap station d).1.link.silent = d.link.silent ∧ (d.link.fits → (dieSwap station d).1.link.fits) := by
  simp only [dieSwap, withSide]; repeat' split
  all_goals simp -implicitDefEqProofs +contextual [dieEvent_link]

/-! The zone unit. -/

@[simp] theorem Device.endRound_link (r : Round) (results : List ZoneResult) (d : Device) :
    (d.endRound r results).link.silent = d.link.silent ∧ (d.link.fits → (d.endRound r results).link.fits) := by
  simp -implicitDefEqProofs +contextual [Device.endRound]

@[simp] theorem Device.nextZone_link (r : Round) (outcome : ReadOutcome) (set : Option Bool) (d : Device) :
    (d.nextZone r outcome set).link.silent = d.link.silent ∧ (d.link.fits → (d.nextZone r outcome set).link.fits) := by
  simp only [Device.nextZone]; split <;> simp -implicitDefEqProofs +contextual

@[simp] theorem Device.tellMonitor_link (z : Nat) (e : ZoneEntry) (m : Monitor) (t : Transition) (reading setpoint band : Nat) (d : Device) :
    (d.tellMonitor z e m t reading setpoint band).link.silent = d.link.silent
      ∧ (d.link.fits → (d.tellMonitor z e m t reading setpoint band).link.fits) := by
  simp only [Device.tellMonitor]; repeat' split
  all_goals simp -implicitDefEqProofs +contextual

@[simp] theorem Device.evaluate_link (z : Nat) (e : ZoneEntry) (m : Monitor) (reading : Nat) (d : Device) :
    (d.evaluate z e m reading).link.silent = d.link.silent ∧ (d.link.fits → (d.evaluate z e m reading).link.fits) := by
  simp only [Device.evaluate]; repeat' split
  all_goals simp -implicitDefEqProofs +contextual

@[simp] theorem Device.monitors_link (z temp hum : Nat) (d : Device) :
    (d.monitors z temp hum).link.silent = d.link.silent ∧ (d.link.fits → (d.monitors z temp hum).link.fits) := by
  simp only [Device.monitors]; repeat' split
  all_goals simp -implicitDefEqProofs +contextual

@[simp] theorem Device.takeReply_link (z : Nat) (r : ModuleReply) (d : Device) :
    (d.takeReply z r).1.link.silent = d.link.silent ∧ (d.link.fits → (d.takeReply z r).1.link.fits) := by
  simp only [Device.takeReply, Device.mismatch, Device.settlingReply, Device.takeReading]; repeat' split
  all_goals simp -implicitDefEqProofs +contextual

@[simp] theorem Device.readReply_link (n : Nat) (r : ModuleReply) (d : Device) :
    (d.readReply n r).link.silent = d.link.silent ∧ (d.link.fits → (d.readReply n r).link.fits) := by
  simp only [Device.readReply]; repeat' split
  all_goals simp -implicitDefEqProofs +contextual

@[simp] theorem Device.readExpired_link (d : Device) :
    d.readExpired.link.silent = d.link.silent ∧ (d.link.fits → d.readExpired.link.fits) := by
  simp only [Device.readExpired]; repeat' split
  all_goals simp -implicitDefEqProofs +contextual

@[simp] theorem Device.endSet_link (ok : Bool) (d : Device) :
    (d.endSet ok).link.silent = d.link.silent ∧ (d.link.fits → (d.endSet ok).link.fits) := by
  simp only [Device.endSet]; repeat' split
  all_goals simp -implicitDefEqProofs +contextual

@[simp] theorem Device.setReply_link (n : Nat) (ok : Bool) (d : Device) :
    (d.setReply n ok).link.silent = d.link.silent ∧ (d.link.fits → (d.setReply n ok).link.fits) := by
  simp only [Device.setReply]; repeat' split
  all_goals simp -implicitDefEqProofs +contextual

/-! The accumulator unit and the fault log. -/

@[simp] theorem Device.stripDone_link (n : Nat) (d : Device) :
    (d.stripDone n).link.silent = d.link.silent ∧ (d.link.fits → (d.stripDone n).link.fits) := by
  simp only [Device.stripDone, Device.completeStrip, Device.ignoreStripDone]; repeat' split
  all_goals simp -implicitDefEqProofs +contextual

@[simp] theorem stripDiscard_link (d : Device) :
    (stripDiscard d).1.link.silent = d.link.silent ∧ (d.link.fits → (stripDiscard d).1.link.fits) := by
  simp only [stripDiscard]; repeat' split
  all_goals simp -implicitDefEqProofs +contextual

@[simp] theorem laneDeclare_link (lane n : Nat) (d : Device) :
    (laneDeclare lane n d).1.link.silent = d.link.silent ∧ (d.link.fits → (laneDeclare lane n d).1.link.fits) := by
  simp only [laneDeclare]; repeat' split
  all_goals simp -implicitDefEqProofs +contextual

@[simp] theorem returnDeclare_link (n : Nat) (d : Device) :
    (returnDeclare n d).1.link.silent = d.link.silent ∧ (d.link.fits → (returnDeclare n d).1.link.fits) := by
  simp only [returnDeclare, Device.setReturn]; repeat' split
  all_goals simp -implicitDefEqProofs +contextual

@[simp] theorem Device.takeRaise_link (k : FaultKind) (c : Context) (d : Device) :
    (d.takeRaise k c).link.silent = d.link.silent ∧ (d.link.fits → (d.takeRaise k c).link.fits) := by
  obtain ⟨-, h⟩ | ⟨-, h⟩ := d.takeRaise_cases k c
  · rw [h]; simp [Device.countRaise]
  · have first (e : Device) : (e.fillFirst k c).link = e.link := by
      unfold Device.fillFirst; split <;> rfl
    rw [h]
    cases (d.faultSetting k).severity <;>
      simp -implicitDefEqProofs +contextual [Device.faultAction, Device.faultNotice, Device.setStatus, Device.countRaise, first]

end Sys2Proof.Machine
end

section
/-! SUPPORT. The table of the blocks that each command's effect may change, that it changes no other, and from it the
induction step of every law: a law that ignores the link port's wrapping is kept by a step if each effect keeps it. -/

namespace Sys2Proof.Machine

/-- The blocks of the part that a law may speak of. The stored copy includes the store's write in flight, and the link is
all of it but the notice queue. -/
inductive Block where
  | tables | stored | track | pace | climate | die | spread | acc | gauge | log | link
  deriving DecidableEq, Repr

/-- The blocks that a command's effect may change. -/
def touched (i : Instr) : List Block :=
  match i with
  | .powerUp .. => [.tables, .stored, .track, .pace, .climate, .die, .spread, .acc, .gauge, .log, .link]
  | .hostFrame .. | .frameGapTimeout | .frameSent => [.link]
  | .tableWriteTunnel .. => [.tables, .track]
  | .tableWriteProfile .. | .tableWriteFormatMap .. | .tableWriteFaultSettings .. | .tableWriteDieSettings ..
  | .tableWriteGaugeSettings .. => [.tables]
  | .tableWriteZoneLayout .. | .tableWriteSampling .. => [.tables, .climate]
  | .tableWriteLanes .. | .tableWriteDisposition .. | .tableWriteAccumulatorSettings .. => [.tables, .acc]
  | .tableWritePacing .. => [.tables, .pace]
  | .tableWriteSpreaderSettings .. => [.tables, .spread, .acc]
  | .lineRun .. | .lineStop .. | .stopOrder .. | .paceRestart .. | .moveLimitExpiry => [.pace]
  | .jog .. | .moveResolveMoved .. | .moveResolveNotMoved .. | .pitchTimerExpiry | .pressScrewPulse .. | .attemptRetry ..
  | .moveDone .. => [.track, .pace, .spread, .acc]
  | .shiftDoneReport .. => [.track, .pace, .climate, .spread, .acc, .gauge]
  | .standstillExpiry | .trackForget .. => [.track]
  | .rodMark .. => [.track, .spread]
  | .loadDone .. => [.track, .die, .spread]
  | .loadFailed .. | .loadLimitExpiry | .batchNew .. => [.spread]
  | .presenceEvent .. | .debounceExpiry .. | .clampEvent .. | .buttonEvent .. | .memoryExchangeExpiry .. | .memoryWriteReply ..
  | .dieRelease .. | .dieKeep .. | .dieReread .. | .dieSwap .. | .carriageQueryExpiry | .carriageMoveExpiry
  | .pressStart .. | .pressStop .. | .pressStopOrder | .pressHalted | .pressFaultReport | .pressAckExpiry => [.die]
  | .memoryReadReply .. | .carriageQueryAnswer .. | .carriageDone .. | .pressStarted => [.die, .spread, .acc]
  | .periodicTimerExpiry | .sampleNow .. | .readReply .. | .readLimitExpiry | .setReply .. | .setLimitExpiry
  | .settleTimerRunOut .. | .setpointRecomputeOrder .. | .talliesHanded .. | .zoneAccept .. => [.climate]
  | .gaugeResult .. => [.track, .acc, .gauge]
  | .gaugeFailReport .. | .gaugeLimitExpiry | .correctionResetOrder .. => [.gauge]
  | .stripDone .. | .returnDeclare .. | .rodAdd .. => [.track, .spread, .acc]
  | .stripDiscard .. | .laneDeclare .. | .rodRemoveReturn .. | .rodRemoveSpill .. => [.track, .acc]
  | .stripFaultReport .. | .stripLimitExpiry | .stripRetry .. | .stripPause .. | .stripResume .. => [.acc]
  | .faultRaise .. | .faultClear .. => [.log]
  | .store .. | .storeWriteEnd .. | .storeLimitExpiry => [.stored, .link]
  | .restart .. => [.log, .link]
  | _ => []

/-- An expiry leaves of the part what its event leaves: it moves the time, or does nothing. -/
theorem expire_keeps {α : Sort*} (proj : Device → α) {deadline : Option Nat} {act : Device → Device} {d : Device}
    (keeps : ∀ time, proj (act { d with time := time }) = proj d) : proj (expire deadline act d) = proj d := by
  cases deadline with
  | none => rfl
  | some t => exact keeps _

/-- An expiry of a limit that does not count changes nothing; otherwise its event follows at its moment. -/
theorem expire_induct {P : Device → Prop} {deadline : Option Nat} {act : Device → Device} {d : Device} (stays : P d)
    (expires : ∀ t, deadline = some t → P (act { d with time := max d.time t })) : P (expire deadline act d) := by
  cases deadline with
  | none => exact stays
  | some t => exact expires t rfl

@[simp] theorem Device.frameTimedOut_frame (d : Device) :
    d.frameTimedOut.time = d.time ∧ d.frameTimedOut.tables = d.tables ∧ d.frameTimedOut.stored = d.stored
      ∧ d.frameTimedOut.track = d.track ∧ d.frameTimedOut.pace = d.pace ∧ d.frameTimedOut.climate = d.climate
      ∧ d.frameTimedOut.die = d.die ∧ d.frameTimedOut.spread = d.spread ∧ d.frameTimedOut.acc = d.acc
      ∧ d.frameTimedOut.gauge = d.gauge ∧ d.frameTimedOut.log = d.log := by
  simp [Device.frameTimedOut, Device.hunt]

@[simp] theorem expire_tables {deadline : Option Nat} {act : Device → Device} (keeps : ∀ d, (act d).tables = d.tables)
    (d : Device) : (expire deadline act d).tables = d.tables := expire_keeps _ fun _ => keeps _

@[simp] theorem expire_stored {deadline : Option Nat} {act : Device → Device} (keeps : ∀ d, (act d).stored = d.stored)
    (d : Device) : (expire deadline act d).stored = d.stored := expire_keeps _ fun _ => keeps _

@[simp] theorem writeTable_stored {specs : List FieldSpec} {size start count : Nat} {entries : List Byte}
    {own : List (List (List Nat)) → Device → Device × Answer} (keeps : ∀ values d, (own values d).1.stored = d.stored)
    (d : Device) : (writeTable specs size start count entries own d).1.stored = d.stored :=
  writeTable_keeps _ fun values => keeps values d

@[simp] theorem profileWrite_stored {start count : Nat} {entries : List Byte} (d : Device) :
    (profileWrite start count entries d).1.stored = d.stored := by
  unfold profileWrite; split <;> simp

@[simp] theorem expire_track {deadline : Option Nat} {act : Device → Device} (keeps : ∀ d, (act d).track = d.track)
    (d : Device) : (expire deadline act d).track = d.track := expire_keeps _ fun _ => keeps _

@[simp] theorem writeTable_track {specs : List FieldSpec} {size start count : Nat} {entries : List Byte}
    {own : List (List (List Nat)) → Device → Device × Answer} (keeps : ∀ values d, (own values d).1.track = d.track)
    (d : Device) : (writeTable specs size start count entries own d).1.track = d.track :=
  writeTable_keeps _ fun values => keeps values d

@[simp] theorem profileWrite_track {start count : Nat} {entries : List Byte} (d : Device) :
    (profileWrite start count entries d).1.track = d.track := by
  unfold profileWrite; split <;> simp

@[simp] theorem expire_pace {deadline : Option Nat} {act : Device → Device} (keeps : ∀ d, (act d).pace = d.pace)
    (d : Device) : (expire deadline act d).pace = d.pace := expire_keeps _ fun _ => keeps _

@[simp] theorem writeTable_pace {specs : List FieldSpec} {size start count : Nat} {entries : List Byte}
    {own : List (List (List Nat)) → Device → Device × Answer} (keeps : ∀ values d, (own values d).1.pace = d.pace)
    (d : Device) : (writeTable specs size start count entries own d).1.pace = d.pace :=
  writeTable_keeps _ fun values => keeps values d

@[simp] theorem profileWrite_pace {start count : Nat} {entries : List Byte} (d : Device) :
    (profileWrite start count entries d).1.pace = d.pace := by
  unfold profileWrite; split <;> simp

@[simp] theorem expire_climate {deadline : Option Nat} {act : Device → Device} (keeps : ∀ d, (act d).climate = d.climate)
    (d : Device) : (expire deadline act d).climate = d.climate := expire_keeps _ fun _ => keeps _

@[simp] theorem writeTable_climate {specs : List FieldSpec} {size start count : Nat} {entries : List Byte}
    {own : List (List (List Nat)) → Device → Device × Answer} (keeps : ∀ values d, (own values d).1.climate = d.climate)
    (d : Device) : (writeTable specs size start count entries own d).1.climate = d.climate :=
  writeTable_keeps _ fun values => keeps values d

@[simp] theorem profileWrite_climate {start count : Nat} {entries : List Byte} (d : Device) :
    (profileWrite start count entries d).1.climate = d.climate := by
  unfold profileWrite; split <;> simp

@[simp] theorem expire_die {deadline : Option Nat} {act : Device → Device} (keeps : ∀ d, (act d).die = d.die)
    (d : Device) : (expire deadline act d).die = d.die := expire_keeps _ fun _ => keeps _

@[simp] theorem writeTable_die {specs : List FieldSpec} {size start count : Nat} {entries : List Byte}
    {own : List (List (List Nat)) → Device → Device × Answer} (keeps : ∀ values d, (own values d).1.die = d.die)
    (d : Device) : (writeTable specs size start count entries own d).1.die = d.die :=
  writeTable_keeps _ fun values => keeps values d

@[simp] theorem profileWrite_die {start count : Nat} {entries : List Byte} (d : Device) :
    (profileWrite start count entries d).1.die = d.die := by
  unfold profileWrite; split <;> simp

@[simp] theorem expire_spread {deadline : Option Nat} {act : Device → Device} (keeps : ∀ d, (act d).spread = d.spread)
    (d : Device) : (expire deadline act d).spread = d.spread := expire_keeps _ fun _ => keeps _

@[simp] theorem writeTable_spread {specs : List FieldSpec} {size start count : Nat} {entries : List Byte}
    {own : List (List (List Nat)) → Device → Device × Answer} (keeps : ∀ values d, (own values d).1.spread = d.spread)
    (d : Device) : (writeTable specs size start count entries own d).1.spread = d.spread :=
  writeTable_keeps _ fun values => keeps values d

@[simp] theorem profileWrite_spread {start count : Nat} {entries : List Byte} (d : Device) :
    (profileWrite start count entries d).1.spread = d.spread := by
  unfold profileWrite; split <;> simp

@[simp] theorem expire_acc {deadline : Option Nat} {act : Device → Device} (keeps : ∀ d, (act d).acc = d.acc)
    (d : Device) : (expire deadline act d).acc = d.acc := expire_keeps _ fun _ => keeps _

@[simp] theorem writeTable_acc {specs : List FieldSpec} {size start count : Nat} {entries : List Byte}
    {own : List (List (List Nat)) → Device → Device × Answer} (keeps : ∀ values d, (own values d).1.acc = d.acc)
    (d : Device) : (writeTable specs size start count entries own d).1.acc = d.acc :=
  writeTable_keeps _ fun values => keeps values d

@[simp] theorem profileWrite_acc {start count : Nat} {entries : List Byte} (d : Device) :
    (profileWrite start count entries d).1.acc = d.acc := by
  unfold profileWrite; split <;> simp

@[simp] theorem expire_gauge {deadline : Option Nat} {act : Device → Device} (keeps : ∀ d, (act d).gauge = d.gauge)
    (d : Device) : (expire deadline act d).gauge = d.gauge := expire_keeps _ fun _ => keeps _

@[simp] theorem writeTable_gauge {specs : List FieldSpec} {size start count : Nat} {entries : List Byte}
    {own : List (List (List Nat)) → Device → Device × Answer} (keeps : ∀ values d, (own values d).1.gauge = d.gauge)
    (d : Device) : (writeTable specs size start count entries own d).1.gauge = d.gauge :=
  writeTable_keeps _ fun values => keeps values d

@[simp] theorem profileWrite_gauge {start count : Nat} {entries : List Byte} (d : Device) :
    (profileWrite start count entries d).1.gauge = d.gauge := by
  unfold profileWrite; split <;> simp

@[simp] theorem expire_log {deadline : Option Nat} {act : Device → Device} (keeps : ∀ d, (act d).log = d.log)
    (d : Device) : (expire deadline act d).log = d.log := expire_keeps _ fun _ => keeps _

@[simp] theorem writeTable_log {specs : List FieldSpec} {size start count : Nat} {entries : List Byte}
    {own : List (List (List Nat)) → Device → Device × Answer} (keeps : ∀ values d, (own values d).1.log = d.log)
    (d : Device) : (writeTable specs size start count entries own d).1.log = d.log :=
  writeTable_keeps _ fun values => keeps values d

@[simp] theorem profileWrite_log {start count : Nat} {entries : List Byte} (d : Device) :
    (profileWrite start count entries d).1.log = d.log := by
  unfold profileWrite; split <;> simp

theorem effect_tables {i : Instr} (untouched : (touched i).contains .tables = false) (d : Device) :
    (effect i d).tables = d.tables := by
  delta effect
  cases i
  all_goals first
    | exact nomatch (show true = false from untouched)
    | rfl
    | simp [lineStop]

theorem effect_stored {i : Instr} (untouched : (touched i).contains .stored = false) (d : Device) :
    (effect i d).stored = d.stored := by
  delta effect
  cases i
  all_goals first
    | exact nomatch (show true = false from untouched)
    | rfl
    | simp [lineStop]

theorem effect_track {i : Instr} (untouched : (touched i).contains .track = false) (d : Device) :
    (effect i d).track = d.track := by
  delta effect
  cases i
  all_goals first
    | exact nomatch (show true = false from untouched)
    | rfl
    | simp [lineStop]

theorem effect_pace {i : Instr} (untouched : (touched i).contains .pace = false) (d : Device) :
    (effect i d).pace = d.pace := by
  delta effect
  cases i
  all_goals first
    | exact nomatch (show true = false from untouched)
    | rfl
    | simp [lineStop]

theorem effect_climate {i : Instr} (untouched : (touched i).contains .climate = false) (d : Device) :
    (effect i d).climate = d.climate := by
  delta effect
  cases i
  all_goals first
    | exact nomatch (show true = false from untouched)
    | rfl
    | simp [lineStop]

theorem effect_die {i : Instr} (untouched : (touched i).contains .die = false) (d : Device) :
    (effect i d).die = d.die := by
  delta effect
  cases i
  all_goals first
    | exact nomatch (show true = false from untouched)
    | rfl
    | simp [lineStop]

theorem effect_spread {i : Instr} (untouched : (touched i).contains .spread = false) (d : Device) :
    (effect i d).spread = d.spread := by
  delta effect
  cases i
  all_goals first
    | exact nomatch (show true = false from untouched)
    | rfl
    | simp [lineStop]

theorem effect_acc {i : Instr} (untouched : (touched i).contains .acc = false) (d : Device) :
    (effect i d).acc = d.acc := by
  delta effect
  cases i
  all_goals first
    | exact nomatch (show true = false from untouched)
    | rfl
    | simp [lineStop]

theorem effect_gauge {i : Instr} (untouched : (touched i).contains .gauge = false) (d : Device) :
    (effect i d).gauge = d.gauge := by
  delta effect
  cases i
  all_goals first
    | exact nomatch (show true = false from untouched)
    | rfl
    | simp [lineStop]

@[simp] theorem expire_link {deadline : Option Nat} {act : Device → Device}
    (silent : ∀ d, (act d).link.silent = d.link.silent) (fits : ∀ d, d.link.fits → (act d).link.fits) (d : Device) :
    (expire deadline act d).link.silent = d.link.silent ∧ (d.link.fits → (expire deadline act d).link.fits) := by
  cases deadline with
  | none => exact ⟨rfl, id⟩
  | some t => exact ⟨silent _, fun h => fits _ h⟩

@[simp] theorem writeTable_link {specs : List FieldSpec} {size start count : Nat} {entries : List Byte}
    {own : List (List (List Nat)) → Device → Device × Answer} (keeps : ∀ values d, (own values d).1.link = d.link)
    (d : Device) : (writeTable specs size start count entries own d).1.link = d.link :=
  writeTable_keeps _ fun values => keeps values d

@[simp] theorem profileWrite_link {start count : Nat} {entries : List Byte} (d : Device) :
    (profileWrite start count entries d).1.link = d.link := by
  unfold profileWrite; split <;> simp

/-- Every other effect than those of the link itself places notices and changes nothing else of the link. -/
theorem effect_link {i : Instr} (untouched : (touched i).contains .link = false) (d : Device) :
    (effect i d).link.silent = d.link.silent ∧ (d.link.fits → (effect i d).link.fits) := by
  delta effect
  cases i
  all_goals first
    | exact nomatch (show true = false from untouched)
    | exact ⟨rfl, id⟩
    | exact dieEvent_link (by simp -implicitDefEqProofs +contextual)
    | exact expire_link (fun _ => (dieEvent_link (by simp)).1) (fun _ => (dieEvent_link (by simp)).2) _
    | simp -implicitDefEqProofs +contextual [lineStop, pressStop]

/-- What the link port's wrapping of an effect, and the passing of time, change of the part: the time, the counts, and the
link but for the store's write in flight. -/
def Wraps (d e : Device) : Prop :=
  e = { d with time := e.time, counts := e.counts, link := e.link } ∧ e.link.storeWrite = d.link.storeWrite

theorem wraps_pump (d : Device) : Wraps d d.pump := by
  refine ⟨?_, ?_⟩
  · rw [d.pump_link_only]
  · unfold Device.pump; repeat' split
    all_goals rfl

theorem wraps_receive (f : Frame) (d : Device) : Wraps d (d.receive f) := by
  obtain ⟨-, h⟩ | ⟨-, -, h⟩ | ⟨-, -, h⟩ := d.receive_cases f <;> rw [h] <;> exact ⟨rfl, rfl⟩

theorem wraps_serve {f : Frame} {own : Device → Device × Option Answer} {d : Device} :
    Wraps (own d).1 (d.serve f own) := by
  simp only [Device.serve]; split <;> exact ⟨rfl, rfl⟩

/-- A law that ignores the wrapping is kept by a request if it is kept by what the request's owner does. -/
theorem request_keeps {P : Device → Prop} (wrapped : ∀ d e, Wraps d e → P d → P e) {f : Frame}
    {own : Device → Device × Option Answer} (keeps : ∀ d, P d → P (own d).1) {d : Device} (law : P d) :
    P (d.request f own) := by
  have arrived : P (if d.nextRequest = some f then d else d.receive f) := by
    split
    · exact law
    · exact wrapped _ _ (wraps_receive f d) law
  have served (e : Device) (law : P e) : P (if e.nextRequest = some f then e.serve f own else e) := by
    split
    · exact wrapped _ _ wraps_serve (keeps _ law)
    · exact law
  exact served _ arrived

/-- A law that ignores the wrapping is kept by a command if it is kept by the command's effect. -/
theorem exec_keeps {P : Device → Prop} (wrapped : ∀ d e, Wraps d e → P d → P e) {i : Instr}
    (keeps : ∀ d, P d → P (effect i d)) {s t : State} (h : exec i s = .next t) (law : P s.dev) : P t.dev := by
  obtain event | ⟨f, own, acts, request⟩ := meant i
  · rw [event] at h
    cases h
    exact wrapped _ _ (wraps_pump _) (keeps _ law)
  · rw [request] at h
    cases h
    refine wrapped _ _ (wraps_pump _) (request_keeps wrapped (fun d law => ?_) law)
    obtain e | e := acts d <;> rw [e]
    · exact law
    · exact keeps d law

/-- A step is a command's, or a millisecond passes. -/
theorem step_cases {s t : State} (h : step s = .next t) :
    (∃ i u, u.dev = s.dev ∧ exec i u = .next t) ∨ t = { s with dev := s.dev.tick } := by
  unfold step at h
  split at h
  · rename_i i rest hp
    exact .inl ⟨i, { s with pending := rest }, rfl, h⟩
  · unfold idle at h
    split at h
    · rename_i i _
      exact .inl ⟨i, s, rfl, h⟩
    · exact .inr (Host.Outcome.next.inj h).symm

/-- A law that ignores the wrapping is kept by every step if it is kept by every command's effect. -/
theorem step_keeps {P : Device → Prop} (wrapped : ∀ d e, Wraps d e → P d → P e)
    (keeps : ∀ i d, P d → P (effect i d)) {s t : State} (h : step s = .next t) (law : P s.dev) : P t.dev := by
  obtain ⟨i, u, hu, hi⟩ | rfl := step_cases h
  · exact exec_keeps wrapped (keeps i) hi (hu ▸ law)
  · exact wrapped s.dev _ ⟨rfl, rfl⟩ law

end Sys2Proof.Machine
end

section
/-! SUPPORT. The law on dies and the law on the press (R119, R131): what each operation of the die carriage unit makes of it,
and that every step keeps it. -/

namespace Sys2Proof.Machine

/-- The law speaks of the die carriage unit only. -/
theorem DieLaw.congr {d e : Device} (same : e.die = d.die) (law : DieLaw d) : DieLaw e := by
  simp only [DieLaw, Device.station, same]
  exact law

/-- The law with its clauses on stations said of either side. -/
theorem dieLaw_iff {d : Device} : DieLaw d ↔ (∀ side, StationLaw (d.station side))
    ∧ (∀ side, (d.station side).state = .active ↔ d.die.active = some side)
    ∧ (∀ side, d.die.active = some side → d.die.carriage = .idle ∧ d.die.position = some side)
    ∧ (d.die.press = .starting ∨ d.die.press = .running → d.die.active.isSome) := by
  refine ⟨fun ⟨a, b, rest⟩ => ⟨fun side => ?_, rest⟩, fun ⟨stations, rest⟩ => ⟨stations .a, stations .b, rest⟩⟩
  cases side
  · exact a
  · exact b

theorem DieLaw.station {d : Device} (law : DieLaw d) : ∀ side, StationLaw (d.station side) := (dieLaw_iff.mp law).1

/-- The pointer names the one ACTIVE station. -/
theorem DieLaw.active_iff {d : Device} (law : DieLaw d) (side : Side) :
    (d.station side).state = .active ↔ d.die.active = some side := law.2.2.1 side

/-- No station is ACTIVE while the carriage is not IDLE. -/
theorem DieLaw.active_eq_none {d : Device} (law : DieLaw d) (away : d.die.carriage ≠ .idle) : d.die.active = none := by
  obtain ⟨-, -, -, seat, -⟩ := law
  cases h : d.die.active with
  | none => rfl
  | some side => exact absurd (seat side h).1 away

/-! Stations. -/

/-- A station that is not READY or ACTIVE and has no flag, debounce timer or exchange keeps its own law. -/
theorem StationLaw.of_idle {x : Station} (debounce : x.debounce = none) (asked : x.asked = false)
    (exchange : x.inFlight = none) (idle : x.state ≠ .ready ∧ x.state ≠ .active) : StationLaw x := by
  simp [StationLaw, debounce, asked, exchange, idle]

/-- Entering EMPTY or SEATED clears the station (R117). -/
theorem stationLaw_clear {s : StationState} (x : Station) (entered : s = .empty ∨ s = .seated) :
    StationLaw (x.clear s) := by
  refine .of_idle rfl rfl rfl ?_
  obtain rfl | rfl := entered <;> exact ⟨nofun, nofun⟩

/-- A read starts at a station that is not SETTLING, READY or ACTIVE (R118). -/
theorem StationLaw.debounce_eq_none {x : Station} (law : StationLaw x) (h : x.state ≠ .settling) : x.debounce = none := by
  obtain ⟨settling, -⟩ := law
  exact Option.not_isSome_iff_eq_none.mp fun counts => h (settling counts)

theorem StationLaw.asked_eq_false {x : Station} (law : StationLaw x) (ready : x.state ≠ .ready)
    (active : x.state ≠ .active) : x.asked = false := by
  obtain ⟨-, asked, -⟩ := law
  cases h : x.asked
  · rfl
  · obtain h | h := asked h <;> contradiction

/-- A station with a read in flight is READING, and one with a write in flight WRITING. -/
theorem StationLaw.exchanging {x : Station} (law : StationLaw x) {e : DieExchange} (h : x.inFlight = some e) :
    x.state = .reading ∨ x.state = .writing := by
  obtain ⟨-, -, exchange, -⟩ := law
  obtain ⟨-, h⟩ | ⟨-, h⟩ := exchange e h
  · exact .inl h
  · exact .inr h

/-! Changes of the unit. -/

/-- What a change of a station leaves of the unit. -/
theorem Device.modifyStation_unit (side : Side) (f : Station → Station) (d : Device) :
    (d.modifyStation side f).die.active = d.die.active ∧ (d.modifyStation side f).die.position = d.die.position
      ∧ (d.modifyStation side f).die.carriage = d.die.carriage ∧ (d.modifyStation side f).die.press = d.die.press := by
  cases side <;> exact ⟨rfl, rfl, rfl, rfl⟩

/-- A change of one station that leaves or enters ACTIVE nowhere and keeps the station's own law. -/
theorem DieLaw.modifyStation {d : Device} {side : Side} {f : Station → Station} (law : DieLaw d)
    (station : StationLaw (f (d.station side)))
    (active : (f (d.station side)).state = .active ↔ (d.station side).state = .active) :
    DieLaw (d.modifyStation side f) := by
  obtain ⟨pointed, position, carriage, press⟩ := d.modifyStation_unit side f
  rw [dieLaw_iff] at law ⊢
  obtain ⟨stations, pointer, rest⟩ := law
  rw [pointed, position, carriage, press]
  refine ⟨fun o => ?_, fun o => ?_, rest⟩ <;> rw [Device.station_modifyStation] <;> split
  · rename_i h; subst h; exact station
  · exact stations o
  · rename_i h; subst h; exact active.trans (pointer o)
  · exact pointer o

/-- The same for an operation that changes the unit by one station. -/
theorem DieLaw.changed {d e : Device} {side : Side} {f : Station → Station} (law : DieLaw d)
    (same : e.die = d.die.modify side f) (station : StationLaw (f (d.station side)))
    (active : (f (d.station side)).state = .active ↔ (d.station side).state = .active) : DieLaw e :=
  (law.modifyStation station active).congr same

/-- A press that is neither STARTING nor RUNNING, whatever its limit. -/
theorem DieLaw.press {d e : Device} {press : PressState} {timer : Option Timer} (law : DieLaw d)
    (same : e.die = { d.die with press := press, pressTimer := timer })
    (may : press = .starting ∨ press = .running → d.die.active.isSome) : DieLaw e := by
  obtain ⟨a, b, pointer, seat, -⟩ := law
  simp only [DieLaw, Device.station, same]
  exact ⟨a, b, pointer, seat, may⟩

/-- With no station ACTIVE the carriage may stand anywhere, in any state. -/
theorem DieLaw.carriage {d e : Device} {position target : Option Side} {carriage : CarriageState} {timer : Option Timer}
    (law : DieLaw d) (away : d.die.active = none) (same : e.die = { d.die with
      position := position, carriage := carriage, target := target, carriageTimer := timer }) : DieLaw e := by
  obtain ⟨a, b, pointer, -, press⟩ := law
  simp only [DieLaw, Device.station, same]
  exact ⟨a, b, pointer, fun side h => absurd (away ▸ h) nofun, press⟩

/-- What a stop order leaves of the press (R131). -/
theorem Device.stopPress_die (d : Device) : ∃ press timer, d.stopPress.die = { d.die with press := press, pressTimer := timer }
    ∧ press ≠ .starting ∧ press ≠ .running := by
  unfold Device.stopPress
  split
  · exact ⟨.stopping, _, by simp; rfl, nofun, nofun⟩
  · exact ⟨.stopping, _, by simp; rfl, nofun, nofun⟩
  all_goals rename_i h; exact ⟨d.die.press, d.die.pressTimer, rfl, by simp [h], by simp [h]⟩

theorem DieLaw.stopPress {d : Device} (law : DieLaw d) : DieLaw d.stopPress := by
  obtain ⟨press, timer, same, starting, running⟩ := d.stopPress_die
  exact law.press same fun h => by obtain h | h := h <;> contradiction

/-- The ACTIVE station leaves ACTIVE, into any other state that keeps its own law: the press stops with it (R125). -/
theorem DieLaw.leaveActive {d : Device} {side : Side} {f : Station → Station} (law : DieLaw d)
    (named : (d.station side).state = .active) (station : StationLaw (f (d.station side)))
    (left : (f (d.station side)).state ≠ .active) : DieLaw (d.leaveActive.modifyStation side f) := by
  obtain ⟨press, timer, same, starting, running⟩ :=
    Device.stopPress_die { d with die := { d.die with active := none } }
  have unit : d.leaveActive.die = { d.die with active := none, press := press, pressTimer := timer } := same
  obtain ⟨pointed, -, -, pressed⟩ := d.leaveActive.modifyStation_unit side f
  rw [dieLaw_iff] at law ⊢
  obtain ⟨stations, pointer, -⟩ := law
  have kept (o : Side) : d.leaveActive.station o = d.station o := by simp [Device.station, unit, DieUnit.station]
  have other (o : Side) (h : o ≠ side) : (d.station o).state ≠ .active := fun active =>
    h (Option.some.inj (((pointer o).mp active).symm.trans ((pointer side).mp named)))
  rw [pointed, pressed, unit]
  refine ⟨fun o => ?_, fun o => ?_, nofun, ?_⟩
  · rw [Device.station_modifyStation, kept]
    split
    · rename_i h; subst h; exact station
    · exact stations o
  · rw [Device.station_modifyStation, kept]
    refine ⟨fun h => ?_, nofun⟩
    split at h
    · rename_i ho; subst ho; exact absurd h left
    · rename_i ho; exact absurd h (other o ho)
  · rintro (h | h) <;> contradiction

/-- A station may go between READY and ACTIVE: the two hold the same items. -/
theorem StationLaw.ready_active {x : Station} {s : StationState} (law : StationLaw x)
    (was : x.state = .ready ∨ x.state = .active) (is : s = .ready ∨ s = .active) :
    StationLaw { x with state := s } := by
  obtain ⟨settling, asked, exchange, record⟩ := law
  refine ⟨fun h => ?_, fun _ => is, fun e h => ?_, fun _ => record was⟩
  · have := settling h
    simp [this] at was
  · obtain ⟨-, h⟩ | ⟨-, h⟩ := exchange e h <;> simp [h] at was

/-- DIE_WEAR's report changes no station's law (R126). -/
theorem DieLaw.reportWear {d : Device} (law : DieLaw d) (side : Side) : DieLaw (d.reportWear side) := by
  unfold Device.reportWear
  repeat' split
  · exact (law.modifyStation (f := fun x => { x with wearReported := true }) (law.station side) .rfl).congr (by simp)
  all_goals exact law

/-- A station made ACTIVE, with the pointer and the extrusion identity that name it (R119). -/
def Device.nameActive (side : Side) (c : DieRecord) (d : Device) : Device :=
  let named := d.modifyStation side fun x => { x with state := .active }
  { named with die := { named.die with active := some side, identity := some ⟨side, c.id, c.format, c.holes⟩ } }

theorem Device.nameActive_station (side o : Side) (c : DieRecord) (d : Device) :
    (d.nameActive side c).station o = if o = side then { d.station o with state := .active } else d.station o := by
  cases side <;> cases o <;> rfl

theorem DieLaw.nameActive {d : Device} {side : Side} (law : DieLaw d) (ready : (d.station side).state = .ready)
    (idle : d.die.carriage = .idle) (seated : d.die.position = some side) (none : d.die.active = none) (c : DieRecord) :
    DieLaw (d.nameActive side c) := by
  obtain ⟨-, position, carriage, -⟩ := d.modifyStation_unit side fun x => { x with state := .active }
  rw [dieLaw_iff] at law ⊢
  obtain ⟨stations, pointer, -⟩ := law
  have noneActive (o : Side) : (d.station o).state ≠ .active := fun h => absurd (none ▸ (pointer o).mp h) nofun
  refine ⟨fun o => ?_, fun o => ?_, fun o h => ?_, fun _ => rfl⟩
  · rw [Device.nameActive_station]
    split
    · rename_i h; subst h
      exact (stations o).ready_active (.inl ready) (.inr rfl)
    · exact stations o
  · rw [Device.nameActive_station]
    split
    · rename_i h; subst h; simp [Device.nameActive]
    · rename_i h
      exact ⟨fun ha => absurd ha (noneActive o), fun ha => absurd (Option.some.inj ha).symm h⟩
  · cases h
    exact ⟨carriage.trans idle, position.trans seated⟩

/-- A READY station at an IDLE carriage becomes ACTIVE if none is (R119). -/
theorem DieLaw.activate {d : Device} (law : DieLaw d) (byCarriage : Bool) (side : Side) :
    DieLaw (d.activate byCarriage side) := by
  unfold Device.activate
  split
  · rename_i h
    obtain ⟨ready, idle, seated, none⟩ := h
    split
    · rename_i c _
      refine DieLaw.congr ?_ ((law.nameActive ready idle seated none c).reportWear side)
      cases byCarriage <;> simp [Device.nameActive]
    · exact law
  · exact law

/-! The operations of the unit. -/

/-- A station with no exchange in flight and no die in use enters EMPTY or SEATED (R117, R123). -/
theorem DieLaw.clear {d : Device} {side : Side} {s : StationState} (law : DieLaw d) (away : (d.station side).state ≠ .active)
    (entered : s = .empty ∨ s = .seated) : DieLaw (d.modifyStation side (Station.clear s)) := by
  refine law.modifyStation (stationLaw_clear _ entered) ⟨fun h => ?_, fun h => absurd h away⟩
  obtain rfl | rfl := entered <;> exact absurd h nofun

theorem Device.startRead_unit (side : Side) (d : Device) : (d.startRead side).die = d.die.modify side fun x =>
    { x with state := .reading, reason := none, exchange := ((d.station side).exchange + 1) % 256,
             inFlight := some ⟨none, ((d.station side).exchange + 1) % 256, d.timer memoryLimit⟩ } := rfl

/-- A read starts (R118). -/
theorem DieLaw.startRead {d : Device} {side : Side} (law : DieLaw d) (active : (d.station side).state ≠ .active)
    (ready : (d.station side).state ≠ .ready) (settling : (d.station side).state ≠ .settling) :
    DieLaw (d.startRead side) := by
  have station := law.station side
  refine law.changed (d.startRead_unit side) ?_ ⟨nofun, fun h => absurd h active⟩
  refine ⟨fun h => ?_, fun h => ?_, fun e h => ?_, fun h => ?_⟩
  · exact absurd h (by simp [station.debounce_eq_none settling])
  · exact absurd h (by simp [station.asked_eq_false ready active])
  · cases h; exact .inl ⟨rfl, rfl⟩
  · obtain h | h := h <;> exact absurd h nofun

/-- A read ends with its station REJECTED (R118). -/
theorem DieLaw.reject {d : Device} {side : Side} {reason : RejectReason} (law : DieLaw d)
    (reading : (d.station side).state = .reading) : DieLaw (d.reject side reason) := by
  have station := law.station side
  have unit : (d.reject side reason).die = d.die.modify side fun x =>
    { x with state := .rejected, reason := some reason, inFlight := none } := rfl
  refine (law.changed unit (.of_idle ?_ ?_ rfl ⟨nofun, nofun⟩) ⟨nofun, fun h => ?_⟩)
  · exact station.debounce_eq_none (by simp [reading])
  · exact station.asked_eq_false (by simp [reading]) (by simp [reading])
  · exact absurd (reading ▸ h) nofun

/-- A write ends with its station RELEASED (R122). -/
theorem DieLaw.written {d : Device} {side : Side} {wear : Option Nat} (law : DieLaw d)
    (writing : (d.station side).state = .writing) :
    DieLaw (d.modifyStation side fun x => { x with state := .released, wearAtRead := wear, inFlight := none }) := by
  have station := law.station side
  refine law.modifyStation (.of_idle ?_ ?_ rfl ⟨nofun, nofun⟩) ⟨nofun, fun h => ?_⟩
  · exact station.debounce_eq_none (by simp [writing])
  · exact station.asked_eq_false (by simp [writing]) (by simp [writing])
  · exact absurd (writing ▸ h) nofun

theorem DieLaw.writeLost {d : Device} {side : Side} (law : DieLaw d) (writing : (d.station side).state = .writing) :
    DieLaw (d.writeLost side) := by
  have station := law.station side
  have unit : (d.writeLost side).die = d.die.modify side fun x => { x with state := .released, inFlight := none } := rfl
  refine (law.changed unit (.of_idle ?_ ?_ rfl ⟨nofun, nofun⟩) ⟨nofun, fun h => ?_⟩)
  · exact station.debounce_eq_none (by simp [writing])
  · exact station.asked_eq_false (by simp [writing]) (by simp [writing])
  · exact absurd (writing ▸ h) nofun

/-- A byte list of a fixed length, little end first, is the number it spells, spelled again. -/
theorem leNat_two (a b : Byte) : u16 (leNat [a, b]) = [a, b] := by
  have ha := a.isLt; have hb := b.isLt
  simp only [u16, leNat, List.cons.injEq, and_true]
  constructor <;> apply BitVec.eq_of_toNat_eq <;> simp <;> omega

theorem leNat_one (a : Byte) : u8 (leNat [a]) = [a] := by
  have ha := a.isLt
  simp only [u8, leNat, List.cons.injEq, and_true]
  apply BitVec.eq_of_toNat_eq; simp

theorem leNat_four (a b c e : Byte) : u32 (leNat [a, b, c, e]) = [a, b, c, e] := by
  have ha := a.isLt; have hb := b.isLt; have hc := c.isLt; have he := e.isLt
  simp only [u32, u16, leNat, List.cons_append, List.nil_append, List.cons.injEq, and_true]
  refine ⟨?_, ?_, ?_, ?_⟩ <;> apply BitVec.eq_of_toNat_eq <;> simp <;> omega

/-- The check of a record read is the sum of the bytes it was read from (R115). -/
theorem dieRecordOf_sum {bytes : List Byte} {r : DieRecord} (h : dieRecordOf bytes = some r) :
    r.check = r.sum ∧ r.format ≤ 63 ∧ 1 ≤ r.holes ∧ r.holes ≤ 2000 := by
  simp only [dieRecordOf, Option.ite_none_right_eq_some] at h
  obtain ⟨⟨length, check, ranges⟩, h⟩ := h
  cases h
  refine ⟨?_, ranges⟩
  match bytes, length with
  | [b0, b1, b2, b3, b4, b5, b6, b7, b8, b9, b10, b11, b12, b13, b14, b15, b16], _ =>
    refine check.trans ?_
    simp only [List.take_succ_cons, List.take_zero, List.drop_succ_cons, List.drop_zero, DieRecord.sum, DieRecord.body,
      leNat_one, leNat_two, leNat_four]
    rfl

/-- The bytes of a read in flight are taken: the station becomes READY, perhaps ACTIVE at once, or REJECTED (R118). -/
theorem DieLaw.readRecord {d : Device} {side : Side} (law : DieLaw d) (reading : (d.station side).state = .reading)
    (bytes : List Byte) : DieLaw (d.readRecord side bytes) := by
  unfold Device.readRecord
  split
  · exact law.reject reading
  · rename_i r hr
    obtain ⟨check, ranges⟩ := dieRecordOf_sum hr
    have station := law.station side
    split
    · have ready : StationLaw { d.station side with
          state := .ready, reason := none, copy := some r, wearAtRead := some r.wear, wearReported := false,
          inFlight := none } :=
        ⟨fun h => absurd h (by simp [station.debounce_eq_none (by simp [reading])]), fun _ => .inl rfl, nofun,
          fun _ => ⟨r, r.wear, rfl, rfl, check, ranges⟩⟩
      refine DieLaw.activate (law.modifyStation ready ?_) _ _
      simp [reading]
    · exact law.reject reading

/-- An exchange in flight that an answer answers is of the kind asked, and its station is READING or WRITING with it. -/
theorem StationLaw.answered {x : Station} {write : Bool} {n : Nat} {e : DieExchange} (law : StationLaw x)
    (h : x.answers write n = some e) : x.state = if write then .writing else .reading := by
  unfold Station.answers at h
  obtain ⟨-, -, exchange, -⟩ := law
  split at h
  · rename_i f hf
    obtain ⟨⟨-, kind⟩, h⟩ := Option.ite_none_right_eq_some.mp h
    cases h
    obtain ⟨isRead, state⟩ | ⟨isWrite, state⟩ := exchange e hf
    · simp [isRead] at kind; simp [← kind, state]
    · simp [isWrite] at kind; simp [← kind, state]
  · cases h

theorem DieLaw.memoryReadReply {d : Device} {side : Side} (law : DieLaw d) (n : Nat) (bytes : Option (List Byte)) :
    DieLaw (d.memoryReadReply side n bytes) := by
  unfold Device.memoryReadReply
  split
  · exact law
  · rename_i h
    have reading := (law.station side).answered h
    split
    · exact law.readRecord reading _
    · exact law.reject reading

theorem DieLaw.memoryWriteReply {d : Device} {side : Side} (law : DieLaw d) (n : Nat) (ok : Bool) :
    DieLaw (d.memoryWriteReply side n ok) := by
  unfold Device.memoryWriteReply
  split
  · exact law
  · rename_i h
    have writing := (law.station side).answered h
    split
    · exact law.written writing
    · exact law.writeLost writing

theorem DieLaw.memoryExpired {d : Device} {side : Side} (law : DieLaw d) : DieLaw (d.memoryExpired side) := by
  unfold Device.memoryExpired
  obtain ⟨-, -, exchange, -⟩ := law.station side
  split
  · rename_i h
    obtain ⟨-, reading⟩ | ⟨h, -⟩ := exchange _ h
    · exact law.reject reading
    · cases h
  · rename_i h
    obtain ⟨h, -⟩ | ⟨-, writing⟩ := exchange _ h
    · cases h
    · exact law.writeLost writing
  · exact law

/-- A surprise removal, from any state (R124, R125). -/
theorem DieLaw.surprise {d : Device} {side : Side} {s : StationState} (law : DieLaw d) (entered : s = .empty ∨ s = .seated) :
    DieLaw (d.surprise side s) := by
  unfold Device.surprise
  by_cases active : (d.station side).state = .active
  · refine DieLaw.congr ?_ (law.leaveActive active (stationLaw_clear _ entered) ?_)
    · simp only [active, if_true]; split <;> simp
    · obtain rfl | rfl := entered <;> nofun
  · refine DieLaw.congr ?_ (law.clear active entered)
    simp only [active, if_false]; split <;> simp

/-- A change of a station's inputs changes no law. -/
theorem DieLaw.input {d : Device} {side : Side} {f : Station → Station} (law : DieLaw d)
    (same : ∀ x, ∃ presence clamp, f x = { x with presence := presence, clamp := clamp }) :
    DieLaw (d.modifyStation side f) := by
  obtain ⟨presence, clamp, h⟩ := same (d.station side)
  exact law.modifyStation (h ▸ law.station side) (h ▸ .rfl)

theorem DieLaw.presenceEvent {d : Device} (law : DieLaw d) (side : Side) (on : Bool) : DieLaw (d.presenceEvent side on) := by
  unfold Device.presenceEvent
  split
  · exact law
  · have held : DieLaw (d.modifyStation side fun x => { x with presence := on }) := law.input fun x => ⟨on, x.clamp, rfl⟩
    have station := held.station side
    cases hs : (d.station side).state with
    | empty =>
      cases on with
      | false => exact held
      | true =>
        refine held.modifyStation ⟨fun _ => rfl, fun h => ?_, fun e h => ?_, fun h => ?_⟩ ⟨nofun, fun h => ?_⟩
        · exact absurd (h.symm.trans (station.asked_eq_false (by simp [hs]) (by simp [hs]))) nofun
        · obtain h | h := station.exchanging h <;> simp [hs] at h
        · obtain h | h := h <;> exact absurd h nofun
        · simp [hs] at h
    | settling | seated | rejected | released =>
      cases on with
      | false => exact held.clear (by simp [hs]) (.inl rfl)
      | true => exact held
    | reading | ready | active | writing =>
      cases on with
      | false => exact held.surprise (.inl rfl)
      | true => exact held

theorem DieLaw.clampEvent {d : Device} (law : DieLaw d) (side : Side) (closed : Bool) : DieLaw (d.clampEvent side closed) := by
  unfold Device.clampEvent
  split
  · exact law
  · have held : DieLaw (d.modifyStation side fun x => { x with clamp := closed }) := law.input fun x => ⟨x.presence, closed, rfl⟩
    cases hs : (d.station side).state with
    | empty | settling => exact held
    | seated =>
      cases closed with
      | false => exact held
      | true => exact held.startRead (by simp [hs]) (by simp [hs]) (by simp [hs])
    | rejected | released =>
      cases closed with
      | false => exact held.clear (by simp [hs]) (.inr rfl)
      | true => exact held
    | reading | ready | active | writing =>
      cases closed with
      | false => exact held.surprise (.inr rfl)
      | true => exact held

/-- The debounce timer counts at a SETTLING station only (R117). -/
theorem DieLaw.debounceExpired {d : Device} {side : Side} (law : DieLaw d) (settling : (d.station side).state = .settling) :
    DieLaw (d.debounceExpired side) := by
  have seated : DieLaw (d.modifyStation side (Station.clear .seated)) := law.clear (by simp [settling]) (.inr rfl)
  unfold Device.debounceExpired
  dsimp only
  split
  · exact seated.startRead (by simp [Station.clear]) (by simp [Station.clear]) (by simp [Station.clear])
  · exact seated

/-- A flag set or cleared at a station (R120). -/
theorem DieLaw.flag {d : Device} {side : Side} (law : DieLaw d) {asked : Bool}
    (may : asked = true → (d.station side).state = .ready ∨ (d.station side).state = .active) :
    DieLaw (d.modifyStation side fun x => { x with asked := asked }) := by
  obtain ⟨settling, -, exchange, record⟩ := law.station side
  exact law.modifyStation ⟨settling, may, exchange, record⟩ .rfl

theorem DieLaw.buttonEvent {d : Device} (law : DieLaw d) (side : Side) : DieLaw (d.buttonEvent side) := by
  unfold Device.buttonEvent
  split
  · rename_i h; exact law.flag fun _ => h
  · exact law

theorem StationLaw.exchange_eq_none {x : Station} (law : StationLaw x) (h : x.state = .ready ∨ x.state = .active) :
    x.inFlight = none := by
  cases he : x.inFlight with
  | none => rfl
  | some e => obtain hs | hs := law.exchanging he <;> simp [hs] at h

/-- What a write-back makes of its station. -/
theorem Device.writeBack_unit (side : Side) (d : Device) : ∃ s exchange inFlight,
    (d.writeBack side).die = d.die.modify side (fun x => { x with state := s, exchange := exchange, inFlight := inFlight })
      ∧ (s = .released ∧ inFlight = (d.station side).inFlight
        ∨ s = .writing ∧ ∃ e, inFlight = some e ∧ e.write.isSome) := by
  unfold Device.writeBack
  have kept : d.die.modify side (fun x => { x with state := .released }) = d.die.modify side fun x =>
      { x with state := .released, exchange := (d.station side).exchange, inFlight := (d.station side).inFlight } := by
    cases side <;> rfl
  repeat' split
  · exact ⟨.released, _, _, kept, .inl ⟨rfl, rfl⟩⟩
  · exact ⟨.writing, _, _, rfl, .inr ⟨rfl, _, rfl, rfl⟩⟩
  · exact ⟨.released, _, _, kept, .inl ⟨rfl, rfl⟩⟩

/-- A station whose wear is written back keeps its own law. -/
theorem StationLaw.writeBack {x : Station} {s : StationState} {exchange : Nat} {inFlight : Option DieExchange}
    (law : StationLaw x) (was : x.state = .ready ∨ x.state = .active)
    (ends : s = .released ∧ inFlight = x.inFlight ∨ s = .writing ∧ ∃ e, inFlight = some e ∧ e.write.isSome) :
    StationLaw { x with asked := false, state := s, exchange := exchange, inFlight := inFlight } := by
  have debounce : x.debounce = none := law.debounce_eq_none (by obtain h | h := was <;> simp [h])
  obtain ⟨rfl, rfl⟩ | ⟨rfl, e, rfl, write⟩ := ends
  · exact .of_idle debounce rfl (law.exchange_eq_none was) ⟨nofun, nofun⟩
  · refine ⟨fun h => absurd h (by simp [debounce]), nofun, fun f h => ?_, fun h => ?_⟩
    · cases h; exact .inr ⟨write, rfl⟩
    · obtain h | h := h <;> exact absurd h nofun

theorem DieUnit.modify_modify (u : DieUnit) (side : Side) (f g : Station → Station) :
    (u.modify side f).modify side g = u.modify side fun x => g (f x) := by cases side <;> rfl

/-- Leaving ACTIVE does not read the station. -/
theorem Device.leaveActive_modifyStation (side : Side) (f : Station → Station) (d : Device) :
    (d.modifyStation side f).leaveActive.die = d.leaveActive.die.modify side f
      ∧ (d.modifyStation side f).leaveActive.station side = f (d.station side) := by
  have same : (d.modifyStation side f).leaveActive.die = d.leaveActive.die.modify side f := by
    cases side <;> cases h : d.die.press <;>
      simp [Device.leaveActive, Device.stopPress, Device.modifyStation, DieUnit.modify, h]
  refine ⟨same, ?_⟩
  obtain ⟨press, timer, unit, -⟩ := Device.stopPress_die { d with die := { d.die with active := none } }
  have left : d.leaveActive.die = { d.die with active := none, press := press, pressTimer := timer } := unit
  rw [Device.station, same, left]
  cases side <;> rfl

/-- An accepted DIE_RELEASE (R121). -/
theorem DieLaw.release {d : Device} {side : Side} (law : DieLaw d) (asked : (d.station side).asked = true) :
    DieLaw (d.release side) := by
  have was : (d.station side).state = .ready ∨ (d.station side).state = .active := (law.station side).2.1 asked
  unfold Device.release
  dsimp only
  by_cases active : (d.station side).state = .active
  · rw [if_pos active]
    obtain ⟨unit, station⟩ := d.leaveActive_modifyStation side fun x => { x with asked := false }
    obtain ⟨s, exchange, inFlight, written, ends⟩ := Device.writeBack_unit side
      ((d.modifyStation side fun x => { x with asked := false }).leaveActive.post (.stop .dieRelease))
    rw [show ((d.modifyStation side fun x => { x with asked := false }).leaveActive.post (.stop .dieRelease)).station side
      = { d.station side with asked := false } from station] at ends
    refine (law.leaveActive (f := fun x => { x with asked := false, state := s, exchange := exchange, inFlight := inFlight })
      active ((law.station side).writeBack was ends) ?_).congr ?_
    · obtain ⟨rfl, -⟩ | ⟨rfl, -⟩ := ends <;> nofun
    · rw [written, Device.post_die, unit, DieUnit.modify_modify]; rfl
  · rw [if_neg active]
    obtain ⟨s, exchange, inFlight, written, ends⟩ := Device.writeBack_unit side
      (d.modifyStation side fun x => { x with asked := false })
    rw [Device.station_modifyStation, if_pos rfl] at ends
    rw [Device.modifyStation_die, DieUnit.modify_modify] at written
    refine law.changed written ((law.station side).writeBack was ends) ⟨fun h => ?_, fun h => absurd h active⟩
    obtain ⟨rfl, -⟩ | ⟨rfl, -⟩ := ends <;> exact absurd h nofun

/-- A carriage move starts: a station that was ACTIVE is READY again (R128). -/
theorem DieLaw.startCarriage {d : Device} (law : DieLaw d) (target : Side) : DieLaw (d.startCarriage target) := by
  unfold Device.startCarriage
  cases named : d.die.active with
  | none => exact law.carriage named rfl
  | some side =>
    have active := (law.active_iff side).mpr named
    have left := law.leaveActive (f := fun x => { x with state := .ready }) active
      ((law.station side).ready_active (.inr active) (.inl rfl)) nofun
    refine left.carriage ?_ rfl
    obtain ⟨press, timer, unit, -⟩ := Device.stopPress_die { d with die := { d.die with active := none } }
    have same : d.leaveActive.die = { d.die with active := none, press := press, pressTimer := timer } := unit
    rw [(d.leaveActive.modifyStation_unit side _).1, same]

/-- The carriage stands at a station, IDLE, and a READY die there becomes ACTIVE if none is (R119, R128, R130). -/
theorem DieLaw.carriageAt {d : Device} (law : DieLaw d) (away : d.die.carriage ≠ .idle) (byCarriage : Bool) (side : Side) :
    DieLaw ((d.carriageAt side).activate byCarriage side) :=
  (law.carriage (law.active_eq_none away) rfl : DieLaw (d.carriageAt side)).activate _ _

theorem DieLaw.queryFailed {d : Device} (law : DieLaw d) (querying : d.die.carriage = .querying) : DieLaw d.queryFailed :=
  law.carriage (law.active_eq_none (by simp [querying])) rfl

theorem DieLaw.carriageLost {d : Device} (law : DieLaw d) (moving : d.die.carriage = .moving) : DieLaw d.carriageLost :=
  law.carriage (law.active_eq_none (by simp [moving])) rfl

theorem DieLaw.queryAnswer {d : Device} (law : DieLaw d) (station : Option Side) : DieLaw (d.queryAnswer station) := by
  unfold Device.queryAnswer
  split
  · rename_i h
    split
    · exact law.carriageAt (by simp [h.1]) _ _
    · exact law.queryFailed h.1
  · exact law

theorem DieLaw.carriageDone {d : Device} (law : DieLaw d) (station : Option Side) : DieLaw (d.carriageDone station) := by
  unfold Device.carriageDone
  cases h : d.die.carriage with
  | moving =>
    cases station with
    | none => exact law.carriageLost h
    | some side => exact law.carriageAt (by simp [h]) _ _
  | lost =>
    cases station with
    | none => exact law
    | some side => exact law.carriageAt (by simp [h]) _ _
  | idle | querying => exact law

/-! The press. -/

theorem DieLaw.pressFault {d : Device} (law : DieLaw d) : DieLaw d.pressFault :=
  law.press (press := .stopped) (timer := none) (by simp) (by simp)

theorem DieLaw.pressStarted {d : Device} (law : DieLaw d) : DieLaw d.pressStarted := by
  unfold Device.pressStarted
  split
  · rename_i h
    refine law.press (press := .running) (timer := none) (by simp) fun _ => ?_
    obtain ⟨-, -, -, -, press⟩ := law
    exact press (.inl h)
  · exact law

theorem DieLaw.pressHalted {d : Device} (law : DieLaw d) : DieLaw d.pressHalted := by
  unfold Device.pressHalted
  split
  · rename_i h
    exact law.press (press := .stopped) (timer := none) (by simp [h.symm]) (by simp)
  · exact law.press (press := .stopped) (timer := none) (by simp) (by simp)
  all_goals exact law

theorem DieLaw.pressStart {d : Device} (law : DieLaw d) : DieLaw (pressStart d).1 := by
  unfold Machine.pressStart
  repeat' split
  · exact law
  · exact law
  · exact law
  · rename_i active _ _
    exact law.press (press := .starting) (timer := some ⟨d.time, 10000⟩) (by simp) fun _ =>
      Option.isSome_iff_ne_none.mpr active

/-- A completed load raises the wear counted at the ACTIVE station; the check is over the wear at read (R126). -/
theorem DieLaw.countWear {d : Device} (law : DieLaw d) : DieLaw d.countWear := by
  unfold Device.countWear
  split
  · rename_i side _
    obtain ⟨settling, asked, exchange, record⟩ := law.station side
    refine (law.modifyStation (f := fun x => { x with
      copy := x.copy.map fun c => { c with wear := min (size32 - 1) (c.wear + 1) } }) ?_ .rfl).reportWear side
    refine ⟨settling, asked, exchange, fun h => ?_⟩
    obtain ⟨c, w, copy, wear, rest⟩ := record h
    exact ⟨_, w, congrArg (Option.map _) copy, wear, rest⟩
  · exact law

theorem DieLaw.loadDone {d : Device} (law : DieLaw d) (n : Nat) : DieLaw (d.loadDone n) := by
  unfold Device.loadDone
  split
  · rename_i l _
    exact DieLaw.congr rfl (DieLaw.countWear (d := Device.bump .loadsDone _) (law.congr rfl))
  · exact law

/-! Requests and power-up. -/

theorem DieLaw.ofDieEvent {act : Device → Device} {d : Device} (law : DieLaw (act d)) : DieLaw (dieEvent act d) :=
  law.congr (by simp)

theorem DieLaw.dieRelease {d : Device} (law : DieLaw d) (station : Byte) : DieLaw (dieRelease station d).1 := by
  simp only [Machine.dieRelease, withSide]
  repeat' split
  · exact law
  · exact law
  · exact law
  · rename_i asked _
    exact .ofDieEvent (law.release (by simpa using asked))

theorem DieLaw.dieKeep {d : Device} (law : DieLaw d) (station : Byte) : DieLaw (dieKeep station d).1 := by
  simp only [Machine.dieKeep, withSide]
  repeat' split
  · exact law
  · exact .ofDieEvent (law.flag (asked := false) nofun)
  · exact law

theorem DieLaw.dieReread {d : Device} (law : DieLaw d) (station : Byte) : DieLaw (dieReread station d).1 := by
  simp only [Machine.dieReread, withSide]
  repeat' split
  · exact law
  · rename_i h
    refine .ofDieEvent (law.startRead ?_ ?_ ?_) <;> obtain h | h := h <;> simp [h]
  · exact law

theorem DieLaw.dieSwap {d : Device} (law : DieLaw d) (station : Byte) : DieLaw (dieSwap station d).1 := by
  simp only [Machine.dieSwap, withSide]
  repeat' split
  all_goals first
    | exact law
    | exact .ofDieEvent (law.startCarriage _)

/-- A station that is EMPTY takes its state from its inputs at power-up (R116). -/
theorem DieLaw.seat {d : Device} {side : Side} (law : DieLaw d) (empty : (d.station side).state = .empty)
    (presence clamp : Bool) : DieLaw (d.seat side presence clamp) := by
  have held : DieLaw (d.modifyStation side fun x => { x with presence := presence, clamp := clamp }) :=
    law.input fun x => ⟨presence, clamp, rfl⟩
  have station := held.station side
  cases presence with
  | false => exact held
  | true =>
    cases clamp with
    | false =>
      refine held.modifyStation (.of_idle (station.debounce_eq_none (by simp [empty]))
        (station.asked_eq_false (by simp [empty]) (by simp [empty])) ?_ ⟨nofun, nofun⟩) (by simp [empty])
      cases he : ((d.modifyStation side fun x => { x with presence := true, clamp := false }).station side).inFlight with
      | none => rfl
      | some e => obtain h | h := station.exchanging he <;> simp [empty] at h
    | true => exact held.startRead (by simp [empty]) (by simp [empty]) (by simp [empty])

theorem dieLaw_powered (stored : Option StoredCopy) (presenceA clampA presenceB clampB : Bool) :
    DieLaw (powered stored presenceA clampA presenceB clampB) := by
  let fresh := (freshDevice ((usable stored).getD defaultTables) stored)
  have reset : StationLaw Station.reset := .of_idle rfl rfl rfl ⟨nofun, nofun⟩
  have law : DieLaw fresh := by
    refine ⟨reset, reset, fun side => ⟨fun h => ?_, nofun⟩, nofun, fun h => ?_⟩
    · cases side <;> exact absurd h nofun
    · obtain h | h := h <;> exact absurd h nofun
  let driven := (((fresh.notifyLine .powerUp).raiseDefaulted (usable stored).isSome).stopDrive).queryCarriage
  have unit : driven.die = { fresh.die with
      carriage := .querying, carriageTimer := driven.die.carriageTimer, pressTimer := driven.die.pressTimer } := by
    cases h : (usable stored).isSome <;> simp [driven, Device.queryCarriage, Device.stopDrive, Device.raiseDefaulted, h]
  have queried : DieLaw driven := by
    refine DieLaw.carriage (d := { fresh with die := { fresh.die with pressTimer := driven.die.pressTimer } })
      (law.press (press := .stopped) (timer := driven.die.pressTimer) rfl (by simp)) rfl unit
  have empty (side : Side) : (driven.station side).state = .empty := by
    rw [Device.station, unit]; cases side <;> rfl
  have seatedA := queried.seat (empty .a) presenceA clampA
  have emptyB : ((driven.seat .a presenceA clampA).station .b).state = .empty := by
    cases presenceA <;> cases clampA <;> exact empty .b
  exact (seatedA.seat emptyB presenceB clampB).congr (by simp [powered, driven, fresh])

/-- Each command's effect keeps the law on dies and the law on the press. -/
theorem DieLaw.effect {d : Device} (law : DieLaw d) (i : Instr) : DieLaw (effect i d) := by
  have timed (t : Nat) : DieLaw { d with time := t } := law
  by_cases untouched : (touched i).contains .die = false
  · exact law.congr (effect_die untouched d)
  · cases i <;> try exact absurd rfl untouched
    case powerUp => exact dieLaw_powered _ _ _ _ _
    case loadDone => exact law.loadDone _
    case presenceEvent => exact .ofDieEvent (law.presenceEvent _ _)
    case clampEvent => exact .ofDieEvent (law.clampEvent _ _)
    case buttonEvent => exact .ofDieEvent (law.buttonEvent _)
    case memoryReadReply => exact .ofDieEvent (law.memoryReadReply _ _)
    case memoryWriteReply => exact .ofDieEvent (law.memoryWriteReply _ _)
    case carriageQueryAnswer => exact .ofDieEvent (law.queryAnswer _)
    case carriageDone => exact .ofDieEvent (law.carriageDone _)
    case dieRelease => exact law.dieRelease _
    case dieKeep => exact law.dieKeep _
    case dieReread => exact law.dieReread _
    case dieSwap => exact law.dieSwap _
    case pressStart => exact law.pressStart
    case pressStop => exact law.stopPress
    case pressStopOrder => exact (law.congr rfl : DieLaw (d.take .pressStop)).stopPress
    case pressStarted => exact law.pressStarted
    case pressHalted => exact law.pressHalted
    case pressFaultReport => exact law.pressFault
    case pressAckExpiry => exact expire_induct law fun t _ => (timed _).pressFault
    case debounceExpiry side =>
      refine expire_induct law fun t h => .ofDieEvent ((timed _).debounceExpired ?_)
      obtain ⟨settling, -⟩ := law.station side
      obtain ⟨x, hx, -⟩ := Option.map_eq_some_iff.mp h
      exact settling (by simp [hx])
    case memoryExchangeExpiry side => exact expire_induct law fun t _ => .ofDieEvent (timed _).memoryExpired
    case carriageQueryExpiry =>
      exact expire_induct law fun t h => .ofDieEvent ((timed _).queryFailed (Option.ite_none_right_eq_some.mp h).1)
    case carriageMoveExpiry =>
      exact expire_induct law fun t h => .ofDieEvent ((timed _).carriageLost (Option.ite_none_right_eq_some.mp h).1)

/-- Settles O57: the law speaks of the die carriage unit only, and each command that changes the unit keeps it. -/
theorem dieAndPressLawKept : Obligations.DieAndPressLawKept := by
  unfold Obligations.DieAndPressLawKept
  intro s t law h
  exact step_keeps (fun _ _ same law => law.congr (by rw [same.1])) (fun i _ law => law.effect i) h law

end Sys2Proof.Machine
end

section
/-! SUPPORT. One step and the reset state: a step runs the front command or the part's own, every command answers a next
state, what the part holds at reset, and that the laws hold there. -/

namespace Sys2Proof.Machine

/-- A step without a waiting command runs the command that the part takes by itself. -/
theorem step_own {d : Device} {i : Instr} (h : d.ownCommand = some i) : step ⟨d, []⟩ = exec i ⟨d, []⟩ := by
  simp [step, idle, h]

theorem step_tick {d : Device} (h : d.ownCommand = none) : step ⟨d, []⟩ = .next ⟨d.tick, []⟩ := by
  simp [step, idle, h]

/-- With no message and no request, the part's own command is the first limit that has been reached. -/
theorem ownCommand_limits {d : Device} (mail : d.mail = []) (request : d.nextRequest = none) :
    d.ownCommand = (d.limits.find? d.reached).map Prod.snd := by
  simp [Device.ownCommand, mail, request]

theorem not_reached {d : Device} {q : Option Nat × Instr} (h : ∀ t, q.1 = some t → d.time < t) : d.reached q = false := by
  cases hq : q.1 with
  | none => simp [Device.reached, hq]
  | some t => simpa [Device.reached, hq] using h t hq

/-- Settles O1, from the four cases of the part's own command. -/
theorem stepRunsFrontCommand : Obligations.StepRunsFrontCommand := by
  unfold Obligations.StepRunsFrontCommand
  refine ⟨fun _ _ _ => rfl, fun d m ms h => step_own (by simp [Device.ownCommand, h]),
    fun d f mail h => step_own (by simp [Device.ownCommand, mail, h]), fun d before due c later mail request limits hit miss => ?_,
    fun _ _ h => step_own h, fun _ h => step_tick h, fun d mail request miss => step_tick ?_⟩
  · apply step_own
    have skipped : before.find? d.reached = none :=
      List.find?_eq_none.mpr fun q hq => by simp [not_reached (miss q hq)]
    rw [ownCommand_limits mail request, limits, List.find?_append, skipped]
    simp [Device.reached, hit]
  · rw [ownCommand_limits mail request, List.find?_eq_none.mpr fun q hq => by simp [not_reached (miss q hq)]]
    rfl

/-- Settles O2: every command's meaning is a `run`. -/
theorem everyCommandAnswersANextState : Obligations.EveryCommandAnswersANextState := by
  unfold Obligations.EveryCommandAnswersANextState
  intro c s
  obtain event | ⟨f, own, -, request⟩ := meant c
  · exact ⟨_, event s, rfl⟩
  · exact ⟨_, request s, rfl⟩

/-- No record is live at reset. -/
theorem liveRods_reset : Device.reset.liveRods = [] := by
  have positions : Device.reset.track.positions.filterMap Content.rod? = [] :=
    List.filterMap_eq_nil_iff.mpr fun c h => by rw [List.eq_of_mem_replicate h]; rfl
  simp only [Device.liveRods, positions]
  rfl

/-- Settles O3: the items of the reset state, each read off. -/
theorem resetState : Obligations.ResetState := by
  unfold Obligations.ResetState
  refine ⟨rfl, rfl, rfl, rfl, rfl, liveRods_reset, rfl, rfl, rfl, rfl, by decide, rfl, rfl, rfl, rfl, rfl, rfl, rfl, by decide,
    rfl, rfl, rfl, rfl, rfl, by decide, rfl, rfl, rfl, rfl, rfl, rfl⟩

theorem factorLaw_reset : FactorLaw Device.reset := ⟨rfl, fun c h => by rw [List.eq_of_mem_replicate h]; decide⟩

theorem layoutValid_default : LayoutValid defaultTables := by
  refine ⟨by decide, by decide, by decide, by decide, by decide, by decide, fun e h => ?_, fun z e f he hf => ?_⟩
  · cases h; decide
  · have hz : z < defaultTables.zones.length := (List.getElem?_eq_some_iff.mp he).1
    have all : ∀ z < defaultTables.zones.length, ∀ e ∈ defaultTables.zones[z]?, ∀ f ∈ defaultTables.zones[z + 1]?,
        e.last + 1 ≤ f.governing ∧ f.governing ≤ f.last := by decide
    exact all z hz e he f hf

theorem tunnelLaw_reset : TunnelLaw Device.reset :=
  ⟨layoutValid_default, List.length_replicate, nofun, nofun⟩

theorem trimLaw_reset : TrimLaw Device.reset := by
  refine ⟨fun z e he => ?_, fun x h => by rw [List.eq_of_mem_replicate h]; decide⟩
  have hz : z < defaultTables.zones.length := (List.getElem?_eq_some_iff.mp he).1
  have all : ∀ z < defaultTables.zones.length, (Device.reset.zone z).trim = 0 := by decide
  rw [all z hz]; exact Nat.zero_le _

theorem dieLaw_reset : DieLaw Device.reset := by
  have station : StationLaw Station.reset := .of_idle rfl rfl rfl ⟨nofun, nofun⟩
  refine ⟨station, station, fun side => ⟨fun h => ?_, nofun⟩, nofun, by decide⟩
  cases side <;> exact absurd h nofun

theorem laneLaw_reset : LaneLaw Device.reset :=
  ⟨rfl, ⟨by decide, by decide⟩, ⟨nofun, nofun⟩, by decide, nofun⟩

/-- Settles O60: each law at the reset state. -/
theorem lawsAtReset : Obligations.LawsAtReset := by
  unfold Obligations.LawsAtReset
  refine ⟨factorLaw_reset, ⟨by decide, fun _ => rfl⟩, ⟨nofun, nofun, nofun, by decide, nofun, by decide⟩, ⟨by decide, by decide, by decide⟩,
    ⟨nofun, by decide, nofun, nofun⟩, tunnelLaw_reset, trimLaw_reset, dieLaw_reset, laneLaw_reset,
    ⟨rfl, nofun, fun _ => rfl, nofun, nofun⟩, ?_⟩
  have none : State.reset.dev.liveIds = [] := congrArg (List.map Rod.id) liveRods_reset
  rw [IdLaw, none]
  exact ⟨List.nodup_nil, nofun⟩

end Sys2Proof.Machine
end

section
/-! SUPPORT. The accumulator's lanes under each operation, and the law on lanes (R148), which every step keeps. -/

namespace Sys2Proof.Machine

/-! The lanes under the operations. -/

theorem Device.lane_eq_default {d : Device} {l : Nat} (h : d.acc.lanes.length ≤ l) : d.lane l = default := by
  simp [Device.lane, List.getD_eq_getElem?_getD, List.getElem?_eq_none h]

/-- A change of a lane changes that lane, if it exists, and no other. -/
theorem Device.lane_modifyLane (l k : Nat) (f : LaneRt → LaneRt) (d : Device) :
    (d.modifyLane l f).lane k = if k = l ∧ k < d.acc.lanes.length then f (d.lane k) else d.lane k := by
  simp only [Device.lane, Device.modifyLane, List.getD_eq_getElem?_getD, List.getElem?_modify]
  rcases Nat.lt_or_ge k d.acc.lanes.length with h | h
  · by_cases e : l = k
    · simp [e, h]
    · simp [e, h, Ne.symm e]
  · simp [List.getElem?_eq_none h, Nat.not_lt.mpr h]

/-- A lane that has room exists, and is declared. -/
theorem Device.hasRoom_iff {d : Device} {l : Nat} :
    d.hasRoom l = true ↔ (d.lane l).declared = true ∧ (d.lane l).load < (d.laneEntry l).capacity := by
  simp [Device.hasRoom]

theorem Device.lt_of_declared {d : Device} {l : Nat} (h : (d.lane l).declared = true) : l < d.acc.lanes.length := by
  rcases Nat.lt_or_ge l d.acc.lanes.length with hl | hl
  · exact hl
  · rw [Device.lane_eq_default hl] at h; cases h

/-- A fill decision changes the count of the return buffer only (R137, R163). -/
theorem Device.fill_acc (d : Device) : d.fill.acc = { d.acc with returnCount := d.fill.acc.returnCount } := by
  obtain h | ⟨-, -, -, ⟨i, -, -, -, h⟩ | ⟨-, -, h⟩⟩ := d.fill_cases <;> rw [h] <;> simp

theorem Device.lane_fill (l : Nat) (d : Device) : d.fill.lane l = d.lane l := by
  rw [Device.lane, Device.fill_acc, Device.lane]

/-- A recharge or a charge changes credits only (R157). -/
theorem Device.refill_lane (d : Device) (k : Nat) :
    ∃ credit, d.refill.lane k = { d.lane k with credit := credit } := by
  simp only [Device.lane, Device.refill, List.getD_eq_getElem?_getD, List.getElem?_map, List.getElem?_zipIdx]
  rcases h : d.acc.lanes[k]? with _ | x
  · exact ⟨_, rfl⟩
  · dsimp
    split
    · exact ⟨_, rfl⟩
    · exact ⟨_, rfl⟩

theorem Device.charge_lane (d : Device) (l k : Nat) : ∃ credit, (d.charge l).lane k = { d.lane k with credit := credit } := by
  have h : (d.charge l).lane k = (d.modifyLane l fun x => { x with credit := (d.lane l).credit - 1 }).lane k := rfl
  rw [h, Device.lane_modifyLane]
  split <;> exact ⟨_, rfl⟩

/-- The lane chosen, with what the choice changed: credits and the round pointer only (R156, R157). -/
theorem Device.chooseLane_only {d c : Device} {l : Nat} (h : d.chooseLane = some (l, c)) :
    c = { d with acc := { d.acc with lanes := c.acc.lanes, pointer := c.acc.pointer } }
      ∧ c.acc.lanes.length = d.acc.lanes.length ∧ ∀ k, ∃ credit, c.lane k = { d.lane k with credit := credit } := by
  obtain ⟨rfl, -⟩ | ⟨-, rfl⟩ | ⟨-, rfl⟩ := Device.chooseLane_cases h
  · exact ⟨rfl, rfl, fun k => ⟨_, rfl⟩⟩
  · exact ⟨rfl, by simp [Device.charge], fun k => d.charge_lane l k⟩
  · refine ⟨rfl, by simp [Device.charge, Device.refill], fun k => ?_⟩
    obtain ⟨a, ha⟩ := d.refill_lane k
    obtain ⟨b, hb⟩ := d.refill.charge_lane l k
    exact ⟨b, by rw [hb, ha]⟩

/-- A grant takes the head record of one lane into the strip slot, and changes of the lanes nothing else but credits
(R156). -/
theorem Device.grant_lanes {d e : Device} (h : d.grant = some e) : ∃ l r rest gate,
    l < d.acc.lanes.length ∧ (d.lane l).records = r :: rest ∧ e.acc.slot = some ⟨r, l, gate⟩ ∧ e.acc.stripper = .stripping
      ∧ d.acc.stripper = .idle ∧ e.acc.lanes.length = d.acc.lanes.length ∧ e.acc.returnCount = d.acc.returnCount
      ∧ e.acc.returnDeclared = d.acc.returnDeclared
      ∧ ∀ k, ∃ credit, e.lane k = { d.lane k with credit := credit, records := if k = l then rest else (d.lane k).records } := by
  obtain ⟨idle, -, l, c, r, rest, choice, records, rfl⟩ := Device.grant_some h
  obtain ⟨only, length, credits⟩ := Device.chooseLane_only choice
  obtain ⟨credit, hl⟩ := credits l
  have head : (d.lane l).records = r :: rest := by rw [← records, hl]
  have exists_l : l < d.acc.lanes.length := by
    rcases Nat.lt_or_ge l d.acc.lanes.length with h | h
    · exact h
    · rw [Device.lane_eq_default h] at head; cases head
  refine ⟨l, r, rest, (c.laneEntry l).dest, exists_l, head, rfl, rfl, idle, ?_, ?_, ?_, fun k => ?_⟩
  · exact (List.length_modify ..).trans length
  · exact congrArg (·.acc.returnCount) only
  · exact congrArg (·.acc.returnDeclared) only
  · have step : ((c.modifyLane l fun x => { x with records := rest }).startStrip ⟨r, l, (c.laneEntry l).dest⟩).lane k
        = (c.modifyLane l fun x => { x with records := rest }).lane k := rfl
    obtain ⟨credit, hk⟩ := credits k
    rw [step, Device.lane_modifyLane, hk, length]
    by_cases hkl : k = l
    · subst hkl; exact ⟨credit, by simp [exists_l]⟩
    · exact ⟨credit, by simp [hkl]⟩

/-! The law. -/

theorem storeWrite_of_silent {a b : Link} (h : a.silent = b.silent) : a.storeWrite = b.storeWrite := by
  have same := congrArg Link.storeWrite h
  exact same

/-- The law speaks of the lanes, their settings in use and stored, and the move in flight. -/
theorem LaneLaw.congr {d e : Device} (lanes : e.acc.lanes = d.acc.lanes) (entries : e.tables.lanes = d.tables.lanes)
    (stored : e.stored = d.stored) (write : e.link.storeWrite = d.link.storeWrite)
    (move : e.pace.inFlight = d.pace.inFlight) (law : LaneLaw d) : LaneLaw e := by
  simp only [LaneLaw, StoreLanesValid, Device.lane, Device.laneEntry, lanes, entries, stored, write, move]
  exact law

/-- The law is kept where each lane keeps its flag, keeps or raises its reservations and holds no more than it did. -/
theorem LaneLaw.of_le {d e : Device} (law : LaneLaw d) (length : e.acc.lanes.length = d.acc.lanes.length)
    (entries : e.tables = d.tables) (stored : e.stored = d.stored) (write : e.link.storeWrite = d.link.storeWrite)
    (move : ∀ m, e.pace.inFlight = some m → d.pace.inFlight = some m)
    (lanes : ∀ k, (e.lane k).declared = (d.lane k).declared ∧ (d.lane k).reservations ≤ (e.lane k).reservations
      ∧ (e.lane k).load ≤ (d.lane k).load) : LaneLaw e := by
  obtain ⟨four, valid, store, fit, held⟩ := law
  refine ⟨length.trans four, entries ▸ valid, ?_, fun l hl => ?_, fun m l hm hr => ?_⟩
  · simpa only [StoreLanesValid, stored, write] using store
  · obtain ⟨declared, -, le⟩ := lanes l
    obtain ⟨fits, empty⟩ := fit l hl
    rw [Device.laneEntry, entries]
    exact ⟨le.trans fits, fun h => Nat.le_zero.mp (le.trans (empty (declared ▸ h)).le)⟩
  · obtain ⟨hl, one⟩ := held m l (move m hm) hr
    exact ⟨hl, one.trans (lanes l).2.1⟩

/-- A change of one lane keeps the law if the lane fits its capacity after it and a reservation of the move in flight
stays. -/
theorem LaneLaw.modifyLane {d : Device} {l : Nat} {f : LaneRt → LaneRt} (law : LaneLaw d)
    (fits : l < 4 → (f (d.lane l)).load ≤ (d.laneEntry l).capacity
      ∧ ((f (d.lane l)).declared = false → (f (d.lane l)).load = 0))
    (held : ∀ m, d.pace.inFlight = some m → m.reservation = some l → 1 ≤ (f (d.lane l)).reservations) :
    LaneLaw (d.modifyLane l f) := by
  obtain ⟨four, valid, store, fit, reserved⟩ := law
  refine ⟨by simpa using four, valid, store, fun k hk => ?_, fun m k hm hr => ?_⟩
  · rw [Device.lane_modifyLane, four]
    split
    · rename_i h; obtain ⟨rfl, hk⟩ := h; exact fits hk
    · exact fit k hk
  · obtain ⟨hk, one⟩ := reserved m k hm hr
    rw [Device.lane_modifyLane]
    refine ⟨hk, ?_⟩
    split
    · rename_i h; obtain ⟨rfl, -⟩ := h; exact held m hm hr
    · exact one

theorem LaneLaw.accEnd {d : Device} (law : LaneLaw d) (freed : Bool) : LaneLaw (d.accEnd freed) := by
  obtain ⟨e, grant, h⟩ | ⟨-, h⟩ := d.accEnd_cases freed
  · rw [h]
    obtain ⟨l, r, rest, gate, -, head, -, -, -, length, -, -, lanes⟩ := Device.grant_lanes grant
    obtain ⟨-, tables, stored, -, pace, -, -, -, -, -, link, -, -⟩ := Device.grant_frame grant
    refine law.of_le (by simpa using length) tables stored (congrArg Link.storeWrite link)
      (fun m hm => (congrArg Pace.inFlight pace).symm.trans hm) fun k => ?_
    obtain ⟨credit, hk⟩ := lanes k
    have same : (e.post (.retry .freePlace)).lane k = e.lane k := rfl
    rw [same, hk]
    refine ⟨rfl, le_rfl, ?_⟩
    by_cases hkl : k = l
    · subst hkl; simp [LaneRt.load, head]
    · simp [LaneRt.load, hkl]
  · rw [h]; split <;> exact law

theorem LaneLaw.fill {d : Device} (law : LaneLaw d) : LaneLaw d.fill :=
  law.congr (by rw [Device.fill_acc]) (by simp) (by simp) (by simp) (by simp)

theorem LaneLaw.clearHold {d : Device} (law : LaneLaw d) : LaneLaw d.clearHold := by
  obtain ⟨-, h⟩ | ⟨-, h⟩ := d.clearHold_cases <;> rw [h]
  · exact law
  · exact LaneLaw.fill (d := { d with spread := { d.spread with hold := false } }) law

theorem LaneLaw.returnRod {d : Device} (law : LaneLaw d) (c : Context) : LaneLaw (d.returnRod c) := by
  obtain ⟨-, -, h⟩ | ⟨-, h⟩ := d.returnRod_cases c <;> rw [h]
  · exact LaneLaw.fill (d := { d with acc := { d.acc with returnCount := d.acc.returnCount + 1 } }) law
  · exact law

theorem LaneLaw.notify {d : Device} (law : LaneLaw d) (n : Notice) : LaneLaw (d.notify n) :=
  law.congr (by simp) (by simp) (by simp) (storeWrite_of_silent (d.notify_link n).1) (by simp)

/-- A record without a reservation joins a lane that has room. -/
theorem LaneLaw.joinFree {d : Device} {l : Nat} (law : LaneLaw d) (room : d.hasRoom l = true) (r : Rod) :
    LaneLaw (d.joinLane false l r) := by
  obtain ⟨declared, less⟩ := Device.hasRoom_iff.mp room
  have joined : LaneLaw (d.modifyLane l (LaneRt.join false r)) := by
    refine law.modifyLane (fun _ => ⟨?_, fun h => ?_⟩) fun m hm hr => ?_
    · have : (LaneRt.join false r (d.lane l)).load = (d.lane l).load + 1 := by simp [LaneRt.join, LaneRt.load]; omega
      omega
    · exact absurd (declared.symm.trans h) nofun
    · obtain ⟨-, -, -, -, held⟩ := law
      exact (held m l hm hr).2
  exact joined.congr rfl rfl rfl rfl rfl

/-- A record joins the lane that its move's reservation is in. -/
theorem LaneLaw.joinReserved {d : Device} {l : Nat} (law : LaneLaw d) (ended : d.pace.inFlight = none)
    (held : 1 ≤ (d.lane l).reservations) (r : Rod) : LaneLaw (d.joinLane true l r) := by
  have same : (LaneRt.join true r (d.lane l)).load = (d.lane l).load := by simp [LaneRt.join, LaneRt.load]; omega
  have joined : LaneLaw (d.modifyLane l (LaneRt.join true r)) := by
    refine law.modifyLane (fun hl => ?_) fun m hm => by rw [ended] at hm; cases hm
    obtain ⟨-, -, -, fit, -⟩ := law
    rw [same]
    exact fit l hl
  exact joined.congr rfl rfl rfl rfl rfl

/-- A reservation is released once its move has ended. -/
theorem LaneLaw.release {d : Device} {l : Option Nat} (law : LaneLaw d)
    (ended : l = none ∨ d.pace.inFlight = none) : LaneLaw (d.releaseReservation l) := by
  cases l with
  | none => exact law
  | some l =>
    have none := ended.resolve_left nofun
    refine law.modifyLane (fun hl => ?_) fun m hm => by rw [none] at hm; cases hm
    obtain ⟨-, -, -, fit, -⟩ := law
    obtain ⟨fits, empty⟩ := fit l hl
    have le : (d.lane l).release.load ≤ (d.lane l).load := by simp [LaneRt.release, LaneRt.load]
    exact ⟨le.trans fits, fun h => Nat.le_zero.mp (le.trans (empty h).le)⟩

theorem LaneLaw.dischargeFree {d : Device} (law : LaneLaw d) (disp : Disposition) (l : Nat) (r : Rod) :
    LaneLaw (d.dischargeFree disp l r) := by
  unfold Device.dischargeFree
  split
  · rename_i room; exact law.joinFree room _
  · exact LaneLaw.notify (d := d.spillRod) law _

theorem LaneLaw.dischargeUntracked {d : Device} (law : LaneLaw d) : LaneLaw d.dischargeUntracked :=
  LaneLaw.dischargeFree (d := d.assignId) law _ _ _

/-- A shift order carries no reservation, or that of a move that has ended, which stands in its lane. -/
def ShiftOrder.Reserved (o : ShiftOrder) (d : Device) : Prop :=
  o.reservation = none ∨ d.pace.inFlight = none ∧ ∀ l, o.reservation = some l → l < 4 ∧ 1 ≤ (d.lane l).reservations

theorem LaneLaw.inventoryAdd {d : Device} (law : LaneLaw d) (n : Nat) : LaneLaw (d.inventoryAdd n) :=
  law.congr (by simp) (by simp) (by simp) (by simp) (by simp)

theorem LaneLaw.inventorySub {d : Device} (law : LaneLaw d) (n : Nat) : LaneLaw (d.inventorySub n) :=
  law.congr (by simp) (by simp) (by simp) (by simp) (by simp)

theorem LaneLaw.reconcile {d : Device} {o : ShiftOrder} (law : LaneLaw d) (reserved : o.Reserved d) (c : Content) :
    LaneLaw (d.reconcile o c) := by
  cases c with
  | loaded r =>
    simp only [Device.reconcile, Device.reconcileLoaded]
    split
    · split
      · rename_i l hl
        obtain h | ⟨ended, held⟩ := reserved
        · rw [hl] at h; cases h
        · exact law.joinReserved ended (held l hl).2 _
      · exact law.dischargeFree _ _ _
    · refine LaneLaw.release (d := (d.closeRod _ _).returnRod _) ((law.notify _).returnRod _) ?_
      simpa using reserved.imp_right And.left
    · refine LaneLaw.inventorySub (d := Device.raise _ _ _) (LaneLaw.release (d := d.closeRod _ _) (law.notify _) ?_) 1
      simpa using reserved.imp_right And.left
  | empty =>
    simp only [Device.reconcile, Device.reconcileEmpty]
    split
    · exact law.returnRod _
    · exact law.dischargeUntracked
    · exact law.inventorySub 1
  | gap =>
    simp only [Device.reconcile, Device.reconcileGap]
    split
    · exact law
    · exact (law.returnRod _).inventoryAdd 1
    · exact law.dischargeUntracked.inventoryAdd 1
  | unknown =>
    simp only [Device.reconcile, Device.reconcileUnknown]
    split
    · exact law
    · exact law.returnRod _
    · exact law.dischargeUntracked

theorem LaneLaw.establish {d : Device} (law : LaneLaw d) : LaneLaw d.establish :=
  law.congr (by simp) (by simp) (by simp) (storeWrite_of_silent d.establish_link.1) (by simp)

theorem Device.advance_acc (d : Device) : d.advance.acc = { d.acc with returnCount := d.advance.acc.returnCount } := by
  simp only [Device.advance]
  rw [Device.fill_acc]
  split <;> simp

theorem Device.lane_advance (l : Nat) (d : Device) : d.advance.lane l = d.lane l := by
  rw [Device.lane, Device.advance_acc, Device.lane]

theorem LaneLaw.shift {d : Device} {o : ShiftOrder} (law : LaneLaw d) (reserved : o.Reserved d) : LaneLaw (d.shift o) := by
  have advanced : LaneLaw d.advance := law.congr (by rw [Device.advance_acc]) (by simp) (by simp) (by simp) (by simp)
  have held : o.Reserved d.advance := by simpa [ShiftOrder.Reserved, Device.lane_advance] using reserved
  exact ((advanced.reconcile held _).accEnd _).establish

theorem LaneLaw.shiftAndReport {d : Device} {o : ShiftOrder} (law : LaneLaw d) (reserved : o.Reserved d) (late : Bool) :
    LaneLaw (d.shiftAndReport o late) :=
  LaneLaw.congr (d := (d.shift o).clearHold) rfl rfl rfl rfl rfl (law.shift reserved).clearHold

/-! Moves. -/

/-- A move that ends leaves its reservation to the shift. -/
theorem LaneLaw.endMove {d : Device} {m : Move} (law : LaneLaw d) (moving : d.pace.inFlight = some m) :
    LaneLaw d.endMove ∧ ∀ seen, (m.order seen).Reserved d.endMove := by
  refine ⟨law.of_le rfl rfl rfl rfl (fun m h => ?_) fun k => ⟨rfl, le_rfl, le_rfl⟩, fun seen => .inr ⟨rfl, fun l hl => ?_⟩⟩
  · cases h
  · obtain ⟨-, -, -, -, held⟩ := law
    exact held m l moving hl

theorem ShiftOrder.Reserved.notify {o : ShiftOrder} {d : Device} (h : o.Reserved d) (n : Notice) : o.Reserved (d.notify n) := by
  simpa [ShiftOrder.Reserved, Device.lane] using h

theorem LaneLaw.lateDone {d : Device} (law : LaneLaw d) (n : Nat) (seen : Sighting) : LaneLaw (d.lateDone n seen) := by
  have raised : LaneLaw ({ d with pace := { d.pace with lateWindow := none } }.raise .chainLateDone (moveContext n)) := law
  unfold Device.lateDone
  split
  · exact raised.shiftAndReport (.inl rfl) _
  · exact law

theorem LaneLaw.moveDone {d : Device} (law : LaneLaw d) (n : Nat) (seen : Sighting) : LaneLaw (d.moveDone n seen) := by
  unfold Device.moveDone
  split
  · split
    · rename_i m hm
      split
      · obtain ⟨ended, reserved⟩ := law.endMove hm
        exact ended.shiftAndReport (reserved _) _
      · exact law
    · exact law
  · split
    · rename_i m hm
      split
      · obtain ⟨ended, reserved⟩ := law.endMove hm
        exact LaneLaw.shiftAndReport (d := d.endMove.notifyLine .unresolvedLeave) (ended.notify _) ((reserved _).notify _) _
      · exact law
    · exact law
  all_goals exact law.lateDone n seen

theorem LaneLaw.exitCheck_update {d : Device} (law : LaneLaw d) : LaneLaw (exitCheck (update d)) :=
  law.congr (by simp) (by simp) (by simp) (by simp) (by simp)

theorem LaneLaw.reserveAndMove {e : Device} (law : LaneLaw e) (kind : MoveKind) : LaneLaw (e.reserveAndMove kind).1 := by
  obtain ⟨r, l, -, -, room, h⟩ | ⟨r, -, -, h⟩ | ⟨-, h⟩ := e.reserveAndMove_cases kind <;> rw [h]
  · obtain ⟨declared, less⟩ := Device.hasRoom_iff.mp room
    have hl : l < e.acc.lanes.length := Device.lt_of_declared declared
    have grown : (e.lane l).reserve.load = (e.lane l).load + 1 := rfl
    have reserved : LaneLaw (e.modifyLane l LaneRt.reserve) :=
      law.modifyLane (fun _ => ⟨by omega, fun h => absurd (declared.symm.trans h) nofun⟩) fun m hm hr => Nat.le_add_left 1 _
    obtain ⟨four, valid, store, fit, -⟩ := reserved
    refine ⟨four, valid, store, fit, fun m k hm hr => ?_⟩
    cases hm; cases hr
    have same : (Device.startMove kind (some l) (some (dispositionOf r)) (e.modifyLane l LaneRt.reserve)).lane l
        = (e.modifyLane l LaneRt.reserve).lane l := rfl
    rw [same, Device.lane_modifyLane, if_pos ⟨rfl, hl⟩]
    exact ⟨law.1 ▸ hl, Nat.le_add_left 1 _⟩
  · exact law
  · obtain ⟨four, valid, store, fit, -⟩ := law
    refine ⟨four, valid, store, fit, fun m k hm hr => ?_⟩
    cases hm; cases hr

theorem LaneLaw.attempt {d : Device} (law : LaneLaw d) (kind : MoveKind) : LaneLaw (d.attempt kind).1 := by
  obtain ⟨-, h⟩ | ⟨-, h⟩ := d.attempt_cases kind <;> rw [h]
  · exact law
  · exact (LaneLaw.exitCheck_update (d := d.setHold) law).reserveAndMove kind

theorem LaneLaw.pacedAttempt {d : Device} (law : LaneLaw d) : LaneLaw d.pacedAttempt := by
  have attempted := law.attempt .paced
  unfold Device.pacedAttempt
  split <;> rename_i h <;> rw [h] at attempted
  · exact attempted
  · exact attempted
  · exact LaneLaw.clearHold (d := Device.deferPace _ _) attempted

theorem LaneLaw.due {d : Device} (law : LaneLaw d) : LaneLaw d.due := by
  obtain ⟨-, h⟩ | ⟨-, -, h⟩ | ⟨-, h⟩ | ⟨-, h⟩ := d.due_cases <;> rw [h]
  · exact law.pacedAttempt
  all_goals exact law

theorem LaneLaw.proceed {d : Device} (law : LaneLaw d) : LaneLaw d.proceed := by
  unfold Device.proceed
  split
  · exact LaneLaw.pacedAttempt (d := { d.rest with pace := { d.rest.pace with due := false } }) law
  · exact law

theorem LaneLaw.notMoved {d : Device} {m : Move} (law : LaneLaw d) (moving : d.pace.inFlight = some m) :
    LaneLaw (d.notMoved m) := by
  have released : LaneLaw (Device.releaseReservation m.reservation d.endMove) :=
    LaneLaw.release (law.endMove moving).1 (.inr rfl)
  have rested : LaneLaw ({ (d.releaseReservation m.reservation).endMove with
      pace := { (d.releaseReservation m.reservation).endMove.pace with lateWindow := some m.number } } : Device).rest := by
    generalize m.reservation = l at released ⊢
    cases l <;> exact released.congr rfl rfl rfl rfl rfl
  exact ((rested.notify _).clearHold).proceed

theorem LaneLaw.interval {d : Device} (law : LaneLaw d) : LaneLaw d.nextInterval := by
  unfold Device.nextInterval
  dsimp only
  split <;> exact law

theorem LaneLaw.pulse {d : Device} (law : LaneLaw d) (edge : Edge) : LaneLaw (d.pulse edge) := by
  unfold Device.pulse
  dsimp only
  repeat' split
  · exact (LaneLaw.interval (d := { d with pace := { d.pace with lastEdge := some d.time, pulses := d.pace.pulses + 1 } })
      law).due
  all_goals exact law

theorem LaneLaw.jog {d : Device} (law : LaneLaw d) : LaneLaw (jog d).1 := by
  obtain h | h | h := jog_cases d <;> rw [h]
  · exact law
  · exact law.attempt _
  · exact (law.attempt _).clearHold

theorem LaneLaw.moveResolveMoved {d : Device} (law : LaneLaw d) : LaneLaw (moveResolveMoved d).1 := by
  unfold Machine.moveResolveMoved
  repeat' split
  · rename_i m hm
    obtain ⟨ended, reserved⟩ := law.endMove hm
    exact LaneLaw.shiftAndReport (d := d.endMove.notifyLine .unresolvedLeave) (ended.notify _) ((reserved _).notify _) _
  all_goals exact law

theorem LaneLaw.moveResolveNotMoved {d : Device} (law : LaneLaw d) (outcome : Byte) :
    LaneLaw (moveResolveNotMoved outcome d).1 := by
  unfold Machine.moveResolveNotMoved
  repeat' split
  · rename_i m hm; exact law.notMoved hm
  all_goals exact law

theorem LaneLaw.shiftDone {d : Device} (law : LaneLaw d) (late : Bool) : LaneLaw (d.shiftDone late) := by
  have reported : LaneLaw (d.shiftReported late) := by
    unfold Device.shiftReported
    repeat' split
    · exact law
    · exact law.proceed
    · exact law
  exact reported.congr (by simp [Device.shiftDone]) (by simp [Device.shiftDone]) (by simp [Device.shiftDone])
    (by simp [Device.shiftDone]) (by simp [Device.shiftDone])

/-! Strips, declarations and settings. -/

theorem LaneLaw.stripDone {d : Device} (law : LaneLaw d) (n : Nat) : LaneLaw (d.stripDone n) := by
  have completed (slot : StripSlot) : LaneLaw (d.completeStrip slot) :=
    LaneLaw.accEnd (d := Device.bump _ _) (LaneLaw.returnRod (d := (d.closeRod _ _).clearStrip) (law.notify _) _) _
  unfold Device.stripDone
  repeat' split
  all_goals first
    | exact law
    | exact completed _

theorem LaneLaw.stall {d : Device} (law : LaneLaw d) (kind : FaultKind) : LaneLaw (d.stall kind) := by
  unfold Device.stall
  split <;> exact law

theorem LaneLaw.stripRetry {d : Device} (law : LaneLaw d) : LaneLaw (stripRetry d).1 := by
  unfold Machine.stripRetry
  split
  · exact LaneLaw.accEnd (d := Device.startStrip _ _) law _
  all_goals exact law

theorem LaneLaw.stripDiscard {d : Device} (law : LaneLaw d) : LaneLaw (stripDiscard d).1 := by
  unfold Machine.stripDiscard
  split
  · exact LaneLaw.accEnd (d := (Device.closeRod _ _ _).spillRod.clearStrip) (law.notify _) _
  all_goals exact law

/-- A lane not declared holds nothing, so that the records of its declaration fit (R154). -/
theorem LaneLaw.laneDeclare {d : Device} (law : LaneLaw d) (lane n : Nat) : LaneLaw (laneDeclare lane n d).1 := by
  unfold Machine.laneDeclare
  split
  · exact law
  split
  · exact law
  split
  · exact law
  · rename_i hl undeclared fits
    obtain ⟨new, length, -, -, many⟩ := Device.declareMany_eq lane n d
    have declared : (d.declareLane lane n).acc = (d.modifyLane lane fun x =>
        { x with records := x.records ++ new, declared := true }).acc := by
      rw [Device.declareLane, many]
      simp [Device.modifyLane, modify_lane_twice]
    have taken : LaneLaw (d.modifyLane lane fun x => { x with records := x.records ++ new, declared := true }) := by
      have ⟨_, _, _, fit, held⟩ := law
      refine law.modifyLane (fun hl => ⟨?_, nofun⟩) fun m hm hr => (held m lane hm hr).2
      have empty := (fit lane hl).2 (by simpa using undeclared)
      simp only [LaneRt.load] at empty ⊢
      rw [List.length_append]
      omega
    exact LaneLaw.accEnd (LaneLaw.establish (taken.congr (by rw [declared]) (by simp) (by simp) (by simp) (by simp))) _

theorem LaneLaw.returnDeclare {d : Device} (law : LaneLaw d) (n : Nat) : LaneLaw (returnDeclare n d).1 := by
  unfold Machine.returnDeclare
  split
  · exact law
  · refine LaneLaw.accEnd ?_ _
    have declared : LaneLaw { ((d.setReturn n).inventoryAdd (n - d.acc.returnCount)).inventorySub (d.acc.returnCount - n) with
        acc := { (((d.setReturn n).inventoryAdd (n - d.acc.returnCount)).inventorySub (d.acc.returnCount - n)).acc with
          returnDeclared := true } } :=
      law.congr (by simp [Device.setReturn]) (by simp [Device.setReturn]) (by simp [Device.setReturn])
        (by simp [Device.setReturn]) (by simp [Device.setReturn])
    unfold Device.fillIf
    split
    · exact declared.establish.fill
    · exact declared.establish

theorem LaneLaw.rodAdd {d : Device} (law : LaneLaw d) (n : Nat) : LaneLaw (rodAdd n d).1 := by
  unfold Machine.rodAdd
  repeat' split
  · exact law
  · exact law
  · exact law
  · exact ((LaneLaw.inventoryAdd (d := d.setReturn (d.acc.returnCount + n)) law n).fill).accEnd _

theorem LaneLaw.rodRemoveReturn {d : Device} (law : LaneLaw d) (n : Nat) : LaneLaw (rodRemoveReturn n d).1 := by
  unfold Machine.rodRemoveReturn
  repeat' split
  · exact law
  · exact law
  · exact (LaneLaw.inventorySub (d := d.setReturn (d.acc.returnCount - n)) law n).accEnd _

theorem LaneLaw.rodRemoveSpill {d : Device} (law : LaneLaw d) (place : Byte) (n : Nat) :
    LaneLaw (rodRemoveSpill place n d).1 := by
  unfold Machine.rodRemoveSpill
  repeat' split
  · exact law
  · exact law
  · exact (LaneLaw.inventorySub (d := { d with track := { d.track with spill := d.track.spill - n } }) law n).accEnd _

/-- A write that changes no lane settings keeps the law. -/
theorem LaneLaw.setTables {d : Device} {f : Tables → Tables} (law : LaneLaw d) (same : (f d.tables).lanes = d.tables.lanes) :
    LaneLaw (d.setTables f) := by
  have kept : (d.setTables f).tables.lanes = d.tables.lanes := same
  exact LaneLaw.congr (d := d) rfl kept rfl rfl rfl law

theorem readEntries_length (specs : List FieldSpec) (n : Nat) (bytes : List Byte) :
    (readEntries specs n bytes).length = n := by
  induction n generalizing bytes with
  | zero => rfl
  | succ n ih => simp [readEntries, ih]

theorem replaceAt_length {α : Type} {xs new : List α} {start : Nat} (fits : start + new.length ≤ xs.length) :
    (replaceAt xs start new).length = xs.length := by
  simp only [replaceAt, List.length_append, List.length_take, List.length_drop]
  omega

/-- What a table write does where it does something: its owner's act keeps the law. -/
theorem LaneLaw.writeTable {d : Device} (law : LaneLaw d) {specs : List FieldSpec} {size start count : Nat}
    {entries : List Byte} {own : List (List (List Nat)) → Device → Device × Answer}
    (keeps : start + count ≤ size → (values : List (List (List Nat))) → values.length = count → LaneLaw (own values d).1) :
    LaneLaw (writeTable specs size start count entries own d).1 := by
  obtain h | ⟨-, fits, -, h⟩ := writeTable_cases specs size start count entries own d <;> rw [h]
  · exact law
  · exact keeps fits _ (readEntries_length _ _ _)

/-- A LANES write that R149 does not refuse leaves every lane within its new capacity. -/
theorem LaneLaw.lanesOwn {d : Device} (law : LaneLaw d) {start count : Nat} (fits : start + count ≤ 4)
    {values : List (List (List Nat))} (length : values.length = count) : LaneLaw (lanesOwn start count values d).1 := by
  unfold Machine.lanesOwn
  dsimp only
  split
  · exact law
  · rename_i full
    split
    · exact law
    · rename_i conflict
      have sum : ((replaceAt d.tables.lanes start (values.map laneEntryOf)).map LaneEntry.capacity).sum ≤ 240 := by
        by_contra above
        rw [Device.lanesConflict, if_pos (Nat.lt_of_not_le above)] at conflict
        cases conflict
      obtain ⟨four, ⟨size, -⟩, store, fit, held⟩ := law
      refine LaneLaw.accEnd (d := d.setTables _) ⟨four, ⟨?_, ?_⟩, store, fun l hl => ⟨?_, (fit l hl).2⟩, held⟩ _
      · exact (replaceAt_length (by rw [List.length_map, length, size]; exact fits)).trans size
      · exact sum
      · have within := List.find?_eq_none.mp full l (List.mem_range.mpr hl)
        exact Nat.le_of_not_lt fun above => within (decide_eq_true above)

/-! What each table write makes of the tables: one table changes, or none. -/

/-- A table write changes of the tables what its owner changes. -/
theorem writeTable_tables {α : Type} (set : α → Tables → Tables) {specs : List FieldSpec} {size start count : Nat}
    {entries : List Byte} {own : List (List (List Nat)) → Device → Device × Answer} {d : Device}
    (same : ∃ v, set v d.tables = d.tables) (owns : ∀ values, ∃ v, (own values d).1.tables = set v d.tables) :
    ∃ v, (writeTable specs size start count entries own d).1.tables = set v d.tables := by
  obtain h | ⟨-, -, -, h⟩ := writeTable_cases specs size start count entries own d <;> rw [h]
  · obtain ⟨v, hv⟩ := same; exact ⟨v, hv.symm⟩
  · exact owns _

section Writes
variable (tag : Byte) (start : Half) (count : Byte) (entries : List Byte) (d : Device)

theorem effect_tunnel_tables : ∃ v : Nat × List ZoneEntry,
    (effect (.tableWriteTunnel tag start count entries) d).tables = { d.tables with length := v.1, zones := v.2 } := by
  refine writeTable_tables (fun (v : Nat × List ZoneEntry) t => { t with length := v.1, zones := v.2 }) ⟨(_, _), rfl⟩ fun values => ?_
  unfold tunnelOwn
  dsimp only
  repeat' split
  · exact ⟨(_, _), rfl⟩
  · exact ⟨(_, _), rfl⟩
  · exact ⟨(_, _), rfl⟩
  · exact ⟨(_, _), rfl⟩
  · exact ⟨(_, _), rfl⟩

theorem effect_profile_tables : ∃ v,
    (effect (.tableWriteProfile tag start count entries) d).tables = { d.tables with profiles := v } := by
  have same : ∃ v, d.tables = { d.tables with profiles := v } := ⟨_, rfl⟩
  show ∃ v, (profileWrite start.toNat count.toNat entries d).1.tables = _
  unfold profileWrite
  split
  · refine writeTable_tables (fun v t => { t with profiles := v }) ⟨_, rfl⟩ fun values => ?_
    unfold profileOwn
    dsimp only
    split
    · exact same
    · rw [foldl_orderProfile_only]; exact ⟨_, rfl⟩
  · exact same

theorem effect_formatMap_tables : ∃ v,
    (effect (.tableWriteFormatMap tag start count entries) d).tables = { d.tables with formatMap := v } :=
  writeTable_tables (fun v t => { t with formatMap := v }) ⟨_, rfl⟩ fun _ => ⟨_, rfl⟩

theorem effect_zoneLayout_tables : ∃ v,
    (effect (.tableWriteZoneLayout tag start count entries) d).tables = { d.tables with zones := v } := by
  have same : ∃ v, d.tables = { d.tables with zones := v } := ⟨_, rfl⟩
  show ∃ v, (zoneLayoutWrite start.toNat count.toNat entries d).1.tables = _
  unfold zoneLayoutWrite
  dsimp only
  repeat' split
  · exact same
  · exact same
  · exact same
  · exact same
  · exact ⟨_, by simp; rfl⟩

theorem effect_lanes_tables : ∃ v,
    (effect (.tableWriteLanes tag start count entries) d).tables = { d.tables with lanes := v } := by
  refine writeTable_tables (fun v t => { t with lanes := v }) ⟨_, rfl⟩ fun values => ?_
  unfold lanesOwn
  dsimp only
  repeat' split
  · exact ⟨_, rfl⟩
  · exact ⟨_, rfl⟩
  · exact ⟨_, by simp; rfl⟩

theorem effect_disposition_tables : ∃ v,
    (effect (.tableWriteDisposition tag start count entries) d).tables = { d.tables with dispositions := v } := by
  refine writeTable_tables (fun v t => { t with dispositions := v }) ⟨_, rfl⟩ fun values => ?_
  unfold dispositionOwn
  dsimp only
  split
  · exact ⟨_, rfl⟩
  · exact ⟨_, by simp; rfl⟩

theorem effect_pacing_tables : ∃ v,
    (effect (.tableWritePacing tag start count entries) d).tables = { d.tables with pacing := v } := by
  refine writeTable_tables (fun v t => { t with pacing := v }) ⟨_, rfl⟩ fun values => ?_
  unfold pacingOwn
  dsimp only
  split
  · exact ⟨_, rfl⟩
  · exact ⟨_, rfl⟩

theorem effect_sampling_tables : ∃ v,
    (effect (.tableWriteSampling tag start count entries) d).tables = { d.tables with sampling := v } :=
  writeTable_tables (fun v t => { t with sampling := v }) ⟨_, rfl⟩ fun _ => ⟨_, rfl⟩

theorem effect_faults_tables : ∃ v,
    (effect (.tableWriteFaultSettings tag start count entries) d).tables = { d.tables with faults := v } :=
  writeTable_tables (fun v t => { t with faults := v }) ⟨_, rfl⟩ fun _ => ⟨_, rfl⟩

theorem effect_die_tables : ∃ v,
    (effect (.tableWriteDieSettings tag start count entries) d).tables = { d.tables with die := v } :=
  writeTable_tables (fun v t => { t with die := v }) ⟨_, rfl⟩ fun _ => ⟨_, rfl⟩

theorem effect_gauge_tables : ∃ v,
    (effect (.tableWriteGaugeSettings tag start count entries) d).tables = { d.tables with gauge := v } := by
  refine writeTable_tables (fun v t => { t with gauge := v }) ⟨_, rfl⟩ fun values => ?_
  unfold gaugeSettingsOwn
  dsimp only
  split
  · exact ⟨_, rfl⟩
  · exact ⟨_, rfl⟩

theorem effect_spreader_tables : ∃ v,
    (effect (.tableWriteSpreaderSettings tag start count entries) d).tables = { d.tables with spreader := v } :=
  writeTable_tables (fun v t => { t with spreader := v }) ⟨_, rfl⟩ fun _ => ⟨_, by simp [spreaderSettingsOwn]; rfl⟩

theorem effect_acc_tables : ∃ v,
    (effect (.tableWriteAccumulatorSettings tag start count entries) d).tables = { d.tables with acc := v } := by
  refine writeTable_tables (fun v t => { t with acc := v }) ⟨_, rfl⟩ fun values => ?_
  unfold accSettingsOwn
  dsimp only
  split
  · exact ⟨_, rfl⟩
  · exact ⟨_, by simp; rfl⟩

end Writes

/-! The store, and power-up. -/

/-- What the framer and the transmitter leave: the store's write in flight. -/
theorem takeByte_storeWrite (d : Device) (b : Byte) : (d.takeByte b).link.storeWrite = d.link.storeWrite := by
  have received (f : Frame) (e : Device) : (e.receive f).link.storeWrite = e.link.storeWrite := (wraps_receive f e).2
  simp only [Device.takeByte, Device.moreBytes, Device.endFrame, Device.badFrame, Device.collect, Device.hunt]
  repeat' split
  all_goals first
    | rfl
    | exact received _ _

theorem endGap_storeWrite (d : Device) : d.endGap.link.storeWrite = d.link.storeWrite := by
  unfold Device.endGap; repeat' split
  all_goals rfl

theorem takeBytes_storeWrite (bytes : List Byte) (d : Device) : (d.takeBytes bytes).link.storeWrite = d.link.storeWrite := by
  have taken (e : Device) : (bytes.foldl Device.takeByte e).link.storeWrite = e.link.storeWrite := by
    induction bytes generalizing e with
    | nil => rfl
    | cons b bs ih => exact (ih _).trans (takeByte_storeWrite e b)
  unfold Device.takeBytes
  dsimp only
  by_cases h : bytes = []
  · simp only [h, if_true, List.foldl_nil]
  · simp only [if_neg h, taken, endGap_storeWrite]

theorem frameSent_storeWrite (d : Device) : d.frameSent.link.storeWrite = d.link.storeWrite := by
  unfold Device.frameSent; split <;> rfl

theorem restart_storeWrite (d : Device) : (restart d).1.link.storeWrite = d.link.storeWrite := by
  unfold restart; split <;> rfl

/-- The end of the store's write leaves a copy of the tables written, or none (R195). -/
theorem endStore_stored (ok : Bool) (d : Device) :
    ((d.endStore ok).stored = d.stored ∧ d.link.storeWrite = none
      ∨ (d.endStore ok).stored = none ∨ ∃ w, d.link.storeWrite = some w ∧ (d.endStore ok).stored = some (storedCopy w.tables))
      ∧ (d.endStore ok).link.storeWrite = none := by
  unfold Device.endStore
  split
  · rename_i h; exact ⟨.inl ⟨rfl, h⟩, h⟩
  · rename_i w h
    dsimp only
    cases (ok && d.within w.timer) <;> split
    · exact ⟨.inr (.inl rfl), rfl⟩
    · exact ⟨.inr (.inl rfl), rfl⟩
    · exact ⟨.inr (.inr ⟨w, h, rfl⟩), rfl⟩
    · exact ⟨.inr (.inr ⟨w, h, rfl⟩), rfl⟩

theorem LaneLaw.endStore {d : Device} (law : LaneLaw d) (ok : Bool) : LaneLaw (d.endStore ok) := by
  obtain ⟨stored, none⟩ := endStore_stored ok d
  obtain ⟨four, valid, ⟨copy, write⟩, fit, held⟩ := law
  have same : (d.endStore ok).tables = d.tables ∧ (d.endStore ok).acc = d.acc ∧ (d.endStore ok).pace = d.pace := by simp
  obtain ⟨tables, acc, pace⟩ := same
  simp only [LaneLaw, StoreLanesValid, Device.lane, Device.laneEntry, tables, acc, pace, none]
  refine ⟨four, valid, ⟨fun c hc => ?_, nofun⟩, fit, held⟩
  obtain ⟨kept, -⟩ | lost | ⟨w, hw, written⟩ := stored
  · exact copy c (kept ▸ hc)
  · rw [lost] at hc; cases hc
  · rw [written] at hc; cases hc; exact write w hw

/-- A station takes its state from its inputs, and of the rest of the part the bus only may carry its read (R116). -/
@[simp] theorem Device.seat_frame (side : Side) (presence clamp : Bool) (d : Device) :
    (d.seat side presence clamp).time = d.time ∧ (d.seat side presence clamp).tables = d.tables
      ∧ (d.seat side presence clamp).stored = d.stored ∧ (d.seat side presence clamp).track = d.track
      ∧ (d.seat side presence clamp).pace = d.pace ∧ (d.seat side presence clamp).climate = d.climate
      ∧ (d.seat side presence clamp).spread = d.spread ∧ (d.seat side presence clamp).acc = d.acc
      ∧ (d.seat side presence clamp).gauge = d.gauge ∧ (d.seat side presence clamp).log = d.log
      ∧ (d.seat side presence clamp).link = d.link ∧ (d.seat side presence clamp).counts = d.counts
      ∧ (d.seat side presence clamp).mail = d.mail := by
  cases presence <;> cases clamp <;> simp [Device.seat]

@[simp] theorem Device.raiseDefaulted_frame (loaded : Bool) (d : Device) :
    (d.raiseDefaulted loaded).time = d.time ∧ (d.raiseDefaulted loaded).tables = d.tables
      ∧ (d.raiseDefaulted loaded).stored = d.stored ∧ (d.raiseDefaulted loaded).track = d.track
      ∧ (d.raiseDefaulted loaded).pace = d.pace ∧ (d.raiseDefaulted loaded).climate = d.climate
      ∧ (d.raiseDefaulted loaded).die = d.die ∧ (d.raiseDefaulted loaded).spread = d.spread
      ∧ (d.raiseDefaulted loaded).acc = d.acc ∧ (d.raiseDefaulted loaded).gauge = d.gauge
      ∧ (d.raiseDefaulted loaded).log = d.log ∧ (d.raiseDefaulted loaded).link = d.link
      ∧ (d.raiseDefaulted loaded).counts = d.counts ∧ (d.raiseDefaulted loaded).bus = d.bus := by
  cases loaded <;> simp [Device.raiseDefaulted]

/-- With an empty return buffer a fill decision finds nothing to fill the slot with. -/
theorem Device.fill_of_empty {d : Device} (empty : d.acc.returnCount = 0) : d.fill = d := by
  obtain h | ⟨-, -, some, -⟩ := d.fill_cases
  · exact h
  · omega

/-- POWER_UP leaves of the fresh part all but the die carriage unit, the zones' round, the link, the mail and the bus. -/
theorem powered_frame (stored : Option StoredCopy) (pa ca pb cb : Bool) :
    let f := freshDevice ((usable stored).getD defaultTables) stored
    let d := powered stored pa ca pb cb
    d.time = f.time ∧ d.tables = f.tables ∧ d.stored = f.stored ∧ d.track = f.track ∧ d.pace = f.pace
      ∧ d.spread = f.spread ∧ d.acc = f.acc ∧ d.gauge = f.gauge ∧ d.log = f.log ∧ d.counts = f.counts
      ∧ d.climate.zones = f.climate.zones ∧ d.link.silent = f.link.silent := by
  intro f d
  have unfilled : d = (((((((f.notifyLine .powerUp).raiseDefaulted (usable stored).isSome).stopDrive).queryCarriage).seat
      .a pa ca).seat .b pb cb).startRound .powerUp) := Device.fill_of_empty (by simp [Device.queryCarriage, Device.stopDrive, freshDevice])
  rw [unfilled]
  simp [Device.queryCarriage, Device.stopDrive, f]
  rfl

theorem usable_or_default {P : Tables → Prop} {stored : Option StoredCopy} (copies : ∀ c, stored = some c → P c.tables)
    (default : P defaultTables) : P ((usable stored).getD defaultTables) := by
  unfold usable
  split
  · split
    · exact copies _ rfl
    · exact default
  · exact default

theorem lanesValid_default : LanesValid defaultTables.lanes := ⟨by decide, by decide⟩

theorem laneLaw_powered {stored : Option StoredCopy} (copies : ∀ c, stored = some c → LanesValid c.tables.lanes)
    (pa ca pb cb : Bool) : LaneLaw (powered stored pa ca pb cb) := by
  obtain ⟨-, tables, kept, -, pace, -, acc, -, -, -, -, silent⟩ := powered_frame stored pa ca pb cb
  have valid : LanesValid ((usable stored).getD defaultTables).lanes :=
    usable_or_default (P := fun t => LanesValid t.lanes) copies lanesValid_default
  refine LaneLaw.congr (d := freshDevice ((usable stored).getD defaultTables) stored) (by rw [acc]) (by rw [tables]) kept
    (storeWrite_of_silent silent) (by rw [pace]) ⟨?_, valid, ⟨copies, nofun⟩, fun l hl => ?_, nofun⟩
  · exact (List.length_map _).trans valid.1
  · have fresh : ((freshDevice ((usable stored).getD defaultTables) stored).lane l).load = 0 := by
      simp only [Device.lane, freshDevice, List.getD_eq_getElem?_getD, List.getElem?_map]
      cases ((usable stored).getD defaultTables).lanes[l]? <;> rfl
    rw [fresh]
    exact ⟨Nat.zero_le _, fun _ => rfl⟩

/-! What the die carriage unit makes of the rods: at most a fill decision. -/

/-- Two parts that hold the same tables, rods and moves. -/
structure SameRods (d e : Device) : Prop where
  tables : e.tables = d.tables
  stored : e.stored = d.stored
  write : e.link.storeWrite = d.link.storeWrite
  track : e.track = d.track
  pace : e.pace = d.pace
  acc : e.acc = d.acc
  slot : e.spread.slot = d.spread.slot
  load : e.spread.load = d.spread.load

theorem SameRods.refl (d : Device) : SameRods d d := ⟨rfl, rfl, rfl, rfl, rfl, rfl, rfl, rfl⟩

theorem SameRods.trans {d e f : Device} (a : SameRods d e) (b : SameRods e f) : SameRods d f :=
  ⟨b.tables.trans a.tables, b.stored.trans a.stored, b.write.trans a.write, b.track.trans a.track, b.pace.trans a.pace,
    b.acc.trans a.acc, b.slot.trans a.slot, b.load.trans a.load⟩

theorem sameRods_notify (n : Notice) (d : Device) : SameRods d (d.notify n) :=
  ⟨by simp, by simp, storeWrite_of_silent (d.notify_link n).1, by simp, by simp, by simp, by simp, by simp⟩

/-- A part that holds the same rods, but for at most one fill decision. -/
def Filled (d x : Device) : Prop := ∃ e f, SameRods d e ∧ (f = e ∨ f = e.fill) ∧ SameRods f x

theorem SameRods.filled {d x : Device} (same : SameRods d x) : Filled d x := ⟨x, x, same, .inl rfl, .refl x⟩

theorem SameRods.fill {d x : Device} (same : SameRods d x) : Filled d x.fill := ⟨x, x.fill, same, .inr rfl, .refl _⟩

theorem Filled.then {d x y : Device} (filled : Filled d x) (same : SameRods x y) : Filled d y := by
  obtain ⟨e, f, de, fill, fx⟩ := filled
  exact ⟨e, f, de, fill, fx.trans same⟩

theorem SameRods.before {d e x : Device} (same : SameRods d e) (filled : Filled e x) : Filled d x := by
  obtain ⟨g, f, de, fill, fx⟩ := filled
  exact ⟨g, f, same.trans de, fill, fx⟩

/-- A law on rods that each fill decision keeps holds of a filled part. -/
theorem Filled.keeps {P : Device → Prop} {d x : Device} (filled : Filled d x) (same : ∀ d e, SameRods d e → P d → P e)
    (fill : ∀ d, P d → P d.fill) (law : P d) : P x := by
  obtain ⟨e, f, de, rfl | rfl, fx⟩ := filled
  · exact same _ _ fx (same _ _ de law)
  · exact same _ _ fx (fill _ (same _ _ de law))

theorem sameRods_modifyStation (side : Side) (f : Station → Station) (d : Device) : SameRods d (d.modifyStation side f) :=
  ⟨rfl, rfl, rfl, rfl, rfl, rfl, rfl, rfl⟩

theorem filled_activate (byCarriage : Bool) (side : Side) (d : Device) : Filled d (d.activate byCarriage side) := by
  unfold Device.activate
  split
  · split
    · refine SameRods.fill ⟨?_, ?_, ?_, ?_, ?_, ?_, ?_, ?_⟩ <;> cases byCarriage <;> simp
    · exact (SameRods.refl d).filled
  · exact (SameRods.refl d).filled

theorem filled_readRecord (side : Side) (bytes : List Byte) (d : Device) : Filled d (d.readRecord side bytes) := by
  unfold Device.readRecord
  repeat' split
  · exact SameRods.filled ⟨rfl, rfl, rfl, rfl, rfl, rfl, rfl, rfl⟩
  · exact (sameRods_modifyStation ..).before (filled_activate ..)
  · exact SameRods.filled ⟨rfl, rfl, rfl, rfl, rfl, rfl, rfl, rfl⟩

theorem filled_memoryReadReply (side : Side) (n : Nat) (bytes : Option (List Byte)) (d : Device) :
    Filled d (d.memoryReadReply side n bytes) := by
  unfold Device.memoryReadReply
  repeat' split
  · exact (SameRods.refl d).filled
  · exact filled_readRecord ..
  · exact SameRods.filled ⟨rfl, rfl, rfl, rfl, rfl, rfl, rfl, rfl⟩

theorem filled_carriageAt (byCarriage : Bool) (side : Side) (d : Device) :
    Filled d ((d.carriageAt side).activate byCarriage side) :=
  SameRods.before (e := d.carriageAt side) ⟨rfl, rfl, rfl, rfl, rfl, rfl, rfl, rfl⟩ (filled_activate ..)

theorem filled_queryAnswer (station : Option Side) (d : Device) : Filled d (d.queryAnswer station) := by
  unfold Device.queryAnswer
  repeat' split
  · exact filled_carriageAt ..
  · exact SameRods.filled ⟨rfl, rfl, rfl, rfl, rfl, rfl, rfl, rfl⟩
  · exact (SameRods.refl d).filled

theorem filled_carriageDone (station : Option Side) (d : Device) : Filled d (d.carriageDone station) := by
  unfold Device.carriageDone
  split
  · exact filled_carriageAt ..
  · exact filled_carriageAt ..
  · exact SameRods.filled ⟨rfl, rfl, rfl, rfl, rfl, rfl, rfl, rfl⟩
  all_goals exact (SameRods.refl d).filled

theorem filled_dieEvent {act : Device → Device} {d : Device} (filled : Filled d (act d)) : Filled d (dieEvent act d) := by
  obtain ⟨-, h⟩ | ⟨-, h⟩ := dieEvent_cases act d <;> rw [h]
  · exact filled
  · exact filled.then (sameRods_notify _ _)

theorem filled_pressStarted (d : Device) : Filled d d.pressStarted := by
  unfold Device.pressStarted
  split
  · have running : SameRods d { d.stopPressLimit with die := { d.stopPressLimit.die with press := .running } } :=
      ⟨rfl, rfl, rfl, rfl, rfl, rfl, rfl, rfl⟩
    obtain ⟨-, h⟩ | ⟨-, -, h⟩ | ⟨-, -, h⟩ := d.stopPressLimit.setPress_cases .running <;> rw [h]
    · exact SameRods.filled ⟨rfl, rfl, rfl, rfl, rfl, rfl, rfl, rfl⟩
    · exact SameRods.filled (SameRods.trans running (sameRods_notify _ _))
    · exact SameRods.fill (SameRods.trans running (sameRods_notify _ _))
  · exact (SameRods.refl d).filled

theorem LaneLaw.filled {d x : Device} (law : LaneLaw d) (filled : Filled d x) : LaneLaw x :=
  filled.keeps (fun _ _ same law =>
    law.congr (by rw [same.acc]) (by rw [same.tables]) same.stored same.write (by rw [same.pace])) (fun _ law => law.fill) law

/-- The law is kept where the effect changes none of the blocks it speaks of. -/
theorem LaneLaw.untouched {d : Device} {i : Instr} (law : LaneLaw d) (lanes : (effect i d).tables.lanes = d.tables.lanes)
    (stored : (touched i).contains .stored = false) (pace : (effect i d).pace.inFlight = d.pace.inFlight)
    (acc : (effect i d).acc.lanes = d.acc.lanes) (link : (touched i).contains .link = false) : LaneLaw (effect i d) :=
  law.congr acc lanes (effect_stored stored d) (storeWrite_of_silent (effect_link link d).1) pace

/-- Whether an effect may change a block that the law on lanes speaks of. -/
def laneBlocks (i : Instr) : Bool := [Block.tables, .stored, .pace, .acc, .link].any (touched i).contains

/-- An effect on the link that leaves the store's write and every other block as they were keeps the law. -/
theorem LaneLaw.linkOnly {d : Device} {i : Instr} (law : LaneLaw d)
    (untouched : [Block.tables, .stored, .pace, .acc].any (touched i).contains = false)
    (write : (effect i d).link.storeWrite = d.link.storeWrite) : LaneLaw (effect i d) := by
  simp only [List.any_cons, List.any_nil, Bool.or_eq_false_iff] at untouched
  obtain ⟨tables, stored, pace, acc, -⟩ := untouched
  exact law.congr (by rw [effect_acc acc]) (by rw [effect_tables tables]) (effect_stored stored d) write
    (by rw [effect_pace pace])

/-- A table write that changes no lane settings, and of the accumulator no lane, keeps the law. -/
theorem LaneLaw.written {d : Device} {i : Instr} {α : Type} (law : LaneLaw d) (set : α → Tables → Tables)
    (tables : ∃ v, (effect i d).tables = set v d.tables) (kept : ∀ v, (set v d.tables).lanes = d.tables.lanes)
    (untouched : [Block.stored, .acc, .link].any (touched i).contains = false)
    (pace : (effect i d).pace.inFlight = d.pace.inFlight) : LaneLaw (effect i d) := by
  simp only [List.any_cons, List.any_nil, Bool.or_eq_false_iff] at untouched
  obtain ⟨stored, acc, link, -⟩ := untouched
  obtain ⟨v, h⟩ := tables
  exact law.untouched (by rw [h, kept]) stored pace (by rw [effect_acc acc]) link

/-- An effect on the pacing unit alone that leaves its move in flight keeps the law. -/
theorem LaneLaw.paced {d : Device} {i : Instr} (law : LaneLaw d)
    (untouched : [Block.tables, .stored, .acc, .link].any (touched i).contains = false)
    (pace : (effect i d).pace.inFlight = d.pace.inFlight) : LaneLaw (effect i d) := by
  simp only [List.any_cons, List.any_nil, Bool.or_eq_false_iff] at untouched
  obtain ⟨tables, stored, acc, link, -⟩ := untouched
  exact law.untouched (by rw [effect_tables tables]) stored pace (by rw [effect_acc acc]) link

theorem Device.lane_mapBeyond (id k : Nat) (f : Rod → Rod) (d : Device) : (d.mapBeyond id f).lane k
    = { d.lane k with records := (d.lane k).records.map fun r => if r.id = id then f r else r } := by
  simp only [Device.lane, Device.mapBeyond, List.getD_eq_getElem?_getD, List.getElem?_map]
  cases d.acc.lanes[k]? <;> rfl

theorem Device.applyResult_rods (r : Rod) (x : Product) (value : Nat) (d : Device) :
    (d.applyResult r x value).track
        = (d.mapBeyond r.id (Rod.gauged (min 4000 value) ((x.moisture : Int) - (min 4000 value : Nat)) d.clock)).track
      ∧ (d.applyResult r x value).acc
        = (d.mapBeyond r.id (Rod.gauged (min 4000 value) ((x.moisture : Int) - (min 4000 value : Nat)) d.clock)).acc := by
  unfold Device.applyResult Device.checkBand
  dsimp only
  split <;> exact ⟨rfl, rfl⟩

/-- A gauge result leaves the rods where they are, or changes the record of one id beyond the staged slot, which keeps its
id and its birth (R169). -/
theorem Device.gaugeResult_rods (n rod value : Nat) (d : Device) :
    ((d.gaugeResult n rod value).track = d.track ∧ (d.gaugeResult n rod value).acc = d.acc)
      ∨ ∃ id f, (∀ r : Rod, (f r).id = r.id) ∧ (d.gaugeResult n rod value).track = (d.mapBeyond id f).track
        ∧ (d.gaugeResult n rod value).acc = (d.mapBeyond id f).acc := by
  simp only [Device.gaugeResult, Device.takeResult]
  repeat' split
  case h_2.isTrue r _ _ _ x _ _ =>
    obtain ⟨track, acc⟩ := d.endMeasurement.applyResult_rods r x value
    exact .inr ⟨r.id, Rod.gauged _ _ _, fun _ => rfl, track, acc⟩
  all_goals exact .inl ⟨rfl, rfl⟩

theorem LaneLaw.gaugeResult {d : Device} (law : LaneLaw d) (n rod value : Nat) : LaneLaw (d.gaugeResult n rod value) := by
  obtain ⟨-, acc⟩ | ⟨id, f, -, -, acc⟩ := d.gaugeResult_rods n rod value
  · exact law.congr (by rw [acc]) (by simp) (by simp) (by simp) (by simp)
  · have mapped : LaneLaw (d.mapBeyond id f) := by
      refine law.of_le (List.length_map _) rfl rfl rfl (fun _ h => h) fun k => ?_
      rw [Device.lane_mapBeyond]
      exact ⟨rfl, le_rfl, by simp [LaneRt.load]⟩
    exact mapped.congr (by rw [acc]) (by simp) (by simp) (by simp) (by simp)

/-- Each command's effect keeps the law on lanes. -/
theorem LaneLaw.effect {d : Device} (law : LaneLaw d) (i : Instr) : LaneLaw (effect i d) := by
  have timed (t : Nat) : LaneLaw { d with time := t } := law
  by_cases free : laneBlocks i = false
  · simp only [laneBlocks, List.any_cons, List.any_nil, Bool.or_eq_false_iff] at free
    obtain ⟨tables, stored, pace, acc, link, -⟩ := free
    exact law.untouched (by rw [effect_tables tables]) stored (by rw [effect_pace pace]) (by rw [effect_acc acc]) link
  · cases i <;> try exact absurd rfl free
    case powerUp lost pa ca pb cb =>
      obtain ⟨-, -, ⟨copies, -⟩, -⟩ := law
      refine laneLaw_powered (fun c h => ?_) _ _ _ _
      split at h
      · cases h
      · exact copies c h
    case hostFrame bytes => exact law.linkOnly rfl (takeBytes_storeWrite bytes d)
    case frameGapTimeout => exact expire_induct law fun t _ => timed _
    case frameSent =>
      refine law.linkOnly rfl (expire_keeps (fun e : Device => e.link.storeWrite) fun _ => frameSent_storeWrite _)
    case restart => exact law.linkOnly rfl (restart_storeWrite d)
    case store =>
      obtain ⟨four, valid, ⟨-, -⟩, rest⟩ := law
      exact ⟨four, valid, ⟨nofun, fun w h => by cases h; exact valid⟩, rest⟩
    case storeWriteEnd => exact law.endStore _
    case storeLimitExpiry => exact expire_induct law fun t _ => (timed _).endStore _
    case tableWriteTunnel =>
      exact law.written (fun (v : Nat × List ZoneEntry) t => { t with length := v.1, zones := v.2 }) (effect_tunnel_tables _ _ _ _ d) (fun _ => rfl) rfl
        (by rw [effect_pace rfl])
    case tableWriteProfile =>
      exact law.written (fun v t => { t with profiles := v }) (effect_profile_tables _ _ _ _ d) (fun _ => rfl) rfl
        (by rw [effect_pace rfl])
    case tableWriteFormatMap =>
      exact law.written (fun v t => { t with formatMap := v }) (effect_formatMap_tables _ _ _ _ d) (fun _ => rfl) rfl
        (by rw [effect_pace rfl])
    case tableWriteZoneLayout =>
      exact law.written (fun v t => { t with zones := v }) (effect_zoneLayout_tables _ _ _ _ d) (fun _ => rfl) rfl
        (by rw [effect_pace rfl])
    case tableWriteSampling =>
      exact law.written (fun v t => { t with sampling := v }) (effect_sampling_tables _ _ _ _ d) (fun _ => rfl) rfl
        (by rw [effect_pace rfl])
    case tableWriteFaultSettings =>
      exact law.written (fun v t => { t with faults := v }) (effect_faults_tables _ _ _ _ d) (fun _ => rfl) rfl
        (by rw [effect_pace rfl])
    case tableWriteDieSettings =>
      exact law.written (fun v t => { t with die := v }) (effect_die_tables _ _ _ _ d) (fun _ => rfl) rfl
        (by rw [effect_pace rfl])
    case tableWriteGaugeSettings =>
      exact law.written (fun v t => { t with gauge := v }) (effect_gauge_tables _ _ _ _ d) (fun _ => rfl) rfl
        (by rw [effect_pace rfl])
    case tableWritePacing =>
      refine law.written (fun v t => { t with pacing := v }) (effect_pacing_tables _ _ _ _ d) (fun _ => rfl) rfl ?_
      exact writeTable_keeps (fun e : Device => e.pace.inFlight) fun values => by
        unfold pacingOwn; dsimp only; split <;> rfl
    case tableWriteLanes => exact law.writeTable fun fits values length => law.lanesOwn fits length
    case tableWriteDisposition =>
      refine law.writeTable fun _ values _ => ?_
      unfold dispositionOwn
      dsimp only
      split
      · exact law
      · exact (law.setTables rfl).accEnd _
    case tableWriteAccumulatorSettings =>
      refine law.writeTable fun _ values _ => ?_
      unfold accSettingsOwn
      dsimp only
      split
      · exact law
      · exact (law.setTables rfl).accEnd _
    case tableWriteSpreaderSettings =>
      refine law.writeTable fun _ values _ => ?_
      unfold spreaderSettingsOwn Device.fillIf
      dsimp only
      split
      · exact (law.setTables rfl).fill
      · exact law.setTables rfl
    case lineRun =>
      refine law.paced rfl ?_
      show (Machine.lineRun d).1.pace.inFlight = _
      simp only [Machine.lineRun]; repeat' split
      all_goals simp [Device.bringIntoForce, Device.startInterval, Device.clearReference]
    case lineStop =>
      refine law.paced rfl ?_
      show (d.stopLine _).pace.inFlight = _
      rw [Device.stopLine_pace]
    case stopOrder =>
      refine law.paced rfl ?_
      show ((d.take _).stopLine _).pace.inFlight = _
      rw [Device.stopLine_pace]
      rfl
    case paceRestart =>
      refine law.paced rfl ?_
      show (Machine.paceRestart d).1.pace.inFlight = _
      unfold Machine.paceRestart; split <;> rfl
    case jog => exact law.jog
    case moveResolveMoved => exact law.moveResolveMoved
    case moveResolveNotMoved => exact law.moveResolveNotMoved _
    case pitchTimerExpiry => exact expire_induct law fun t _ => (timed _).interval.due
    case pressScrewPulse => exact LaneLaw.pulse (timed _) _
    case attemptRetry report =>
      have taken : LaneLaw (d.take (.retry report)) := law
      show LaneLaw ((d.take (.retry report)).retry report)
      unfold Device.retry
      split
      · exact taken.pacedAttempt
      · exact taken
    case moveDone => exact law.moveDone _ _
    case moveLimitExpiry =>
      refine expire_induct law fun t _ => LaneLaw.congr (d := d) ?_ ?_ ?_ ?_ ?_ law
      case refine_4 => exact storeWrite_of_silent (Device.notifyLine_link _ _).1
      all_goals simp [Device.moveExpired]
    case shiftDoneReport => exact LaneLaw.shiftDone (d := d.take _) law _
    case memoryReadReply => exact law.filled (filled_dieEvent (filled_memoryReadReply ..))
    case carriageQueryAnswer => exact law.filled (filled_dieEvent (filled_queryAnswer ..))
    case carriageDone => exact law.filled (filled_dieEvent (filled_carriageDone ..))
    case pressStarted => exact law.filled (filled_pressStarted d)
    case gaugeResult => exact law.gaugeResult _ _ _
    case stripDone => exact law.stripDone _
    case stripFaultReport =>
      show LaneLaw (d.stripFault _)
      unfold Device.stripFault
      split
      · exact law.stall _
      · exact law
    case stripLimitExpiry => exact expire_induct law fun t _ => (timed _).stall _
    case stripRetry => exact law.stripRetry
    case stripDiscard => exact law.stripDiscard
    case stripPause => exact LaneLaw.accEnd (d := d.setPause true) law _
    case stripResume => exact LaneLaw.accEnd (d := d.setPause false) law _
    case laneDeclare => exact law.laneDeclare _ _
    case returnDeclare => exact law.returnDeclare _
    case rodAdd => exact law.rodAdd _
    case rodRemoveReturn => exact law.rodRemoveReturn _
    case rodRemoveSpill => exact law.rodRemoveSpill _ _

/-- Settles O58: the lanes, their settings and the move in flight are changed by the commands above only, and each of them
keeps the law. -/
theorem laneLawKept : Obligations.LaneLawKept := by
  unfold Obligations.LaneLawKept
  intro s t law h
  refine step_keeps (fun _ _ same law => ?_) (fun i _ law => law.effect i) h law
  obtain ⟨rods, write⟩ := same
  exact law.congr (by rw [rods]) (by rw [rods]) (by rw [rods]) write (by rw [rods])

end Sys2Proof.Machine
end

section
/-! SUPPORT. The motion of rods: a law that speaks of where the rods are, and of the tables, is kept by every command that
moves none of them, and by every command of a chain move as soon as the shift and the few operations below it keep it. -/

namespace Sys2Proof.Machine

/-! Parts that hold the same rods in the same places. -/

/-- What a law on rods sees of a content: its kind, and the id of its record. -/
def Content.mark (c : Content) : Nat × Nat :=
  match c with
  | .loaded r => (0, r.id)
  | .empty => (1, 0)
  | .gap => (2, 0)
  | .unknown => (3, 0)

/-- What a law on rods sees of the staged slot. -/
def Slot.mark (s : Slot) : Nat × Nat :=
  match s with
  | .loaded r => (0, r.id)
  | .none => (1, 0)
  | .loading => (2, 0)
  | .emptyStaged => (3, 0)

/-- What a law on rods sees of a lane. -/
def LaneRt.mark (l : LaneRt) : Bool × Nat × List Nat := (l.declared, l.reservations, l.records.map Rod.id)

/-- Two parts with the same tables that hold the same rods in the same places and have the same move in flight. -/
structure Alike (d e : Device) : Prop where
  tables : e.tables = d.tables
  stored : e.stored = d.stored
  write : e.link.storeWrite = d.link.storeWrite
  positions : e.track.positions.map Content.mark = d.track.positions.map Content.mark
  established : e.track.established = d.track.established
  inventory : e.track.inventory = d.track.inventory
  spill : e.track.spill = d.track.spill
  move : e.pace.inFlight = d.pace.inFlight
  lanes : e.acc.lanes.map LaneRt.mark = d.acc.lanes.map LaneRt.mark
  strip : e.acc.slot.map (fun s => s.rod.id) = d.acc.slot.map (fun s => s.rod.id)
  stripper : e.acc.stripper = d.acc.stripper
  returned : e.acc.returnCount = d.acc.returnCount
  returnDeclared : e.acc.returnDeclared = d.acc.returnDeclared
  slot : e.spread.slot.mark = d.spread.slot.mark
  load : e.spread.load = d.spread.load

theorem Alike.refl (d : Device) : Alike d d := ⟨rfl, rfl, rfl, rfl, rfl, rfl, rfl, rfl, rfl, rfl, rfl, rfl, rfl, rfl, rfl⟩

theorem Alike.trans {d e f : Device} (a : Alike d e) (b : Alike e f) : Alike d f :=
  ⟨b.tables.trans a.tables, b.stored.trans a.stored, b.write.trans a.write, b.positions.trans a.positions,
    b.established.trans a.established, b.inventory.trans a.inventory, b.spill.trans a.spill, b.move.trans a.move,
    b.lanes.trans a.lanes, b.strip.trans a.strip, b.stripper.trans a.stripper, b.returned.trans a.returned,
    b.returnDeclared.trans a.returnDeclared, b.slot.trans a.slot, b.load.trans a.load⟩

/-- Parts whose blocks with rods are the same hold the same rods. -/
theorem alike_of_blocks {d e : Device} (tables : e.tables = d.tables) (stored : e.stored = d.stored)
    (write : e.link.storeWrite = d.link.storeWrite) (track : e.track = d.track) (move : e.pace.inFlight = d.pace.inFlight)
    (acc : e.acc = d.acc) (slot : e.spread.slot = d.spread.slot) (load : e.spread.load = d.spread.load) : Alike d e :=
  ⟨tables, stored, write, by rw [track], by rw [track], by rw [track], by rw [track], move, by rw [acc], by rw [acc],
    by rw [acc], by rw [acc], by rw [acc], by rw [slot], load⟩

theorem SameRods.alike {d e : Device} (same : SameRods d e) : Alike d e :=
  alike_of_blocks same.tables same.stored same.write same.track (congrArg Pace.inFlight same.pace) same.acc same.slot
    same.load

theorem alike_notify (n : Notice) (d : Device) : Alike d (d.notify n) := (sameRods_notify n d).alike

theorem alike_raise (k : FaultKind) (c : Context) (d : Device) : Alike d (d.raise k c) :=
  alike_of_blocks rfl rfl rfl rfl rfl rfl rfl rfl

/-- An update and the exit check leave each rod where it is (R26, R41). -/
theorem update_marks (d : Device) : (update d).track.positions.map Content.mark = d.track.positions.map Content.mark := by
  have kept (p : Content × Nat) : (dryPosition d d.interval p).content.mark = p.1.mark := by
    unfold dryPosition
    split
    · rename_i r h
      rw [h]
      simp only [Content.mark, dryRod]
      split <;> rfl
    all_goals rename_i h; rw [h]
  simp only [update]
  split
  · rfl
  · rw [raiseStressed_mail]
    simp only [Device.post, List.map_map]
    rw [show Content.mark ∘ DryOut.content ∘ dryPosition d d.interval = Content.mark ∘ Prod.fst from funext kept,
      ← List.map_map, List.zipIdx_map_fst]

theorem eq_dropLast_append_exit {d : Device} {r : Rod} (h : d.exitContent = .loaded r) :
    d.track.positions = d.track.positions.dropLast ++ [.loaded r] := by
  unfold Device.exitContent at h
  cases hl : d.track.positions.getLast? with
  | none => rw [hl] at h; cases h
  | some c =>
    rw [hl] at h
    cases h
    exact (List.dropLast_append_getLast? _ hl).symm

theorem exitCheck_marks (d : Device) : (exitCheck d).track.positions.map Content.mark = d.track.positions.map Content.mark := by
  obtain h | ⟨r, exit, -, -, h⟩ := exitCheck_cases d <;> rw [h]
  conv_rhs => rw [eq_dropLast_append_exit exit]
  simp [Content.mark]

theorem alike_update (d : Device) : Alike d (update d) := by
  obtain ⟨-, -, established, inventory, spill⟩ := update_track d
  exact ⟨by simp, by simp, by simp, update_marks d, established, inventory, spill, by simp, by simp, by simp, by simp,
    by simp, by simp, by simp, by simp⟩

theorem alike_exitCheck (d : Device) : Alike d (exitCheck d) := by
  refine ⟨by simp, by simp, by simp, exitCheck_marks d, ?_, ?_, ?_, by simp, by simp, by simp, by simp, by simp, by simp,
    by simp, by simp⟩
  all_goals obtain h | ⟨r, -, -, -, h⟩ := exitCheck_cases d <;> rw [h]; rfl

/-! Laws on rods. -/

/-- A law on rods: it sees nothing but where the rods are, and is kept by a fill decision, the start of a move, the end of a
move without a shift, and a shift. -/
structure RodLaw (P : Device → Prop) : Prop where
  alike : ∀ {d e}, Alike d e → P d → P e
  fill : ∀ {d}, P d → P d.fill
  reserve : ∀ {d} kind, P d → P (d.reserveAndMove kind).1
  unmoved : ∀ {d m}, P d → d.pace.inFlight = some m → P (d.releaseReservation m.reservation).endMove
  shift : ∀ {d m} seen, P d → d.pace.inFlight = some m → ∀ {e}, Alike d.endMove e → P (e.shift (m.order seen))
  lateShift : ∀ {d} n seen, P d → P (d.shift ⟨n, seen, none, none⟩)

section Motion
variable {P : Device → Prop} {d : Device}

theorem RodLaw.blocks (rods : RodLaw P) {e : Device} (h : P d) (tables : e.tables = d.tables) (stored : e.stored = d.stored)
    (write : e.link.storeWrite = d.link.storeWrite) (track : e.track = d.track) (move : e.pace.inFlight = d.pace.inFlight)
    (acc : e.acc = d.acc) (slot : e.spread.slot = d.spread.slot) (load : e.spread.load = d.spread.load) : P e :=
  rods.alike (alike_of_blocks tables stored write track move acc slot load) h

theorem RodLaw.clearHold (rods : RodLaw P) (h : P d) : P d.clearHold := by
  obtain ⟨-, e⟩ | ⟨-, e⟩ := d.clearHold_cases <;> rw [e]
  · exact h
  · exact rods.fill (rods.blocks h rfl rfl rfl rfl rfl rfl rfl rfl)

theorem RodLaw.attempt (rods : RodLaw P) (h : P d) (kind : MoveKind) : P (d.attempt kind).1 := by
  obtain ⟨-, e⟩ | ⟨-, e⟩ := d.attempt_cases kind <;> rw [e]
  · exact h
  · refine rods.reserve kind (rods.alike (((alike_update _).trans (alike_exitCheck _))) ?_)
    exact rods.blocks h rfl rfl rfl rfl rfl rfl rfl rfl

theorem RodLaw.pacedAttempt (rods : RodLaw P) (h : P d) : P d.pacedAttempt := by
  have deferred (reason : DeferralReason) : P ((d.attempt .paced).1.deferPace reason) :=
    rods.blocks (rods.attempt h .paced) rfl rfl rfl rfl rfl rfl rfl rfl
  obtain ⟨-, e⟩ | ⟨-, e⟩ | ⟨-, e⟩ := d.pacedAttempt_cases <;> rw [e]
  · exact rods.attempt h .paced
  · exact deferred _
  · exact rods.clearHold (deferred _)

theorem RodLaw.due (rods : RodLaw P) (h : P d) : P d.due := by
  obtain ⟨-, e⟩ | ⟨-, -, e⟩ | ⟨-, e⟩ | ⟨-, e⟩ := d.due_cases <;> rw [e]
  · exact rods.pacedAttempt h
  · exact rods.blocks h rfl rfl rfl rfl rfl rfl rfl rfl
  · exact rods.blocks h rfl rfl rfl rfl rfl rfl rfl rfl
  · exact h

theorem RodLaw.proceed (rods : RodLaw P) (h : P d) : P d.proceed := by
  unfold Device.proceed
  split
  · exact rods.pacedAttempt (rods.blocks h rfl rfl rfl rfl rfl rfl rfl rfl)
  · exact rods.blocks h rfl rfl rfl rfl rfl rfl rfl rfl

theorem alike_nextInterval (d : Device) : Alike d d.nextInterval := by
  unfold Device.nextInterval
  dsimp only
  split <;> exact alike_of_blocks rfl rfl rfl rfl rfl rfl rfl rfl

theorem RodLaw.pulse (rods : RodLaw P) (h : P d) (edge : Edge) : P (d.pulse edge) := by
  have counted : Alike d { d with pace := { d.pace with lastEdge := some d.time, pulses := d.pace.pulses + 1 } } :=
    alike_of_blocks rfl rfl rfl rfl rfl rfl rfl rfl
  unfold Device.pulse
  dsimp only
  repeat' split
  · exact rods.due (rods.alike (counted.trans (alike_nextInterval _)) h)
  · exact rods.alike counted h
  · exact h

theorem RodLaw.jog (rods : RodLaw P) (h : P d) : P (jog d).1 := by
  obtain e | e | e := jog_cases d <;> rw [e]
  · exact h
  · exact rods.attempt h _
  · exact rods.clearHold (rods.attempt h _)

theorem RodLaw.shiftAndReport (rods : RodLaw P) {m : Move} {e : Device} (seen : Option Sighting) (h : P d)
    (moving : d.pace.inFlight = some m) (same : Alike d.endMove e) (late : Bool) :
    P (e.shiftAndReport (m.order seen) late) :=
  rods.blocks (rods.clearHold (rods.shift seen h moving same)) rfl rfl rfl rfl rfl rfl rfl rfl

theorem RodLaw.lateDone (rods : RodLaw P) (h : P d) (n : Nat) (seen : Sighting) : P (d.lateDone n seen) := by
  unfold Device.lateDone
  split
  · have closed : P ({ d with pace := { d.pace with lateWindow := none } }.raise .chainLateDone (moveContext n)) :=
      rods.blocks h rfl rfl rfl rfl rfl rfl rfl rfl
    exact rods.blocks (rods.clearHold (rods.lateShift _ _ closed)) rfl rfl rfl rfl rfl rfl rfl rfl
  · exact rods.blocks h rfl rfl rfl rfl rfl rfl rfl rfl

theorem RodLaw.moveDone (rods : RodLaw P) (h : P d) (n : Nat) (seen : Sighting) : P (d.moveDone n seen) := by
  have ignored : P d.ignoreDone := rods.blocks h rfl rfl rfl rfl rfl rfl rfl rfl
  unfold Device.moveDone
  split
  · split
    · rename_i m hm
      split
      · exact rods.shiftAndReport _ h hm (.refl _) _
      · exact ignored
    · exact ignored
  · split
    · rename_i m hm
      split
      · exact rods.shiftAndReport _ h hm (alike_notify _ _) _
      · exact ignored
    · exact ignored
  all_goals exact rods.lateDone h n seen

theorem RodLaw.notMoved (rods : RodLaw P) {m : Move} (h : P d) (moving : d.pace.inFlight = some m) : P (d.notMoved m) := by
  have rested : P ({ (d.releaseReservation m.reservation).endMove with
      pace := { (d.releaseReservation m.reservation).endMove.pace with lateWindow := some m.number } } : Device).rest :=
    rods.blocks (rods.unmoved h moving) rfl rfl rfl rfl rfl rfl rfl rfl
  exact rods.proceed (rods.clearHold (rods.alike (alike_notify _ _) rested))

theorem RodLaw.moveResolveMoved (rods : RodLaw P) (h : P d) : P (moveResolveMoved d).1 := by
  unfold Machine.moveResolveMoved
  repeat' split
  · rename_i m hm; exact rods.shiftAndReport _ h hm (alike_notify _ _) _
  all_goals exact h

theorem RodLaw.moveResolveNotMoved (rods : RodLaw P) (h : P d) (outcome : Byte) :
    P (moveResolveNotMoved outcome d).1 := by
  unfold Machine.moveResolveNotMoved
  repeat' split
  · rename_i m hm; exact rods.notMoved h hm
  all_goals exact h

theorem alike_moveExpired (d : Device) : Alike d d.moveExpired :=
  Alike.trans (e := { d with pace := { d.pace with pacer := .unresolved, timer := none } }.raise .chainStall
    (moveContext ((d.pace.inFlight.map Move.number).getD d.pace.moveNumber)))
    (alike_of_blocks rfl rfl rfl rfl rfl rfl rfl rfl) (alike_notify _ _)

theorem RodLaw.shiftDone (rods : RodLaw P) (h : P d) (late : Bool) : P (d.shiftDone late) := by
  have reported : P (d.shiftReported late) := by
    unfold Device.shiftReported
    repeat' split
    · exact rods.blocks h rfl rfl rfl rfl rfl rfl rfl rfl
    · exact rods.proceed h
    · exact h
  refine rods.alike (alike_of_blocks ?_ ?_ ?_ ?_ ?_ ?_ ?_ ?_) reported
  all_goals simp [Device.shiftDone]

theorem RodLaw.filled (rods : RodLaw P) {x : Device} (filled : Filled d x) (h : P d) : P x :=
  filled.keeps (fun _ _ same => rods.alike same.alike) (fun _ => rods.fill) h

end Motion

/-! Marks and results leave the rods where they are. -/

theorem findBeyond_ne_staged {d : Device} {id : Nat} {r : Rod} : d.findBeyond id ≠ some (r, .staged) := by
  unfold Device.findBeyond
  split
  · nofun
  · split
    · rename_i found h
      obtain ⟨l, -, h⟩ := List.exists_of_findSome?_eq_some h
      obtain ⟨q, -, rfl⟩ := Option.map_eq_some_iff.mp h
      nofun
    · split
      · split <;> nofun
      · nofun

/-- ROD_FIND reports the staged slot for the record staged there only (R21). -/
theorem slot_of_findRod_staged {d : Device} {id : Nat} {r : Rod} (h : d.findRod id = some (r, .staged)) :
    d.spread.slot = .loaded r := by
  unfold Device.findRod at h
  split at h
  · rename_i q hq
    split at h
    · cases h
      cases hs : d.spread.slot <;> rw [hs] at hq <;> cases hq
      rfl
    · exact absurd h findBeyond_ne_staged
  · exact absurd h findBeyond_ne_staged

theorem alike_rodMark (id : Nat) (d : Device) : Alike d (rodMark id d).1 := by
  unfold rodMark
  split
  · exact .refl d
  split
  · rename_i r h
    refine ⟨rfl, rfl, rfl, rfl, rfl, rfl, rfl, rfl, rfl, rfl, rfl, rfl, rfl, ?_, rfl⟩
    rw [slot_of_findRod_staged h]
    rfl
  · refine ⟨rfl, rfl, rfl, ?_, rfl, rfl, rfl, rfl, rfl, rfl, rfl, rfl, rfl, rfl, rfl⟩
    simp only [List.map_map]
    congr 1
    funext c
    cases c with
    | loaded r => simp only [Function.comp, Content.marked]; split <;> rfl
    | empty => rfl
    | gap => rfl
    | unknown => rfl
  all_goals exact .refl d

theorem alike_mapBeyond {f : Rod → Rod} (kept : ∀ r, (f r).id = r.id) (id : Nat) (d : Device) : Alike d (d.mapBeyond id f) := by
  have same (r : Rod) : (if r.id = id then f r else r).id = r.id := by split <;> simp [kept]
  refine ⟨rfl, rfl, rfl, ?_, rfl, rfl, rfl, rfl, ?_, ?_, rfl, rfl, rfl, rfl, rfl⟩
  · simp only [Device.mapBeyond, List.map_map]
    congr 1
    funext c
    cases c with
    | loaded r => simp [Content.mapRod, Content.mark, same]
    | empty => rfl
    | gap => rfl
    | unknown => rfl
  · simp only [Device.mapBeyond, List.map_map]
    congr 1
    funext l
    simp [LaneRt.mark, same, Function.comp_def]
  · simp only [Device.mapBeyond, Option.map_map]
    congr 1
    funext s
    exact same s.rod

theorem alike_gaugeResult (n rod value : Nat) (d : Device) : Alike d (d.gaugeResult n rod value) := by
  obtain ⟨track, acc⟩ | ⟨id, f, kept, track, acc⟩ := d.gaugeResult_rods n rod value
  · exact alike_of_blocks (by simp) (by simp) (by simp) track (by simp) acc (by simp) (by simp)
  · refine (alike_mapBeyond kept id d).trans (alike_of_blocks ?_ ?_ ?_ track ?_ acc ?_ ?_)
    all_goals simp

/-! The commands. -/

/-- The commands that keep every law on rods, whatever it is: those that move no rod, and those of a chain move. The others
write tables or the store, restart the power, or bring rods into or out of the part. -/
def keepsRods (i : Instr) : Bool :=
  match i with
  | .powerUp .. | .store .. | .storeWriteEnd .. | .storeLimitExpiry => false
  | .tableWriteTunnel .. | .tableWriteProfile .. | .tableWriteFormatMap .. | .tableWriteFaultSettings ..
  | .tableWriteDieSettings .. | .tableWriteGaugeSettings .. | .tableWriteZoneLayout .. | .tableWriteSampling ..
  | .tableWriteLanes .. | .tableWriteDisposition .. | .tableWriteAccumulatorSettings .. | .tableWritePacing ..
  | .tableWriteSpreaderSettings .. => false
  | .trackForget .. | .loadDone .. | .loadFailed .. | .loadLimitExpiry => false
  | .stripDone .. | .returnDeclare .. | .rodAdd .. | .stripDiscard .. | .laneDeclare .. | .rodRemoveReturn ..
  | .rodRemoveSpill .. | .stripFaultReport .. | .stripLimitExpiry | .stripRetry .. | .stripPause .. | .stripResume .. => false
  | _ => true

/-- Whether an effect changes a block that holds rods or that a law on rods speaks of. -/
def rodBlocks (i : Instr) : Bool := [Block.tables, .stored, .track, .pace, .spread, .acc, .link].any (touched i).contains

theorem alike_of_untouched {i : Instr} (free : rodBlocks i = false) (d : Device) : Alike d (effect i d) := by
  simp only [rodBlocks, List.any_cons, List.any_nil, Bool.or_eq_false_iff] at free
  obtain ⟨tables, stored, track, pace, spread, acc, link, -⟩ := free
  exact alike_of_blocks (effect_tables tables d) (effect_stored stored d) (storeWrite_of_silent (effect_link link d).1)
    (effect_track track d) (by rw [effect_pace pace]) (effect_acc acc d) (by rw [effect_spread spread])
    (by rw [effect_spread spread])

/-- A command that touches the link, the pacing unit or the batch only, and leaves the store's write and the move in flight. -/
theorem alike_of_spared {i : Instr} {d : Device} (free : [Block.tables, .stored, .track, .acc].any (touched i).contains = false)
    (write : (effect i d).link.storeWrite = d.link.storeWrite) (move : (effect i d).pace.inFlight = d.pace.inFlight)
    (slot : (effect i d).spread.slot = d.spread.slot) (load : (effect i d).spread.load = d.spread.load) :
    Alike d (effect i d) := by
  simp only [List.any_cons, List.any_nil, Bool.or_eq_false_iff] at free
  obtain ⟨tables, stored, track, acc, -⟩ := free
  exact alike_of_blocks (effect_tables tables d) (effect_stored stored d) write (effect_track track d) move (effect_acc acc d)
    slot load

theorem lineRun_inFlight (d : Device) : (lineRun d).1.pace.inFlight = d.pace.inFlight := by
  simp only [lineRun]; repeat' split
  all_goals simp [Device.bringIntoForce, Device.startInterval, Device.clearReference]

theorem paceRestart_inFlight (d : Device) : (paceRestart d).1.pace.inFlight = d.pace.inFlight := by
  unfold paceRestart; split <;> rfl

theorem stopLine_inFlight (cause : StopCause) (d : Device) : (d.stopLine cause).pace.inFlight = d.pace.inFlight := by
  rw [Device.stopLine_pace]

/-- A law on rods is kept by each of these commands. -/
theorem RodLaw.effect {P : Device → Prop} (rods : RodLaw P) {d : Device} {i : Instr} (hi : keepsRods i = true) (h : P d) :
    P (effect i d) := by
  have timed (t : Nat) : P { d with time := t } := rods.blocks h rfl rfl rfl rfl rfl rfl rfl rfl
  have taken (m : Mail) : P (d.take m) := rods.blocks h rfl rfl rfl rfl rfl rfl rfl rfl
  by_cases free : rodBlocks i = false
  · exact rods.alike (alike_of_untouched free d) h
  · have silent {i : Instr} (hi : (touched i).contains .link = false) :
        (Machine.effect i d).link.storeWrite = d.link.storeWrite := storeWrite_of_silent (effect_link hi d).1
    cases i <;> first | exact absurd rfl free | exact nomatch (show false = true from hi) | skip
    case hostFrame bytes => exact rods.alike (alike_of_spared rfl (takeBytes_storeWrite bytes d) (by rw [effect_pace rfl]) (by rw [effect_spread rfl]) (by rw [effect_spread rfl])) h
    case frameGapTimeout => exact expire_induct h fun t _ => rods.blocks h rfl rfl rfl rfl rfl rfl rfl rfl
    case frameSent =>
      refine rods.alike (alike_of_spared rfl ?_ (by rw [effect_pace rfl]) (by rw [effect_spread rfl]) (by rw [effect_spread rfl])) h
      exact expire_keeps (fun e : Device => e.link.storeWrite) fun _ => frameSent_storeWrite _
    case restart => exact rods.alike (alike_of_spared rfl (restart_storeWrite d) (by rw [effect_pace rfl]) (by rw [effect_spread rfl]) (by rw [effect_spread rfl])) h
    case lineRun => exact rods.alike (alike_of_spared rfl (silent rfl) (lineRun_inFlight d) (by rw [effect_spread rfl]) (by rw [effect_spread rfl])) h
    case lineStop => exact rods.alike (alike_of_spared rfl (silent rfl) (stopLine_inFlight _ d) (by rw [effect_spread rfl]) (by rw [effect_spread rfl])) h
    case stopOrder => exact rods.alike (alike_of_spared rfl (silent rfl) (stopLine_inFlight _ _) (by rw [effect_spread rfl]) (by rw [effect_spread rfl])) h
    case paceRestart => exact rods.alike (alike_of_spared rfl (silent rfl) (paceRestart_inFlight d) (by rw [effect_spread rfl]) (by rw [effect_spread rfl])) h
    case batchNew => exact rods.alike (alike_of_spared rfl (silent rfl) (by rw [effect_pace rfl]) rfl rfl) h
    case jog => exact rods.jog h
    case moveResolveMoved => exact rods.moveResolveMoved h
    case moveResolveNotMoved => exact rods.moveResolveNotMoved h _
    case pitchTimerExpiry => exact expire_induct h fun t _ => rods.due (rods.alike (alike_nextInterval _) (timed _))
    case pressScrewPulse => exact rods.pulse (timed _) _
    case attemptRetry report =>
      show P ((d.take (.retry report)).retry report)
      unfold Device.retry
      split
      · exact rods.pacedAttempt (taken _)
      · exact taken _
    case moveDone => exact rods.moveDone h _ _
    case moveLimitExpiry => exact expire_induct h fun t _ => rods.alike (alike_moveExpired _) (timed _)
    case shiftDoneReport => exact rods.shiftDone (taken _) _
    case standstillExpiry => exact expire_induct (deadline := some d.standstillDeadline) h fun t _ => rods.alike (alike_update _) (timed _)
    case rodMark => exact rods.alike (alike_rodMark _ d) h
    case memoryReadReply => exact rods.filled (filled_dieEvent (filled_memoryReadReply ..)) h
    case carriageQueryAnswer => exact rods.filled (filled_dieEvent (filled_queryAnswer ..)) h
    case carriageDone => exact rods.filled (filled_dieEvent (filled_carriageDone ..)) h
    case pressStarted => exact rods.filled (filled_pressStarted d) h
    case gaugeResult => exact rods.alike (alike_gaugeResult _ _ _ d) h

end Sys2Proof.Machine
end

section
/-! SUPPORT. The zones under the zone unit's operations. Each of them is a change of one zone index, or a run of such changes
over distinct indices, and is described here by what it makes of a zone. -/

namespace Sys2Proof.Machine

/-! One zone index. -/

/-- A change of a zone index changes that index, if it exists, and no other. -/
theorem Device.zone_modify (z k : Nat) (f : ZoneRt → ZoneRt) (d : Device) :
    (d.modifyZone z f).zone k = if k = z ∧ k < d.climate.zones.length then f (d.zone k) else d.zone k := by
  simp only [Device.zone, Device.modifyZone, List.getD_eq_getElem?_getD, List.getElem?_modify]
  rcases Nat.lt_or_ge k d.climate.zones.length with h | h
  · by_cases e : z = k
    · simp [e, h]
    · simp [e, h, Ne.symm e]
  · simp [List.getElem?_eq_none h, Nat.not_lt.mpr h]

/-- Two changes of one zone index that do the same to the zone there are the same. -/
theorem Device.modifyZone_congr {z : Nat} {f g : ZoneRt → ZoneRt} {d : Device} (h : f (d.zone z) = g (d.zone z)) :
    d.modifyZone z f = d.modifyZone z g := by
  have zones : d.climate.zones.modify z f = d.climate.zones.modify z g := by
    refine List.ext_getElem? fun i => ?_
    simp only [List.getElem?_modify]
    split
    · rename_i e
      subst e
      rcases hz : d.climate.zones[z]? with _ | x
      · rfl
      · simp only [Device.zone, List.getD_eq_getElem?_getD, hz, Option.getD_some] at h
        exact congrArg some h
    · rfl
  rw [Device.modifyZone, zones, Device.modifyZone]

theorem Device.modifyZone_self {z : Nat} {f : ZoneRt → ZoneRt} {d : Device} (h : f (d.zone z) = d.zone z) :
    d.modifyZone z f = d := by
  rw [Device.modifyZone_congr (g := id) h, Device.modifyZone, List.modify_id]

theorem Device.modifyZone_twice (z : Nat) (f g : ZoneRt → ZoneRt) (d : Device) :
    (d.modifyZone z f).modifyZone z g = d.modifyZone z (g ∘ f) := by
  simp only [Device.modifyZone, List.modify_modify_eq]

/-- A zone with its setpoints taken from its profile and trim (R93), and its settle timer started now (R107). -/
def Device.settled (d : Device) (z : Nat) (x : ZoneRt) : ZoneRt := { d.setpoints z x with settleFrom := some d.sec }

theorem Device.recompute_eq (z : Nat) (d : Device) : d.recompute z = d.modifyZone z (d.setpoints z) := rfl

theorem Device.startSettle_recompute (z : Nat) (d : Device) :
    (d.recompute z).startSettle z = d.modifyZone z (d.settled z) := Device.modifyZone_twice ..

/-! The operations. -/

/-- What the examination of a governing position makes of its zone (R92). -/
def Device.examined (d : Device) (z : Nat) (x : ZoneRt) : ZoneRt :=
  match d.governing z with
  | some p => if x.profile = p then x else d.settled z { x with profile := p, trim := 0 }
  | none => x

theorem Device.examineZone_eq (d : Device) (z : Nat) : d.examineZone z = d.modifyZone z (d.examined z) := by
  unfold Device.examineZone
  split
  · rename_i p hp
    split
    · rename_i same
      rw [Device.modifyZone_self (by simp [Device.examined, hp, same])]
    · rename_i other
      refine Eq.trans ?_ (Device.modifyZone_congr (f := fun x => d.settled z { x with profile := p, trim := 0 })
        (by simp [Device.examined, hp, other]))
      exact (Device.startSettle_recompute z _).trans (Device.modifyZone_twice ..)
  · rename_i hp
    rw [Device.modifyZone_self (by simp [Device.examined, hp])]

/-- What an order to recompute makes of a zone (R53). -/
def Device.reordered (profile : Nat) (d : Device) (z : Nat) (x : ZoneRt) : ZoneRt :=
  if x.profile = profile then d.settled z x else x

theorem recomputeFor_eq (profile : Nat) (d : Device) (z : Nat) :
    recomputeFor profile d z = d.modifyZone z (d.reordered profile z) := by
  unfold recomputeFor
  split
  · rename_i same
    rw [Device.startSettle_recompute]
    exact Device.modifyZone_congr (by simp [Device.reordered, same])
  · rename_i other
    rw [Device.modifyZone_self (by simp [Device.reordered, other])]

/-- What a pair of tallies makes of its zone (R94). -/
def Device.tallied (d : Device) (p : (Nat × Nat) × Nat) (x : ZoneRt) : ZoneRt :=
  match d.tables.zones[p.2]? with
  | none => x
  | some e =>
    match e.type with
    | .pre | .dry =>
      if trimmed e p.1 x.trim = x.trim then { x with tallies := p.1 }
      else d.setpoints p.2 { x with tallies := p.1, trim := trimmed e p.1 x.trim }
    | .relax | .cool => { x with tallies := p.1 }

theorem takeTally_eq (d : Device) (p : (Nat × Nat) × Nat) : takeTally d p = d.modifyZone p.2 (d.tallied p) := by
  have moved (trim : Nat) : ((d.modifyZone p.2 fun rt => { rt with tallies := p.1 }).setTrim trim p.2).recompute p.2
      = d.modifyZone p.2 fun x => d.setpoints p.2 { x with tallies := p.1, trim := trim } := by
    rw [Device.setTrim, Device.modifyZone_twice]
    exact Device.modifyZone_twice ..
  unfold takeTally
  split
  · rename_i hz
    rw [Device.modifyZone_self (by simp [Device.tallied, hz])]
  · rename_i e hz
    dsimp only
    split
    all_goals rename_i ht
    · split
      · rename_i hs; exact Device.modifyZone_congr (by simp [Device.tallied, hz, ht, hs])
      · rename_i hs; rw [moved]; exact Device.modifyZone_congr (by simp [Device.tallied, hz, ht, hs])
    · split
      · rename_i hs; exact Device.modifyZone_congr (by simp [Device.tallied, hz, ht, hs])
      · rename_i hs; rw [moved]; exact Device.modifyZone_congr (by simp [Device.tallied, hz, ht, hs])
    · exact Device.modifyZone_congr (by simp [Device.tallied, hz, ht])
    · exact Device.modifyZone_congr (by simp [Device.tallied, hz, ht])

/-- What ZONE_ACCEPT makes of a zone (R102). -/
def Device.unlearned (d : Device) (x : ZoneRt) : ZoneRt :=
  { x with identity := none, hold := false, settling := true, misses := 0, valid := false, settleFrom := some d.sec }

theorem Device.acceptZone_eq (d : Device) (z : Nat) : d.acceptZone z = d.modifyZone z d.unlearned :=
  Device.modifyZone_twice ..

/-- Whether a ZONE_LAYOUT write gives a zone another structure than it had, or a structure at all (R90). -/
def restructured (old : List ZoneEntry) (z : Nat) (entry : ZoneEntry) : Bool :=
  match old[z]? with
  | some e => structureDiffers e entry
  | none => true

/-- What a ZONE_LAYOUT write makes of a zone below the new Z, whose entry is the new one (R90, R107). -/
def Device.relaid (old : List ZoneEntry) (carried : Nat → Bool) (d : Device) (z : Nat) (x : ZoneRt) : ZoneRt :=
  let entry := d.tables.zones.getD z default
  let inside := if carried z then { x with tempOut := false, humOut := false } else x
  if restructured old z entry then d.settled z { inside with trim := 0 }
  else if carried z ∧ entry.trimMax < x.trim then d.setpoints z { inside with trim := entry.trimMax }
  else inside

theorem relayZone_eq (old : List ZoneEntry) (carried : Nat → Bool) (d : Device) (z : Nat) :
    relayZone old carried d z = d.modifyZone z (d.relaid old carried z) := by
  have inside : (if carried z then d.modifyZone z fun rt => { rt with tempOut := false, humOut := false } else d)
      = d.modifyZone z fun x => if carried z then { x with tempOut := false, humOut := false } else x := by
    split
    · rfl
    · rw [Device.modifyZone_self rfl]
  simp only [relayZone, inside]
  change (if restructured old z (d.tables.zones.getD z default) = true then _ else _) = _
  split
  · rename_i hs
    rw [Device.setTrim, Device.startSettle_recompute, Device.modifyZone_twice, Device.modifyZone_twice]
    exact Device.modifyZone_congr (by simp only [Device.relaid, if_pos hs]; rfl)
  · rename_i hs
    split
    · rename_i hc
      rw [Device.setTrim, Device.recompute_eq, Device.modifyZone_twice, Device.modifyZone_twice]
      exact Device.modifyZone_congr (by simp only [Device.relaid, if_neg hs, if_pos hc]; rfl)
    · rename_i hc
      exact Device.modifyZone_congr (by simp only [Device.relaid, if_neg hs, if_neg hc])

/-! Runs over distinct indices. -/

/-- The same part but for the zones, of which there are as many. -/
def OnlyZones (d e : Device) : Prop :=
  e = { d with climate := { d.climate with zones := e.climate.zones } } ∧ e.climate.zones.length = d.climate.zones.length

theorem onlyZones_refl (d : Device) : OnlyZones d d := ⟨rfl, rfl⟩

theorem OnlyZones.modifyZone {d e : Device} (h : OnlyZones d e) (z : Nat) (f : ZoneRt → ZoneRt) :
    OnlyZones d (e.modifyZone z f) := by
  obtain ⟨same, length⟩ := h
  refine ⟨?_, by simpa [Device.modifyZone] using length⟩
  rw [same]
  rfl

/-- A run of changes of distinct zone indices, none of which depends on another's, makes of each index named what its change
does, and leaves the others. -/
theorem foldl_zones {α : Type} {f : Device → α → Device} {idx : α → Nat} {g : α → ZoneRt → ZoneRt} {d : Device}
    (step : ∀ e a, OnlyZones d e → f e a = e.modifyZone (idx a) (g a)) (xs : List α) (distinct : (xs.map idx).Nodup) :
    OnlyZones d (xs.foldl f d)
      ∧ (∀ a ∈ xs, idx a < d.climate.zones.length → (xs.foldl f d).zone (idx a) = g a (d.zone (idx a)))
      ∧ ∀ k, (∀ a ∈ xs, idx a ≠ k) → (xs.foldl f d).zone k = d.zone k := by
  have run (xs : List α) (distinct : (xs.map idx).Nodup) (e : Device) (he : OnlyZones d e) :
      OnlyZones d (xs.foldl f e)
        ∧ (∀ a ∈ xs, idx a < d.climate.zones.length → (xs.foldl f e).zone (idx a) = g a (e.zone (idx a)))
        ∧ ∀ k, (∀ a ∈ xs, idx a ≠ k) → (xs.foldl f e).zone k = e.zone k := by
    induction xs generalizing e with
    | nil => exact ⟨he, nofun, fun _ _ => rfl⟩
    | cons x xs ih =>
      obtain ⟨fresh, distinct⟩ := List.nodup_cons.mp distinct
      have other (a : α) (ha : a ∈ xs) : idx a ≠ idx x := fun h => fresh (List.mem_map.mpr ⟨a, ha, h⟩)
      rw [List.foldl_cons, step e x he]
      obtain ⟨only, hit, miss⟩ := ih distinct _ (he.modifyZone (idx x) (g x))
      refine ⟨only, fun a ha hl => ?_, fun k hk => ?_⟩
      · rcases List.mem_cons.mp ha with rfl | ha
        · rw [miss _ other, Device.zone_modify, if_pos ⟨rfl, he.2 ▸ hl⟩]
        · rw [hit a ha hl, Device.zone_modify, if_neg fun h => other a ha h.1]
      · rw [miss k fun a ha => hk a (List.mem_cons_of_mem _ ha), Device.zone_modify,
          if_neg fun h => hk x List.mem_cons_self h.1.symm]
  exact run xs distinct d (onlyZones_refl d)

/-- A run over the first zone indices. -/
theorem foldl_range_zones {f : Device → Nat → Device} {g : Nat → ZoneRt → ZoneRt} {d : Device}
    (step : ∀ e z, OnlyZones d e → f e z = e.modifyZone z (g z)) (n : Nat) :
    OnlyZones d ((List.range n).foldl f d)
      ∧ ∀ z, ((List.range n).foldl f d).zone z
          = if z < n ∧ z < d.climate.zones.length then g z (d.zone z) else d.zone z := by
  obtain ⟨only, hit, miss⟩ := foldl_zones (idx := id) step (List.range n) (by simpa using List.nodup_range)
  refine ⟨only, fun z => ?_⟩
  split
  · rename_i h; exact hit z (List.mem_range.mpr h.1) h.2
  · rename_i h
    rcases Nat.lt_or_ge z n with hn | hn
    · have out : d.climate.zones.length ≤ z := Nat.le_of_not_lt fun hl => h ⟨hn, hl⟩
      simp [Device.zone, List.getD_eq_getElem?_getD, List.getElem?_eq_none, only.2, out]
    · exact miss z fun a ha e => absurd (List.mem_range.mp ha) (by simp at e; omega)

/-- The zones after the adoptions of a shift (R92). -/
theorem Device.zone_adoptions (d : Device) (z : Nat) : d.adoptions.zone z
    = if z < d.tables.zones.length ∧ z < d.climate.zones.length then d.examined z (d.zone z) else d.zone z := by
  refine (foldl_range_zones (g := d.examined) (fun e z he => ?_) _).2 z
  rw [Device.examineZone_eq, he.1]
  rfl

theorem Device.zone_recomputeProfile (profile : Nat) (d : Device) (z : Nat) : (d.recomputeProfile profile).zone z
    = if z < d.tables.zones.length ∧ z < d.climate.zones.length then d.reordered profile z (d.zone z) else d.zone z := by
  refine (foldl_range_zones (g := d.reordered profile) (fun e z he => ?_) _).2 z
  rw [recomputeFor_eq, he.1]
  rfl

theorem Device.zone_acceptAll (d : Device) (z : Nat) : (d.zoneIndices.foldl Device.acceptZone d).zone z
    = if z < d.tables.zones.length ∧ z < d.climate.zones.length then d.unlearned (d.zone z) else d.zone z := by
  refine (foldl_range_zones (g := fun _ => d.unlearned) (fun e z he => ?_) _).2 z
  rw [Device.acceptZone_eq, he.1]
  rfl

/-- The zones after a set of tallies (R94). -/
theorem Device.zone_takeTallies (pairs : List (Nat × Nat)) (d : Device) (z : Nat) (p : Nat × Nat) (hp : pairs[z]? = some p)
    (hz : z < d.climate.zones.length) : (d.takeTallies pairs).zone z = d.tallied (p, z) (d.zone z) := by
  refine (foldl_zones (idx := Prod.snd) (g := d.tallied) (fun e a he => ?_) pairs.zipIdx ?_).2.1 (p, z) ?_ hz
  · rw [takeTally_eq, he.1]
    rfl
  · rw [List.zipIdx_map_snd]
    exact List.nodup_range'
  · exact List.mem_zipIdx_iff_getElem?.mpr hp

/-- The zones of the layout after a ZONE_LAYOUT write, before its settle timers are run out again (R90). -/
theorem zone_relay (old : List ZoneEntry) (carried : Nat → Bool) (d : Device) (n z : Nat) :
    OnlyZones d ((List.range n).foldl (relayZone old carried) d)
      ∧ ((List.range n).foldl (relayZone old carried) d).zone z
        = if z < n ∧ z < d.climate.zones.length then d.relaid old carried z (d.zone z) else d.zone z := by
  have run := foldl_range_zones (g := d.relaid old carried) (f := relayZone old carried) (d := d) (fun e z he => by
    rw [relayZone_eq, he.1]
    rfl) n
  exact ⟨run.1, run.2 z⟩

/-- Running settle timers out changes settle timers only (R107, log entry 24). -/
theorem Device.zone_runOut (d : Device) (z : Nat) : d.runOut.zone z =
    if z < d.tables.zones.length ∧ d.settleCounting z = false then { d.zone z with settleFrom := none } else d.zone z := by
  simp only [Device.zone, Device.runOut, List.getD_eq_getElem?_getD, List.getElem?_map, List.getElem?_zipIdx]
  rcases h : d.climate.zones[z]? with _ | x
  · simp only [Option.map_none, Option.getD_none]
    split <;> rfl
  · simp

end Sys2Proof.Machine
end

section
/-! SUPPORT. The laws on the zone layout and on trim (R2, R88, R91), which every step keeps. -/

namespace Sys2Proof.Machine

/-! The layout, index by index. -/

/-- The layout's check written over the indices, with the neighbours compared (R88). -/
theorem layoutValid_iff (t : Tables) : LayoutValid t ↔ 32 ≤ t.length ∧ t.length ≤ 1536 ∧ 1 ≤ t.zones.length
    ∧ t.zones.length ≤ 12 ∧ (t.zones.getD (t.zones.length - 1) default).last = t.length - 1
    ∧ (t.zones.getD 0 default).governing ≤ (t.zones.getD 0 default).last
    ∧ ∀ z, z + 1 < t.zones.length → (t.zones.getD z default).last < (t.zones.getD (z + 1) default).last
      ∧ (t.zones.getD z default).last + 1 ≤ (t.zones.getD (z + 1) default).governing
      ∧ (t.zones.getD (z + 1) default).governing ≤ (t.zones.getD (z + 1) default).last := by
  have get {z : Nat} (hz : z < t.zones.length) : t.zones[z]? = some (t.zones.getD z default) := by
    simp [List.getD_eq_getElem?_getD, List.getElem?_eq_getElem hz]
  constructor
  · rintro ⟨low, high, one, twelve, rising, last, first, rest⟩
    have lastIndex : t.zones.length - 1 < t.zones.length := by omega
    refine ⟨low, high, one, twelve, ?_, first _ (get one), fun z hz => ⟨?_, rest z _ _ (get (by omega)) (get hz)⟩⟩
    · rw [List.getLast?_eq_getElem?, get lastIndex] at last
      exact Option.some.inj last
    · have less := List.pairwise_iff_getElem.mp rising z (z + 1) (by simp; omega) (by simpa using hz) (Nat.lt_succ_self z)
      simpa [List.getD_eq_getElem?_getD, List.getElem?_eq_getElem hz,
        List.getElem?_eq_getElem (show z < t.zones.length by omega)] using less
  · rintro ⟨low, high, one, twelve, last, first, rest⟩
    have lastIndex : t.zones.length - 1 < t.zones.length := by omega
    have rising (i n : Nat) (h : i + (n + 1) < t.zones.length) :
        (t.zones.getD i default).last < (t.zones.getD (i + (n + 1)) default).last := by
      induction n with
      | zero => exact (rest i h).1
      | succ n ih => exact (ih (by omega)).trans (rest (i + (n + 1)) h).1
    refine ⟨low, high, one, twelve, ?_, ?_, fun e he => ?_, fun z e f he hf => ?_⟩
    · rw [List.pairwise_iff_getElem]
      intro i j hi hj less
      obtain ⟨n, rfl⟩ : ∃ n, j = i + (n + 1) := ⟨j - i - 1, by omega⟩
      simp only [List.length_map] at hi hj
      simpa [List.getD_eq_getElem?_getD, List.getElem?_eq_getElem hi, List.getElem?_eq_getElem hj] using rising i n hj
    · rw [List.getLast?_eq_getElem?, get lastIndex]
      exact congrArg some last
    · rw [get one] at he
      cases he
      exact first
    · have hz : z + 1 < t.zones.length := (List.getElem?_eq_some_iff.mp hf).1
      rw [get (by omega)] at he
      rw [get hz] at hf
      cases he
      cases hf
      exact (rest z hz).2

/-- R89's third check finds no conflict in a layout that R88 lets stand, and R89's shapes hold 1 to 12 zones. -/
theorem layoutValid_of_no_conflict {t : Tables} (low : 32 ≤ t.length) (high : t.length ≤ 1536) (one : 1 ≤ t.zones.length)
    (twelve : t.zones.length ≤ 12) (h : layoutConflict t.zones t.length = none) : LayoutValid t := by
  unfold layoutConflict at h
  split at h
  · cases h
  rename_i rises
  split at h
  · cases h
  rename_i last
  split at h
  · cases h
  rename_i governs
  rw [List.find?_eq_none] at rises governs
  refine (layoutValid_iff t).mpr ⟨low, high, one, twelve, not_not.mp last, ?_, fun z hz => ?_⟩
  · have g := governs 0 (List.mem_range.mpr one)
    simp [firstPosition] at g
    simpa using g
  · have r := rises (z + 1) (List.mem_range.mpr hz)
    have g := governs (z + 1) (List.mem_range.mpr hz)
    simp only [firstPosition, Nat.add_one_ne_zero, if_false, Nat.add_sub_cancel, Bool.or_eq_true, decide_eq_true_eq,
      Bool.and_eq_true, ne_eq, not_false_eq_true, true_and, not_or, Nat.not_lt, Nat.not_le] at r g
    exact ⟨r, g.1, g.2⟩

theorem newLayout_length {zones new out : List ZoneEntry} {start : Nat} (old : 1 ≤ zones.length ∧ zones.length ≤ 12)
    (h : newLayout zones start new = some out) : 1 ≤ out.length ∧ out.length ≤ 12 := by
  unfold newLayout at h
  split at h <;> split at h <;> cases h
  · assumption
  · rename_i fits
    rw [replaceAt_length fits.2]
    exact old

/-- An accepted TUNNEL write moves the end of the last zone, and no other zone (R1). -/
theorem getD_endAt (last z : Nat) (zones : List ZoneEntry) (hz : z < zones.length) : (endAt last zones).getD z default
    = if z = zones.length - 1 then { zones.getD z default with last := last } else zones.getD z default := by
  simp only [endAt, List.getD_eq_getElem?_getD, List.getElem?_modify, List.getElem?_eq_getElem hz]
  by_cases e : zones.length - 1 = z
  · simp [e]
  · simp [e, Ne.symm e]

theorem layoutValid_setLength {d : Device} {length : Nat} (valid : LayoutValid d.tables)
    (range : 32 ≤ length ∧ length ≤ 1536) (before : ¬ (d.lastBefore.any fun p => decide (length - 1 ≤ p)) = true)
    (governing : ¬ length - 1 < d.lastGoverning) : LayoutValid (d.setLength length).tables := by
  obtain ⟨-, -, one, twelve, -, first, rest⟩ := (layoutValid_iff _).mp valid
  have size : (endAt (length - 1) d.tables.zones).length = d.tables.zones.length := by simp [endAt]
  have reach : (d.tables.zones.getD (d.tables.zones.length - 1) default).governing ≤ length - 1 := by
    simpa [Device.lastGoverning, List.getLast?_eq_getElem?, List.getD_eq_getElem?_getD,
      List.getElem?_eq_getElem (show d.tables.zones.length - 1 < d.tables.zones.length by omega)] using governing
  refine (layoutValid_iff _).mpr ⟨range.1, range.2, ?_⟩
  show 1 ≤ (endAt (length - 1) d.tables.zones).length ∧ (endAt (length - 1) d.tables.zones).length ≤ 12 ∧ _
  rw [size]
  refine ⟨one, twelve, ?_, ?_, fun z hz => ?_⟩
  · show ((endAt (length - 1) d.tables.zones).getD ((endAt (length - 1) d.tables.zones).length - 1) default).last = _
    rw [size, getD_endAt _ _ _ (by omega), if_pos rfl]
    rfl
  · show ((endAt (length - 1) d.tables.zones).getD 0 default).governing ≤ ((endAt (length - 1) d.tables.zones).getD 0 default).last
    rw [getD_endAt _ _ _ (by omega)]
    split
    · rename_i h; rw [← h] at reach; exact reach
    · exact first
  · replace hz : z + 1 < d.tables.zones.length := size ▸ hz
    show ((endAt (length - 1) d.tables.zones).getD z default).last < ((endAt (length - 1) d.tables.zones).getD (z + 1) default).last
      ∧ ((endAt (length - 1) d.tables.zones).getD z default).last + 1 ≤ ((endAt (length - 1) d.tables.zones).getD (z + 1) default).governing
      ∧ ((endAt (length - 1) d.tables.zones).getD (z + 1) default).governing ≤ ((endAt (length - 1) d.tables.zones).getD (z + 1) default).last
    obtain ⟨less, above, below⟩ := rest z hz
    rw [getD_endAt _ _ _ (by omega), getD_endAt _ _ _ hz, if_neg (by omega)]
    split
    · rename_i h
      have last : (d.tables.zones.getD z default).last < length - 1 := by
        have index : d.tables.zones.length - 2 = z := by omega
        have above : (d.tables.zones.getD z default).last + 1 < length := by
          simpa [Device.lastBefore, show 1 < d.tables.zones.length by omega, index, List.getD_eq_getElem?_getD,
            List.getElem?_eq_getElem (show z < d.tables.zones.length by omega)] using before
        omega
      rw [← h] at reach
      exact ⟨last, above, reach⟩
    · exact ⟨less, above, below⟩

/-! The law on the layout. -/

theorem LayoutValid.congr {t u : Tables} (length : u.length = t.length) (zones : u.zones = t.zones) (h : LayoutValid t) :
    LayoutValid u := by
  simp only [LayoutValid, length, zones]
  exact h

theorem TunnelLaw.congr {d e : Device} (length : e.tables.length = d.tables.length) (zones : e.tables.zones = d.tables.zones)
    (positions : e.track.positions.length = d.track.positions.length) (stored : e.stored = d.stored)
    (write : e.link.storeWrite = d.link.storeWrite) (law : TunnelLaw d) : TunnelLaw e := by
  obtain ⟨valid, size, copy, writing⟩ := law
  exact ⟨valid.congr length zones, by rw [positions, length, size], stored ▸ copy, write ▸ writing⟩

theorem TunnelLaw.positions_ne_nil {d : Device} (law : TunnelLaw d) : d.track.positions ≠ [] := by
  obtain ⟨⟨low, -⟩, size, -⟩ := law
  intro h
  rw [h] at size
  simp only [List.length_nil] at size
  omega

@[simp] theorem Device.inventoryAdd_positions (n : Nat) (d : Device) :
    (d.inventoryAdd n).track.positions = d.track.positions := by rw [Device.inventoryAdd_only]

@[simp] theorem Device.inventorySub_positions (n : Nat) (d : Device) :
    (d.inventorySub n).track.positions = d.track.positions := by rw [Device.inventorySub_only]

@[simp] theorem Device.returnRod_positions (c : Context) (d : Device) :
    (d.returnRod c).track.positions = d.track.positions := by
  obtain ⟨-, -, h⟩ | ⟨-, h⟩ := d.returnRod_cases c <;> rw [h] <;> simp

@[simp] theorem Device.dischargeFree_positions (disp : Disposition) (l : Nat) (r : Rod) (d : Device) :
    (d.dischargeFree disp l r).track.positions = d.track.positions := by
  unfold Device.dischargeFree; split <;> simp

@[simp] theorem Device.dischargeUntracked_positions (d : Device) :
    d.dischargeUntracked.track.positions = d.track.positions := by simp [Device.dischargeUntracked]

@[simp] theorem Device.reconcile_positions (o : ShiftOrder) (c : Content) (d : Device) :
    (d.reconcile o c).track.positions = d.track.positions := by
  cases c with
  | loaded r => simp only [Device.reconcile, Device.reconcileLoaded]; repeat' split
                all_goals simp
  | empty => simp only [Device.reconcile, Device.reconcileEmpty]; split <;> simp
  | gap => simp only [Device.reconcile, Device.reconcileGap]; split <;> simp
  | unknown => simp only [Device.reconcile, Device.reconcileUnknown]; split <;> simp

/-- A shift moves every content on by one, whatever its reconciliation does (R7). -/
theorem Device.shift_positions (o : ShiftOrder) (d : Device) :
    (d.shift o).track.positions = d.spread.slot.delivery d.tables.zones.length :: d.track.positions.dropLast := by
  simp [Device.shift]

theorem TunnelLaw.shift {d : Device} (law : TunnelLaw d) (o : ShiftOrder) : TunnelLaw (d.shift o) := by
  refine law.congr (by simp) (by simp) ?_ (by simp) (storeWrite_of_silent (d.shift_link o).1)
  have some : 0 < d.track.positions.length := List.length_pos_iff.mpr law.positions_ne_nil
  rw [Device.shift_positions, List.length_cons, List.length_dropLast]
  omega

theorem TunnelLaw.alike {d e : Device} (same : Alike d e) (law : TunnelLaw d) : TunnelLaw e := by
  have size : e.track.positions.length = d.track.positions.length := by
    simpa using congrArg List.length same.positions
  exact law.congr (by rw [same.tables]) (by rw [same.tables]) size same.stored same.write

theorem tunnelLaw_rods : RodLaw TunnelLaw where
  alike same law := law.alike same
  fill law := law.congr (by simp) (by simp) (by simp) (by simp) (by simp)
  reserve kind law := law.congr (by simp) (by simp) (by simp) (by simp) (by simp)
  unmoved law _ := law.congr (by simp) (by simp) (by simp) (by simp) (by simp)
  shift seen law _ _ same := by
    have ended : TunnelLaw _ := law.congr (e := Device.endMove _) rfl rfl rfl rfl rfl
    exact (ended.alike same).shift _
  lateShift n seen law := law.shift _

/-- A write of tables that leaves the length and the zones, and the positions. -/
theorem TunnelLaw.written {d : Device} {i : Instr} {α : Type} (law : TunnelLaw d) (set : α → Tables → Tables)
    (tables : ∃ v, (effect i d).tables = set v d.tables)
    (kept : ∀ v, (set v d.tables).length = d.tables.length ∧ (set v d.tables).zones = d.tables.zones)
    (untouched : [Block.stored, .track, .link].any (touched i).contains = false) : TunnelLaw (effect i d) := by
  simp only [List.any_cons, List.any_nil, Bool.or_eq_false_iff] at untouched
  obtain ⟨stored, track, link, -⟩ := untouched
  obtain ⟨v, h⟩ := tables
  exact law.congr (by rw [h, (kept v).1]) (by rw [h, (kept v).2]) (by rw [effect_track track]) (effect_stored stored d)
    (storeWrite_of_silent (effect_link link d).1)

/-- An effect that leaves the tables and the positions. -/
theorem TunnelLaw.positioned {d : Device} {i : Instr} (law : TunnelLaw d)
    (positions : (effect i d).track.positions.length = d.track.positions.length)
    (untouched : [Block.tables, .stored, .link].any (touched i).contains = false) : TunnelLaw (effect i d) := by
  simp only [List.any_cons, List.any_nil, Bool.or_eq_false_iff] at untouched
  obtain ⟨tables, stored, link, -⟩ := untouched
  exact law.congr (by rw [effect_tables tables]) (by rw [effect_tables tables]) positions (effect_stored stored d)
    (storeWrite_of_silent (effect_link link d).1)

theorem TunnelLaw.endStore {d : Device} (law : TunnelLaw d) (ok : Bool) : TunnelLaw (d.endStore ok) := by
  obtain ⟨stored, none⟩ := endStore_stored ok d
  obtain ⟨valid, size, copy, writing⟩ := law
  refine ⟨valid.congr (by simp) (by simp), by simpa using size, fun c hc => ?_, fun w hw => ?_⟩
  · obtain ⟨kept, -⟩ | lost | ⟨w, hw, written⟩ := stored
    · exact copy c (kept ▸ hc)
    · rw [lost] at hc; cases hc
    · rw [written] at hc; cases hc; exact writing w hw
  · rw [none] at hw; cases hw

/-- The value of a TUNNEL write that is in range (R1). -/
theorem tunnel_range {start : Nat} {values : List (List (List Nat))} {bytes : List Byte}
    (h : values = readEntries tunnelSpec 1 bytes) (good : badEntry? tunnelSpec start values = none) :
    32 ≤ field (firstEntry values) 0 ∧ field (firstEntry values) 0 ≤ 1536 := by
  subst h
  simp only [readEntries, tunnelSpec, readFields, readValues, ranged, badEntry?, badField?, firstEntry, field] at good ⊢
  simpa [List.range_succ] using good

theorem TunnelLaw.tunnelOwn {d : Device} (law : TunnelLaw d) {values : List (List (List Nat))}
    (range : 32 ≤ field (firstEntry values) 0 ∧ field (firstEntry values) 0 ≤ 1536) : TunnelLaw (tunnelOwn values d).1 := by
  unfold Machine.tunnelOwn
  dsimp only
  split
  · exact law
  split
  · exact law
  split
  · exact law
  split
  · exact law
  · rename_i before governing _
    obtain ⟨valid, -, copy, writing⟩ := law
    exact ⟨layoutValid_setLength valid range before governing, List.length_replicate, copy, writing⟩

theorem TunnelLaw.zoneLayoutWrite {d : Device} (law : TunnelLaw d) (start count : Nat) (entries : List Byte) :
    TunnelLaw (zoneLayoutWrite start count entries d).1 := by
  unfold Machine.zoneLayoutWrite
  dsimp only
  repeat' split
  case h_2 =>
    rename_i zones hz _ _ _ _ conflict
    obtain ⟨valid, size, copy, writing⟩ := law
    obtain ⟨low, high, one, twelve, -⟩ := (layoutValid_iff _).mp valid
    obtain ⟨one, twelve⟩ := newLayout_length ⟨one, twelve⟩ hz
    refine ⟨?_, by simpa using size, by simpa using copy, by simpa using writing⟩
    rw [(d.setLayout_frame zones _).2.1]
    exact layoutValid_of_no_conflict (t := { d.tables with zones := zones }) low high one twelve conflict
  all_goals exact law

theorem rodRemoveSpill_positions (place : Byte) (n : Nat) (d : Device) :
    (rodRemoveSpill place n d).1.track.positions = d.track.positions := by
  unfold rodRemoveSpill; repeat' split
  all_goals simp

theorem TunnelLaw.effect {d : Device} (law : TunnelLaw d) (i : Instr) : TunnelLaw (effect i d) := by
  by_cases moves : keepsRods i = true
  · exact tunnelLaw_rods.effect moves law
  · have timed (t : Nat) : TunnelLaw { d with time := t } := law
    cases i <;> first | exact absurd rfl moves | skip
    case powerUp lost pa ca pb cb =>
      obtain ⟨-, -, copies, -⟩ := law
      have copies : ∀ c, (if lost then none else d.stored) = some c → LayoutValid c.tables := by
        intro c h
        split at h
        · cases h
        · exact copies c h
      show TunnelLaw (powered _ _ _ _ _)
      obtain ⟨-, tables, kept, track, -, -, -, -, -, -, -, silent⟩ := powered_frame (if lost then none else d.stored) pa ca pb cb
      refine TunnelLaw.congr (d := freshDevice ((usable (if lost then none else d.stored)).getD defaultTables)
        (if lost then none else d.stored)) (by rw [tables]) (by rw [tables]) (by rw [track]) kept (storeWrite_of_silent silent)
        ⟨?_, List.length_replicate, copies, nofun⟩
      exact usable_or_default (P := LayoutValid) copies layoutValid_default
    case store =>
      obtain ⟨valid, size, -, -⟩ := law
      exact ⟨valid, size, nofun, fun w h => by cases h; exact valid⟩
    case storeWriteEnd => exact law.endStore _
    case storeLimitExpiry => exact expire_induct law fun t _ => (timed _).endStore _
    case tableWriteTunnel tag start count entries =>
      show TunnelLaw (writeTable ..).1
      obtain h | ⟨one, fits, good, h⟩ := writeTable_cases tunnelSpec 1 start.toNat count.toNat entries Machine.tunnelOwn d <;> rw [h]
      · exact law
      · have single : count.toNat = 1 := by omega
        rw [single] at good ⊢
        exact law.tunnelOwn (tunnel_range rfl good)
    case tableWriteZoneLayout => exact law.zoneLayoutWrite _ _ _
    case tableWriteProfile =>
      exact law.written (fun v t => { t with profiles := v }) (effect_profile_tables _ _ _ _ d) (fun _ => ⟨rfl, rfl⟩) rfl
    case tableWriteFormatMap =>
      exact law.written (fun v t => { t with formatMap := v }) (effect_formatMap_tables _ _ _ _ d) (fun _ => ⟨rfl, rfl⟩) rfl
    case tableWriteLanes =>
      exact law.written (fun v t => { t with lanes := v }) (effect_lanes_tables _ _ _ _ d) (fun _ => ⟨rfl, rfl⟩) rfl
    case tableWriteDisposition =>
      exact law.written (fun v t => { t with dispositions := v }) (effect_disposition_tables _ _ _ _ d) (fun _ => ⟨rfl, rfl⟩) rfl
    case tableWritePacing =>
      exact law.written (fun v t => { t with pacing := v }) (effect_pacing_tables _ _ _ _ d) (fun _ => ⟨rfl, rfl⟩) rfl
    case tableWriteSampling =>
      exact law.written (fun v t => { t with sampling := v }) (effect_sampling_tables _ _ _ _ d) (fun _ => ⟨rfl, rfl⟩) rfl
    case tableWriteFaultSettings =>
      exact law.written (fun v t => { t with faults := v }) (effect_faults_tables _ _ _ _ d) (fun _ => ⟨rfl, rfl⟩) rfl
    case tableWriteDieSettings =>
      exact law.written (fun v t => { t with die := v }) (effect_die_tables _ _ _ _ d) (fun _ => ⟨rfl, rfl⟩) rfl
    case tableWriteGaugeSettings =>
      exact law.written (fun v t => { t with gauge := v }) (effect_gauge_tables _ _ _ _ d) (fun _ => ⟨rfl, rfl⟩) rfl
    case tableWriteSpreaderSettings =>
      exact law.written (fun v t => { t with spreader := v }) (effect_spreader_tables _ _ _ _ d) (fun _ => ⟨rfl, rfl⟩) rfl
    case tableWriteAccumulatorSettings =>
      exact law.written (fun v t => { t with acc := v }) (effect_acc_tables _ _ _ _ d) (fun _ => ⟨rfl, rfl⟩) rfl
    case loadFailed => exact law.positioned (by rw [effect_track rfl]) rfl
    case loadLimitExpiry => exact law.positioned (by rw [effect_track rfl]) rfl
    case stripFaultReport => exact law.positioned (by rw [effect_track rfl]) rfl
    case stripLimitExpiry => exact law.positioned (by rw [effect_track rfl]) rfl
    case stripRetry => exact law.positioned (by rw [effect_track rfl]) rfl
    case stripPause => exact law.positioned (by rw [effect_track rfl]) rfl
    case stripResume => exact law.positioned (by rw [effect_track rfl]) rfl
    case trackForget =>
      refine law.positioned ?_ rfl
      show (trackForget d).1.track.positions.length = _
      unfold trackForget
      split <;> simp [Track.unestablished]
    case loadDone =>
      refine law.positioned ?_ rfl
      show (d.loadDone _).track.positions.length = _
      unfold Device.loadDone
      split <;> simp [Device.completeLoad, Device.lateLoad]
    case stripDone =>
      refine law.positioned ?_ rfl
      show (d.stripDone _).track.positions.length = _
      simp only [Device.stripDone, Device.completeStrip, Device.ignoreStripDone]
      repeat' split
      all_goals simp
    case stripDiscard =>
      refine law.positioned ?_ rfl
      show (stripDiscard d).1.track.positions.length = _
      unfold stripDiscard
      split <;> simp
    case laneDeclare tag lane count =>
      refine law.positioned ?_ rfl
      show (laneDeclare _ _ d).1.track.positions.length = _
      obtain ⟨new, -, -, -, many⟩ := Device.declareMany_eq lane.toNat count.toNat d
      unfold laneDeclare
      repeat' split
      all_goals simp [Device.declareLane, many]
    case returnDeclare =>
      refine law.positioned ?_ rfl
      show (returnDeclare _ d).1.track.positions.length = _
      unfold returnDeclare
      split <;> simp [Device.setReturn]
    case rodAdd =>
      refine law.positioned ?_ rfl
      show (rodAdd _ d).1.track.positions.length = _
      unfold rodAdd
      repeat' split
      all_goals simp [Device.setReturn]
    case rodRemoveReturn =>
      refine law.positioned ?_ rfl
      show (rodRemoveReturn _ d).1.track.positions.length = _
      unfold rodRemoveReturn
      repeat' split
      all_goals simp [Device.setReturn]
    case rodRemoveSpill => exact law.positioned (congrArg List.length (rodRemoveSpill_positions _ _ d)) rfl

theorem tunnelLaw_kept {s t : State} (h : step s = .next t) (law : TunnelLaw s.dev) : TunnelLaw t.dev := by
  refine step_keeps (fun d e same law => ?_) (fun i _ law => law.effect i) h law
  obtain ⟨rods, write⟩ := same
  exact law.congr (by rw [rods]) (by rw [rods]) (by rw [rods]) (by rw [rods]) write

end Sys2Proof.Machine
end

section
/-! SUPPORT. The law on trim (R91), which every step keeps. -/

namespace Sys2Proof.Machine

/-- A zone within the law on trim, at an index of a layout. -/
def TrimFits (zones : List ZoneEntry) (z : Nat) (x : ZoneRt) : Prop :=
  (∀ e, zones[z]? = some e → x.trim ≤ e.trimMax) ∧ x.effHum ≤ 1000

theorem trimLaw_iff (d : Device) : TrimLaw d ↔ ∀ z, TrimFits d.tables.zones z (d.zone z) := by
  constructor
  · rintro ⟨trim, hum⟩ z
    refine ⟨trim z, ?_⟩
    simp only [Device.zone, List.getD_eq_getElem?_getD]
    cases h : d.climate.zones[z]? with
    | none => exact Nat.zero_le _
    | some x => exact hum x (List.mem_of_getElem? h)
  · refine fun fits => ⟨fun z => (fits z).1, fun x hx => ?_⟩
    obtain ⟨z, hz, rfl⟩ := List.getElem_of_mem hx
    have hum := (fits z).2
    simpa [Device.zone, List.getD_eq_getElem?_getD, List.getElem?_eq_getElem hz] using hum

theorem TrimLaw.congr {d e : Device} (entries : e.tables.zones = d.tables.zones) (zones : e.climate.zones = d.climate.zones)
    (law : TrimLaw d) : TrimLaw e := by
  simp only [TrimLaw, Device.zone, entries, zones]
  exact law

/-- The law is kept where each zone is kept or becomes one within the law. -/
theorem TrimLaw.of_zones {d e : Device} (law : TrimLaw d) (entries : e.tables.zones = d.tables.zones)
    (zones : ∀ z, e.zone z = d.zone z ∨ TrimFits d.tables.zones z (e.zone z)) : TrimLaw e := by
  rw [trimLaw_iff] at law ⊢
  intro z
  rw [entries]
  obtain same | fits := zones z
  · rw [same]; exact law z
  · exact fits

theorem TrimLaw.modifyZone {d : Device} {z : Nat} {f : ZoneRt → ZoneRt} (law : TrimLaw d)
    (kept : ∀ x, (f x).trim = x.trim ∧ (f x).effHum = x.effHum) : TrimLaw (d.modifyZone z f) := by
  refine law.of_zones rfl fun k => ?_
  rw [Device.zone_modify]
  split
  · refine .inr ?_
    obtain ⟨trim, hum⟩ := kept (d.zone k)
    rw [TrimFits, trim, hum]
    exact (trimLaw_iff d).mp law k
  · exact .inl rfl

theorem TrimLaw.raise {d : Device} (law : TrimLaw d) (k : FaultKind) (c : Context) : TrimLaw (d.raise k c) := law

/-! What the zone unit's operations make of a zone within the law. -/

theorem Device.settled_effHum (d : Device) (z : Nat) (x : ZoneRt) : (d.settled z x).effHum ≤ 1000 := Nat.min_le_left _ _

theorem Device.setpoints_effHum (d : Device) (z : Nat) (x : ZoneRt) : (d.setpoints z x).effHum ≤ 1000 := Nat.min_le_left _ _

theorem TrimFits.examined {d : Device} {zones : List ZoneEntry} {z : Nat} {x : ZoneRt} (fits : TrimFits zones z x) :
    TrimFits zones z (d.examined z x) := by
  unfold Device.examined
  split
  · split
    · exact fits
    · exact ⟨fun e _ => Nat.zero_le _, d.settled_effHum z _⟩
  · exact fits

theorem TrimFits.reordered {d : Device} {zones : List ZoneEntry} {profile z : Nat} {x : ZoneRt} (fits : TrimFits zones z x) :
    TrimFits zones z (d.reordered profile z x) := by
  unfold Device.reordered
  split
  · exact ⟨fits.1, d.settled_effHum z x⟩
  · exact fits

/-- A trim within its maximum stays within it (R94). -/
theorem trimmed_le {e : ZoneEntry} {pair : Nat × Nat} {trim : Nat} (h : trim ≤ e.trimMax) : trimmed e pair trim ≤ e.trimMax := by
  unfold trimmed
  split
  · exact Nat.min_le_left _ _
  · split <;> omega

theorem TrimFits.tallied {d : Device} {p : (Nat × Nat) × Nat} {x : ZoneRt} (fits : TrimFits d.tables.zones p.2 x) :
    TrimFits d.tables.zones p.2 (d.tallied p x) := by
  unfold Device.tallied
  split
  · exact fits
  · rename_i entry hentry
    have stepped : TrimFits d.tables.zones p.2
        (if trimmed entry p.1 x.trim = x.trim then { x with tallies := p.1 }
          else d.setpoints p.2 { x with tallies := p.1, trim := trimmed entry p.1 x.trim }) := by
      split
      · exact fits
      · refine ⟨fun e he => ?_, d.setpoints_effHum _ _⟩
        rw [hentry] at he
        cases he
        exact trimmed_le (fits.1 _ hentry)
    split
    · exact stepped
    · exact stepped
    · exact fits
    · exact fits

/-- A run of changes of zones that each keep the law. -/
theorem TrimLaw.foldl {α : Type} {f : Device → α → Device} {idx : α → Nat} {g : α → ZoneRt → ZoneRt} {d : Device}
    (law : TrimLaw d) (step : ∀ e a, OnlyZones d e → f e a = e.modifyZone (idx a) (g a))
    (keeps : ∀ a x, TrimFits d.tables.zones (idx a) x → TrimFits d.tables.zones (idx a) (g a x)) (xs : List α) :
    TrimLaw (xs.foldl f d) := by
  have run (e : Device) (only : OnlyZones d e) (law : TrimLaw e) : TrimLaw (xs.foldl f e) := by
    induction xs generalizing e with
    | nil => exact law
    | cons x xs ih =>
      rw [List.foldl_cons, step e x only]
      refine ih _ (only.modifyZone _ _) (law.of_zones rfl fun k => ?_)
      rw [Device.zone_modify]
      split
      · rename_i h
        have entries : e.tables.zones = d.tables.zones := by rw [only.1]
        rw [h.1, entries]
        exact .inr (keeps x _ (entries ▸ (trimLaw_iff e).mp law _))
      · exact .inl rfl
  exact run d (onlyZones_refl d) law

theorem TrimLaw.adoptions {d : Device} (law : TrimLaw d) : TrimLaw d.adoptions :=
  law.foldl (g := d.examined) (idx := id) (fun e z he => by rw [Device.examineZone_eq, he.1]; rfl)
    (fun _ _ fits => fits.examined) _

theorem TrimLaw.recomputeProfile {d : Device} (law : TrimLaw d) (profile : Nat) : TrimLaw (d.recomputeProfile profile) :=
  law.foldl (g := d.reordered profile) (idx := id) (fun e z he => by rw [recomputeFor_eq, he.1]; rfl)
    (fun _ _ fits => fits.reordered) _

theorem TrimLaw.takeTallies {d : Device} (law : TrimLaw d) (pairs : List (Nat × Nat)) : TrimLaw (d.takeTallies pairs) :=
  law.foldl (g := d.tallied) (idx := Prod.snd) (fun e a he => by rw [takeTally_eq, he.1]; rfl)
    (fun _ _ fits => fits.tallied) _

theorem TrimLaw.zoneAccept {d : Device} (law : TrimLaw d) (zone : Byte) : TrimLaw (zoneAccept zone d).1 := by
  unfold Machine.zoneAccept
  repeat' split
  · exact law.foldl (g := fun _ => d.unlearned) (idx := id) (fun e z he => by rw [Device.acceptZone_eq, he.1]; rfl)
      (fun _ _ fits => fits) _
  · show TrimLaw (d.acceptZone _)
    rw [Device.acceptZone_eq]
    exact law.modifyZone fun _ => ⟨rfl, rfl⟩
  · exact law

theorem TrimLaw.trigger {d : Device} (law : TrimLaw d) (t : Trigger) : TrimLaw (d.trigger t) :=
  law.congr (by simp) (by simp)

theorem TrimLaw.takeOutput {d : Device} (law : TrimLaw d) (z : Nat) (status : OutputStatus) :
    TrimLaw (d.takeOutput z status) := by
  unfold Device.takeOutput
  dsimp only
  split
  · refine TrimLaw.raise ?_ _ _
    exact law.modifyZone fun _ => ⟨rfl, rfl⟩
  · exact law.modifyZone fun _ => ⟨rfl, rfl⟩

theorem TrimLaw.tellMonitor {d : Device} (law : TrimLaw d) (z : Nat) (e : ZoneEntry) (m : Monitor) (t : Transition)
    (reading setpoint band : Nat) : TrimLaw (d.tellMonitor z e m t reading setpoint band) := by
  refine law.congr (by simp) ?_
  unfold Device.tellMonitor
  dsimp only
  split
  · cases t <;> simp
  · rfl

theorem TrimLaw.evaluate {d : Device} (law : TrimLaw d) (z : Nat) (e : ZoneEntry) (m : Monitor) (reading : Nat) :
    TrimLaw (d.evaluate z e m reading) := by
  unfold Device.evaluate
  dsimp only
  split <;> split
  · exact law
  · split
    · exact law
    · refine TrimLaw.tellMonitor ?_ ..
      exact law.modifyZone fun _ => ⟨rfl, rfl⟩
  · exact law
  · split
    · exact law
    · refine TrimLaw.tellMonitor ?_ ..
      exact law.modifyZone fun _ => ⟨rfl, rfl⟩

theorem TrimLaw.monitors {d : Device} (law : TrimLaw d) (z temp hum : Nat) : TrimLaw (d.monitors z temp hum) := by
  unfold Device.monitors
  repeat' split
  · exact law
  · exact law
  · exact (law.evaluate ..).evaluate ..

theorem TrimLaw.takeReply {d : Device} (law : TrimLaw d) (z : Nat) (r : ModuleReply) : TrimLaw (d.takeReply z r).1 := by
  have heard : TrimLaw (d.modifyZone z fun x => { x with misses := 0 }) := law.modifyZone fun _ => ⟨rfl, rfl⟩
  unfold Device.takeReply
  dsimp only
  repeat' split
  · exact heard
  · refine TrimLaw.raise ?_ _ _
    exact heard.modifyZone fun _ => ⟨rfl, rfl⟩
  · refine TrimLaw.takeOutput ?_ _ _
    exact heard.modifyZone fun _ => ⟨rfl, rfl⟩
  · refine TrimLaw.monitors (TrimLaw.takeOutput ?_ _ _) _ _ _
    exact heard.modifyZone fun _ => ⟨rfl, rfl⟩

theorem TrimLaw.nextZone {d : Device} (law : TrimLaw d) (r : Round) (outcome : ReadOutcome) (set : Option Bool) :
    TrimLaw (d.nextZone r outcome set) := by
  obtain ⟨-, h⟩ | ⟨-, h⟩ := d.nextZone_cases r outcome set <;> rw [h]
  · exact law.congr (by simp) (by simp)
  · exact law.congr (by simp) (by simp)

theorem TrimLaw.readReply {d : Device} (law : TrimLaw d) (n : Nat) (r : ModuleReply) : TrimLaw (d.readReply n r) := by
  unfold Device.readReply
  dsimp only
  repeat' split
  · exact law
  · exact (law.takeReply _ r).congr rfl rfl
  · exact (law.takeReply ..).nextZone ..
  · exact law

theorem TrimLaw.miss {d : Device} (law : TrimLaw d) (z : Nat) : TrimLaw (d.miss z) := by
  have counted : TrimLaw ((d.bump .readMisses).modifyZone z fun x => { x with misses := min 3 (x.misses + 1) }) :=
    TrimLaw.modifyZone (d := d.bump .readMisses) law fun _ => ⟨rfl, rfl⟩
  unfold Device.miss
  dsimp only
  split
  · refine TrimLaw.raise ?_ _ _
    exact counted.modifyZone fun _ => ⟨rfl, rfl⟩
  · exact counted

theorem TrimLaw.endSet {d : Device} (law : TrimLaw d) (ok : Bool) : TrimLaw (d.endSet ok) := by
  unfold Device.endSet
  repeat' split
  · exact law
  · exact law
  · exact law.nextZone ..

theorem TrimLaw.runOut {d : Device} (law : TrimLaw d) : TrimLaw d.runOut := by
  refine (trimLaw_iff _).mpr fun z => ?_
  rw [Device.zone_runOut]
  have fits := (trimLaw_iff d).mp law z
  split
  · exact fits
  · exact fits

/-! The layout. -/

/-- A zone that a ZONE_LAYOUT write of either shape does not carry keeps its entry (R89). -/
theorem newLayout_uncarried {zones new out : List ZoneEntry} {start z : Nat} (h : newLayout zones start new = some out)
    (uncarried : ¬(start ≤ z ∧ z < start + new.length)) (hz : z < out.length) : out[z]? = zones[z]? := by
  unfold newLayout at h
  split at h <;> split at h <;> cases h
  · rename_i start0 _
    subst start0
    exact absurd ⟨Nat.zero_le z, by omega⟩ uncarried
  · rename_i fits
    rw [replaceAt_length fits.2] at hz
    simp only [replaceAt]
    rcases Nat.lt_or_ge z start with before | after
    · rw [List.append_assoc, List.getElem?_append_left (by rw [List.length_take]; omega),
        List.getElem?_take_of_lt before]
    · have past : start + new.length ≤ z := by omega
      rw [List.getElem?_append_right (by rw [List.length_append, List.length_take]; omega), List.getElem?_drop]
      congr 1
      rw [List.length_append, List.length_take]
      omega

/-- A zone within the law comes out of a ZONE_LAYOUT write within the new layout's law (R90). -/
theorem TrimFits.relaid {d : Device} {old : List ZoneEntry} {carried : Nat → Bool} {z : Nat} {x : ZoneRt}
    (fits : TrimFits old z x) (hz : z < d.tables.zones.length)
    (uncarried : carried z = false → d.tables.zones[z]? = old[z]?) :
    TrimFits d.tables.zones z (d.relaid old carried z x) := by
  obtain ⟨trim, hum⟩ := fits
  have entry : d.tables.zones[z]? = some (d.tables.zones.getD z default) := by
    simp [List.getD_eq_getElem?_getD, List.getElem?_eq_getElem hz]
  unfold Device.relaid
  dsimp only
  split
  · exact ⟨fun e _ => Nat.zero_le _, d.settled_effHum z _⟩
  · split
    · refine ⟨fun e he => ?_, d.setpoints_effHum z _⟩
      rw [entry] at he
      cases he
      exact le_rfl
    · rename_i low
      cases hc : carried z with
      | true =>
        refine ⟨fun e he => ?_, by simpa using hum⟩
        rw [entry] at he
        cases he
        simpa [hc] using low
      | false =>
        refine ⟨fun e he => ?_, by simpa using hum⟩
        simpa using trim e (uncarried hc ▸ he)

theorem TrimLaw.setLayout {d : Device} {zones : List ZoneEntry} {carried : Nat → Bool} (law : TrimLaw d)
    (uncarried : ∀ z, z < zones.length → carried z = false → zones[z]? = d.tables.zones[z]?) :
    TrimLaw (d.setLayout zones carried) := by
  have relaid (e : Device) (entries : e.tables.zones = zones) (before : ∀ z, TrimFits d.tables.zones z (e.zone z)) :
      TrimLaw ((List.range zones.length).foldl (relayZone d.tables.zones carried) e) := by
    refine (trimLaw_iff _).mpr fun z => ?_
    obtain ⟨only, relaid⟩ := zone_relay d.tables.zones carried e zones.length z
    have kept : ((List.range zones.length).foldl (relayZone d.tables.zones carried) e).tables.zones = e.tables.zones := by
      rw [only.1]
    rw [kept, relaid]
    split
    · rename_i inside
      exact (before z).relaid (entries ▸ inside.1) fun hc => entries ▸ uncarried z inside.1 hc
    · rename_i outside
      rw [entries]
      rcases Nat.lt_or_ge z zones.length with hl | hl
      · have out : e.climate.zones.length ≤ z := Nat.le_of_not_lt fun h => outside ⟨hl, h⟩
        have none : e.zone z = default := by simp [Device.zone, List.getD_eq_getElem?_getD, List.getElem?_eq_none out]
        rw [none]
        exact ⟨fun e _ => Nat.zero_le _, Nat.zero_le _⟩
      · exact ⟨fun e he => absurd (List.getElem?_eq_none hl ▸ he) nofun, (before z).2⟩
  exact (relaid (d.runOut.setTables fun t => { t with zones := zones }) rfl ((trimLaw_iff d.runOut).mp law.runOut)).runOut

theorem TrimLaw.zoneLayoutWrite {d : Device} (law : TrimLaw d) (start count : Nat) (entries : List Byte) :
    TrimLaw (zoneLayoutWrite start count entries d).1 := by
  unfold Machine.zoneLayoutWrite
  dsimp only
  repeat' split
  case h_2 =>
    rename_i zones hz _ _ _ _ _
    refine law.setLayout fun z inside hc => newLayout_uncarried hz ?_ inside
    rw [List.length_map, readEntries_length]
    simpa using hc
  all_goals exact law

theorem TrimLaw.tunnelOwn {d : Device} (law : TrimLaw d) (values : List (List (List Nat))) : TrimLaw (tunnelOwn values d).1 := by
  have moved (length : Nat) : TrimLaw (d.setLength length) := by
    refine (trimLaw_iff _).mpr fun z => ⟨fun e he => ?_, ((trimLaw_iff d).mp law z).2⟩
    have entry : (endAt (length - 1) d.tables.zones)[z]? = some e := he
    rw [endAt, List.getElem?_modify, Option.map_eq_map, Option.map_eq_some_iff] at entry
    obtain ⟨e', he', rfl⟩ := entry
    have fits := ((trimLaw_iff d).mp law z).1 e' he'
    split <;> exact fits
  unfold Machine.tunnelOwn
  dsimp only
  repeat' split
  all_goals first
    | exact law
    | exact moved _

theorem trimLaw_powered {stored : Option StoredCopy} (pa ca pb cb : Bool) : TrimLaw (powered stored pa ca pb cb) := by
  obtain ⟨-, tables, -, -, -, -, -, -, -, -, zones, -⟩ := powered_frame stored pa ca pb cb
  refine TrimLaw.congr (d := freshDevice ((usable stored).getD defaultTables) stored) (by rw [tables]) zones
    ((trimLaw_iff _).mpr fun z => ?_)
  have fresh : (freshDevice ((usable stored).getD defaultTables) stored).zone z = default
      ∨ (freshDevice ((usable stored).getD defaultTables) stored).zone z = freshZone ((usable stored).getD defaultTables) z := by
    simp only [Device.zone, freshDevice, List.getD_eq_getElem?_getD, List.getElem?_map]
    rcases Nat.lt_or_ge z 12 with h | h
    · exact .inr (by simp [List.getElem?_range h])
    · exact .inl (by simp [List.getElem?_eq_none, h])
  obtain h | h := fresh <;> rw [h]
  · exact ⟨fun e _ => Nat.zero_le _, Nat.zero_le _⟩
  · exact ⟨fun e _ => Nat.zero_le _, Nat.min_le_left _ _⟩

/-- A write of another table. -/
theorem TrimLaw.written {d : Device} {i : Instr} {α : Type} (law : TrimLaw d) (set : α → Tables → Tables)
    (tables : ∃ v, (effect i d).tables = set v d.tables) (kept : ∀ v, (set v d.tables).zones = d.tables.zones)
    (zones : (effect i d).climate.zones = d.climate.zones) : TrimLaw (effect i d) := by
  obtain ⟨v, h⟩ := tables
  exact law.congr (by rw [h, kept v]) zones

theorem TrimLaw.effect {d : Device} (law : TrimLaw d) (i : Instr) : TrimLaw (effect i d) := by
  have timed (t : Nat) : TrimLaw { d with time := t } := law
  by_cases free : [Block.tables, .climate].any (touched i).contains = false
  · simp only [List.any_cons, List.any_nil, Bool.or_eq_false_iff] at free
    obtain ⟨tables, climate, -⟩ := free
    exact law.congr (by rw [effect_tables tables]) (by rw [effect_climate climate])
  · cases i <;> first | exact absurd rfl free | skip
    case powerUp => exact trimLaw_powered _ _ _ _
    case tableWriteTunnel tag start count entries =>
      show TrimLaw (writeTable ..).1
      obtain h | ⟨-, -, -, h⟩ := writeTable_cases tunnelSpec 1 start.toNat count.toNat entries Machine.tunnelOwn d <;> rw [h]
      · exact law
      · exact law.tunnelOwn _
    case tableWriteZoneLayout => exact law.zoneLayoutWrite _ _ _
    case tableWriteProfile =>
      exact law.written (fun v t => { t with profiles := v }) (effect_profile_tables _ _ _ _ d) (fun _ => rfl) (by rw [effect_climate rfl])
    case tableWriteFormatMap =>
      exact law.written (fun v t => { t with formatMap := v }) (effect_formatMap_tables _ _ _ _ d) (fun _ => rfl) (by rw [effect_climate rfl])
    case tableWriteLanes =>
      exact law.written (fun v t => { t with lanes := v }) (effect_lanes_tables _ _ _ _ d) (fun _ => rfl) (by rw [effect_climate rfl])
    case tableWriteDisposition =>
      exact law.written (fun v t => { t with dispositions := v }) (effect_disposition_tables _ _ _ _ d) (fun _ => rfl) (by rw [effect_climate rfl])
    case tableWritePacing =>
      exact law.written (fun v t => { t with pacing := v }) (effect_pacing_tables _ _ _ _ d) (fun _ => rfl) (by rw [effect_climate rfl])
    case tableWriteSampling =>
      exact law.written (fun v t => { t with sampling := v }) (effect_sampling_tables _ _ _ _ d) (fun _ => rfl)
        (writeTable_keeps (fun e : Device => e.climate.zones) fun _ => rfl)
    case tableWriteFaultSettings =>
      exact law.written (fun v t => { t with faults := v }) (effect_faults_tables _ _ _ _ d) (fun _ => rfl) (by rw [effect_climate rfl])
    case tableWriteDieSettings =>
      exact law.written (fun v t => { t with die := v }) (effect_die_tables _ _ _ _ d) (fun _ => rfl) (by rw [effect_climate rfl])
    case tableWriteGaugeSettings =>
      exact law.written (fun v t => { t with gauge := v }) (effect_gauge_tables _ _ _ _ d) (fun _ => rfl) (by rw [effect_climate rfl])
    case tableWriteSpreaderSettings =>
      exact law.written (fun v t => { t with spreader := v }) (effect_spreader_tables _ _ _ _ d) (fun _ => rfl) (by rw [effect_climate rfl])
    case tableWriteAccumulatorSettings =>
      exact law.written (fun v t => { t with acc := v }) (effect_acc_tables _ _ _ _ d) (fun _ => rfl) (by rw [effect_climate rfl])
    case shiftDoneReport late =>
      have reported : TrimLaw ((d.take (.shiftDone late)).shiftReported late) := law.congr (by simp) (by simp)
      show TrimLaw ((d.take (.shiftDone late)).shiftReported late).adoptions.examineGauge.advanceTrigger
      exact TrimLaw.congr (d := ((d.take (.shiftDone late)).shiftReported late).adoptions) (by simp) (by simp) reported.adoptions
    case periodicTimerExpiry =>
      exact expire_induct (deadline := some d.periodicDeadline) law fun t _ =>
        TrimLaw.trigger (d := { d with time := max d.time t, climate := { d.climate with periodicFrom := max d.time t } }) law _
    case sampleNow =>
      show TrimLaw (sampleNow d).1
      unfold sampleNow
      split
      · exact law
      · exact law.congr (by simp) (by simp)
    case readReply => exact law.readReply _ _
    case readLimitExpiry =>
      refine expire_induct law fun t _ => ?_
      unfold Device.readExpired
      split
      · exact ((timed _).miss _).nextZone ..
      · exact timed _
    case setReply =>
      show TrimLaw (d.setReply _ _)
      unfold Device.setReply
      repeat' split
      · exact law
      · exact law.endSet _
      · exact law
    case setLimitExpiry => exact expire_induct law fun t _ => (timed _).endSet _
    case settleTimerRunOut => exact expire_induct law fun t _ => (timed _).modifyZone fun _ => ⟨rfl, rfl⟩
    case setpointRecomputeOrder => exact TrimLaw.recomputeProfile (d := d.take _) law _
    case talliesHanded => exact TrimLaw.takeTallies (d := d.take _) law _
    case zoneAccept => exact law.zoneAccept _

theorem trimLaw_kept {s t : State} (h : step s = .next t) (law : TrimLaw s.dev) : TrimLaw t.dev := by
  refine step_keeps (fun d e same law => ?_) (fun i _ law => law.effect i) h law
  obtain ⟨rods, -⟩ := same
  exact law.congr (by rw [rods]) (by rw [rods])

/-- Settles O56, from the two laws' own developments. -/
theorem layoutAndTrimLawsKept : Obligations.LayoutAndTrimLawsKept := by
  unfold Obligations.LayoutAndTrimLawsKept
  exact fun s t h => ⟨tunnelLaw_kept h, trimLaw_kept h⟩

end Sys2Proof.Machine
end

section
/-! SUPPORT. The rod-id allocator (R6), and the ids that the part's records hold, holder by holder. -/

namespace Sys2Proof.Machine

/-! The allocator. -/

theorem nextId_iterate (i last : Nat) : nextId^[i + 1] last = (last + i) % 65535 + 1 := by
  induction i with
  | zero => rfl
  | succ i ih =>
    rw [Function.iterate_succ_apply', ih, nextId]
    omega

/-- An allocator that answers a live id has found every value it tried live (R6). -/
theorem live_of_firstFree_mem {live : List Nat} {n last : Nat} (h : firstFree live n last ∈ live) :
    ∀ i ≤ n, nextId^[i + 1] last ∈ live := by
  induction n generalizing last with
  | zero =>
    intro i hi
    rw [Nat.le_zero.mp hi]
    exact h
  | succ n ih =>
    unfold firstFree at h
    split at h
    · rename_i first
      intro i hi
      cases i with
      | zero => exact first
      | succ i => exact ih h i (Nat.le_of_succ_le_succ hi)
    · rename_i first
      exact absurd h first

/-- With fewer live records than ids, the id the allocator assigns is no live record's (R6). -/
theorem Device.freeId_not_mem {d : Device} (few : d.liveIds.length < 65535) : d.freeId ∉ d.liveIds := by
  intro h
  have all := live_of_firstFree_mem h
  have inj : Set.InjOn (fun i => nextId^[i + 1] d.track.lastId) (Finset.range (d.liveIds.length + 1)) := by
    intro i hi j hj same
    simp only [Finset.coe_range, Set.mem_Iio] at hi hj
    simp only [nextId_iterate] at same
    omega
  have card := Finset.card_le_card_of_injOn _ (t := d.liveIds.toFinset)
    (fun i hi => List.mem_toFinset.mpr (all i (Nat.le_of_lt_succ (Finset.mem_range.mp hi)))) inj
  rw [Finset.card_range] at card
  have le := List.toFinset_card_le d.liveIds
  omega

theorem firstFree_range (live : List Nat) (n last : Nat) : 1 ≤ firstFree live n last ∧ firstFree live n last ≤ 65535 := by
  have next (id : Nat) : 1 ≤ nextId id ∧ nextId id ≤ 65535 := by unfold nextId; omega
  induction n generalizing last with
  | zero => exact next last
  | succ n ih =>
    unfold firstFree
    split
    · exact ih _
    · exact next last

theorem Device.freeId_range (d : Device) : 1 ≤ d.freeId ∧ d.freeId ≤ 65535 := firstFree_range ..

/-! The ids by holder. -/

/-- The id of the record at a position, if there is one. -/
def Content.ids (c : Content) : Multiset Nat :=
  match c with
  | .loaded r => {r.id}
  | .empty | .gap | .unknown => 0

/-- The id of the staged record, if there is one. -/
def Slot.ids (s : Slot) : Multiset Nat :=
  match s with
  | .loaded r => {r.id}
  | .none | .loading | .emptyStaged => 0

/-- The ids of the records in a lane. -/
def LaneRt.ids (l : LaneRt) : Multiset Nat := (l.records.map Rod.id : List Nat)

/-- The id of the record in the strip slot, if there is one. -/
def stripIds (s : Option StripSlot) : Multiset Nat := (s.map (fun s => s.rod.id)).toList

/-- The ids of all live records, as many times as they are held. -/
def Device.ids (d : Device) : Multiset Nat :=
  d.spread.slot.ids + (d.track.positions.map Content.ids).sum + (d.acc.lanes.map LaneRt.ids).sum + stripIds d.acc.slot

theorem coe_filterMap_rod_ids (cs : List Content) :
    (((cs.filterMap Content.rod?).map Rod.id : List Nat) : Multiset Nat) = (cs.map Content.ids).sum := by
  induction cs with
  | nil => rfl
  | cons c cs ih =>
    rw [List.map_cons, List.sum_cons, ← ih]
    cases c <;> simp [List.filterMap_cons, Content.rod?, Content.ids]

theorem coe_flatten_ids (ls : List LaneRt) :
    ((((ls.map LaneRt.records).flatten).map Rod.id : List Nat) : Multiset Nat) = (ls.map LaneRt.ids).sum := by
  induction ls with
  | nil => rfl
  | cons l ls ih =>
    rw [List.map_cons, List.flatten_cons, List.map_append, List.map_cons, List.sum_cons, ← ih]
    rfl

/-- The ids by holder are the live ids (R4). -/
theorem Device.coe_liveIds (d : Device) : (d.liveIds : Multiset Nat) = d.ids := by
  have staged : (d.spread.slot.rod?.toList.map Rod.id : List Nat) = d.spread.slot.ids := by
    cases d.spread.slot <;> rfl
  have strip : ((d.acc.slot.map StripSlot.rod).toList.map Rod.id : List Nat) = stripIds d.acc.slot := by
    cases d.acc.slot <;> rfl
  rw [Device.liveIds, Device.liveRods, List.map_append, List.map_append, List.map_append]
  rw [← Multiset.coe_add, ← Multiset.coe_add, ← Multiset.coe_add, staged, coe_filterMap_rod_ids, coe_flatten_ids, strip]
  rfl

theorem Device.card_ids (d : Device) : d.ids.card = d.liveIds.length := by
  rw [← d.coe_liveIds, Multiset.coe_card]

/-! Sums over the lanes. -/

theorem Device.lanes_eq (d : Device) : d.acc.lanes = (List.range d.acc.lanes.length).map d.lane := by
  refine List.ext_getElem (by simp) fun i hi _ => ?_
  simp [Device.lane, List.getD_eq_getElem?_getD, List.getElem?_eq_getElem hi]

/-- Where one lane alone weighs otherwise than it did, the lanes together do so by as much. -/
theorem sum_lanes_change {M : Type} [AddCommMonoid M] (g : LaneRt → M) {d e : Device} {l : Nat}
    (length : e.acc.lanes.length = d.acc.lanes.length) (hl : l < d.acc.lanes.length)
    (others : ∀ k, k ≠ l → g (e.lane k) = g (d.lane k)) :
    (e.acc.lanes.map g).sum + g (d.lane l) = (d.acc.lanes.map g).sum + g (e.lane l) := by
  have sum (x : Device) : (x.acc.lanes.map g).sum = ∑ k ∈ Finset.range x.acc.lanes.length, g (x.lane k) := by
    conv_lhs => rw [x.lanes_eq, List.map_map]
    rfl
  have rest : ∑ k ∈ (Finset.range d.acc.lanes.length).erase l, g (e.lane k)
      = ∑ k ∈ (Finset.range d.acc.lanes.length).erase l, g (d.lane k) :=
    Finset.sum_congr rfl fun k hk => others k (Finset.ne_of_mem_erase hk)
  have mem := Finset.mem_range.mpr hl
  rw [sum, sum, length, ← Finset.add_sum_erase _ _ mem, ← Finset.add_sum_erase _ (fun k => g (d.lane k)) mem, rest]
  ac_rfl

/-- A change of one lane changes a sum over the lanes by that lane's change. -/
theorem sum_modifyLane {M : Type} [AddCommMonoid M] (g : LaneRt → M) {d : Device} {l : Nat} {f : LaneRt → LaneRt}
    (hl : l < d.acc.lanes.length) :
    ((d.modifyLane l f).acc.lanes.map g).sum + g (d.lane l) = (d.acc.lanes.map g).sum + g (f (d.lane l)) := by
  have change := sum_lanes_change g (d := d) (e := d.modifyLane l f) (by simp) hl fun k hk => by
    rw [Device.lane_modifyLane, if_neg fun h => hk h.1]
  rwa [Device.lane_modifyLane, if_pos ⟨rfl, hl⟩] at change

/-- A change that leaves what is summed of each lane leaves the sum. -/
theorem sum_modifyLane_same {M : Type} [AddCommMonoid M] (g : LaneRt → M) {d : Device} {l : Nat} {f : LaneRt → LaneRt}
    (same : ∀ x, g (f x) = g x) : ((d.modifyLane l f).acc.lanes.map g).sum = (d.acc.lanes.map g).sum := by
  congr 1
  refine List.ext_getElem (by simp) fun i hi _ => ?_
  simp only [Device.modifyLane, List.getElem_map, List.getElem_modify]
  split
  · exact same _
  · rfl

end Sys2Proof.Machine
end

section
/-! SUPPORT. The accounts of rods under a chain move: the inventory count against the rods of every place, with the rod that a
shift holds in its hand between the tunnel and where it goes; and the ids of the records, with the record in hand. -/

namespace Sys2Proof.Machine

/-! The accounts. -/

/-- The law on inventory with `k` rods in hand: rods that the count includes and no place holds (R17). -/
structure Books (k : ZMod size32) (d : Device) : Prop where
  four : d.acc.lanes.length = 4
  load : d.spread.load.isSome → d.spread.slot = .loading
  strip : d.acc.stripper = .idle → d.acc.slot = none
  move : ∀ m l, d.pace.inFlight = some m → m.reservation = some l → l < 4
  accounted : d.track.established = true → Accounted d
  balance : d.track.established = true → (d.track.inventory : ZMod size32) = d.rodSum + k

theorem inventoryLaw_iff (d : Device) : InventoryLaw d ↔ Books 0 d := by
  constructor
  · rintro ⟨four, load, strip, move, counted⟩
    refine ⟨four, load, strip, move, fun h => (counted h).1, fun h => ?_⟩
    rw [add_zero]
    exact (ZMod.natCast_eq_natCast_iff' ..).mpr (counted h).2
  · rintro ⟨four, load, strip, move, accounted, balance⟩
    refine ⟨four, load, strip, move, fun h => ⟨accounted h, ?_⟩⟩
    have sum := balance h
    rw [add_zero] at sum
    exact (ZMod.natCast_eq_natCast_iff' ..).mp sum

/-- The accounts with a number of rods in hand that is the same. -/
theorem Books.cast {j k : ZMod size32} {d : Device} (books : Books k d) (h : d.track.established = true → k = j) :
    Books j d :=
  ⟨books.four, books.load, books.strip, books.move, books.accounted, fun e => by rw [books.balance e, h e]⟩

/-! What is counted. -/

/-- The rods in the strip slot. -/
def stripCount (s : Option StripSlot) : Nat := if s.isSome then 1 else 0

/-- The rods in the staged slot, one under way in a load among them. -/
def slotCount (s : Slot) : Nat := if s = .none then 0 else 1

/-- The records in the lanes. -/
def laneCount (ls : List LaneRt) : Nat := (ls.map fun l => l.records.length).sum

theorem Device.rodSum_eq (d : Device) : d.rodSum = d.track.positions.countP Content.holdsRod + laneCount d.acc.lanes
    + stripCount d.acc.slot + slotCount d.spread.slot + d.acc.returnCount + d.track.spill := rfl

theorem Content.holdsRod_eq (c : Content) : c.holdsRod = decide (c.mark.1 ≤ 1) := by cases c <;> rfl

theorem Content.ids_eq (c : Content) : c.ids = if c.mark.1 = 0 then {c.mark.2} else 0 := by cases c <;> rfl

theorem Content.eq_unknown_iff (c : Content) : c = .unknown ↔ c.mark.1 = 3 := by cases c <;> simp [Content.mark]

theorem Slot.eq_none_iff (s : Slot) : s = .none ↔ s.mark.1 = 1 := by cases s <;> simp [Slot.mark]

theorem Slot.eq_loading_iff (s : Slot) : s = .loading ↔ s.mark.1 = 2 := by cases s <;> simp [Slot.mark]

theorem Slot.ids_eq (s : Slot) : s.ids = if s.mark.1 = 0 then {s.mark.2} else 0 := by cases s <;> rfl

theorem slotCount_of_mark {a b : Slot} (h : a.mark = b.mark) : slotCount a = slotCount b := by
  simp only [slotCount, Slot.eq_none_iff, h]

/-- What is determined by the marks of two lists' entries agrees on lists with the same marks. -/
theorem map_of_marks {α β γ : Type} {mark : α → β} {f : α → γ} (determined : ∀ a b, mark a = mark b → f a = f b)
    {xs ys : List α} (same : xs.map mark = ys.map mark) : xs.map f = ys.map f := by
  induction xs generalizing ys with
  | nil => rw [List.map_nil, eq_comm, List.map_eq_nil_iff] at same; rw [same]
  | cons x xs ih =>
    cases ys with
    | nil => cases same
    | cons y ys =>
      simp only [List.map_cons, List.cons.injEq] at same ⊢
      exact ⟨determined x y same.1, ih same.2⟩

theorem Alike.holdsRod {d e : Device} (same : Alike d e) :
    e.track.positions.countP Content.holdsRod = d.track.positions.countP Content.holdsRod := by
  have bits := map_of_marks (f := Content.holdsRod) (fun a b h => by rw [a.holdsRod_eq, b.holdsRod_eq, h]) same.positions
  have count (xs : List Content) : xs.countP Content.holdsRod = (xs.map Content.holdsRod).count true := by
    rw [List.count, List.countP_map]
    exact List.countP_congr fun c _ => by simp
  rw [count, count, bits]

theorem Alike.strip_isSome {d e : Device} (same : Alike d e) : e.acc.slot.isSome = d.acc.slot.isSome := by
  simpa using congrArg Option.isSome same.strip

theorem Alike.rodSum {d e : Device} (same : Alike d e) : e.rodSum = d.rodSum := by
  have lanes := map_of_marks (mark := LaneRt.mark) (f := fun l => l.records.length)
    (fun a b h => by simpa [LaneRt.mark] using congrArg (fun m => m.2.2.length) h) same.lanes
  rw [Device.rodSum_eq, same.holdsRod, laneCount, lanes, stripCount, same.strip_isSome, slotCount_of_mark same.slot,
    same.returned, same.spill]
  rfl

theorem Alike.ids {d e : Device} (same : Alike d e) : e.ids = d.ids := by
  have lanes := map_of_marks (mark := LaneRt.mark) (f := LaneRt.ids)
    (fun a b h => congrArg (fun m => (m.2.2 : Multiset Nat)) h) same.lanes
  have positions := map_of_marks (f := Content.ids) (fun a b h => by rw [a.ids_eq, b.ids_eq, h]) same.positions
  rw [Device.ids, Slot.ids_eq, same.slot, ← Slot.ids_eq, positions, lanes, stripIds, same.strip]
  rfl

theorem Alike.accounted {d e : Device} (same : Alike d e) (h : Accounted d) : Accounted e := by
  obtain ⟨known, declared, returned⟩ := h
  have bits := map_of_marks (f := fun c => decide (c = Content.unknown))
    (fun a b h => by simp only [Content.eq_unknown_iff, h]) same.positions
  have flags := map_of_marks (mark := LaneRt.mark) (f := LaneRt.declared) (fun a b h => congrArg Prod.fst h) same.lanes
  refine ⟨fun c hc hu => ?_, fun l hl => ?_, same.returnDeclared ▸ returned⟩
  · have mem : true ∈ e.track.positions.map fun c => decide (c = Content.unknown) :=
      List.mem_map.mpr ⟨c, hc, by simp [hu]⟩
    rw [bits] at mem
    obtain ⟨c', hc', hu'⟩ := List.mem_map.mp mem
    exact known c' hc' (by simpa using hu')
  · have mem : l.declared ∈ e.acc.lanes.map LaneRt.declared := List.mem_map.mpr ⟨l, hl, rfl⟩
    rw [flags] at mem
    obtain ⟨l', hl', same'⟩ := List.mem_map.mp mem
    rw [← same']
    exact declared l' hl'

theorem Books.alike {k : ZMod size32} {d e : Device} (same : Alike d e) (books : Books k d) : Books k e := by
  obtain ⟨four, load, strip, move, accounted, balance⟩ := books
  refine ⟨?_, fun h => by rw [Slot.eq_loading_iff, same.slot, ← Slot.eq_loading_iff]; exact load (same.load ▸ h), fun h => ?_,
    fun m l hm => move m l (same.move ▸ hm), fun h => same.accounted (accounted (same.established ▸ h)), fun h => ?_⟩
  · have length := congrArg List.length same.lanes
    rw [List.length_map, List.length_map] at length
    rw [length, four]
  · have none := same.strip
    rw [strip (same.stripper ▸ h), Option.map_none, Option.map_eq_none_iff] at none
    exact none
  · rw [same.inventory, same.rodSum, balance (same.established ▸ h)]

theorem Books.blocks {k : ZMod size32} {d e : Device} (books : Books k d) (tables : e.tables = d.tables)
    (stored : e.stored = d.stored) (write : e.link.storeWrite = d.link.storeWrite) (track : e.track = d.track)
    (move : e.pace.inFlight = d.pace.inFlight) (acc : e.acc = d.acc) (slot : e.spread.slot = d.spread.slot)
    (load : e.spread.load = d.spread.load) : Books k e :=
  books.alike (alike_of_blocks tables stored write track move acc slot load)

/-- A difference that is held modulo `n` is the difference modulo `n`. -/
theorem cast_sub_mod {n : Nat} (pos : 0 < n) (a b : Nat) : (((a + n - b % n) % n : Nat) : ZMod n) = a - b := by
  have small : b % n ≤ a + n := (Nat.mod_lt b pos).le.trans (Nat.le_add_left ..)
  rw [ZMod.natCast_mod, Nat.cast_sub small, ZMod.natCast_mod, Nat.cast_add, ZMod.natCast_self, add_zero]

/-! The accounts under each operation. -/

section Operations
variable {k : ZMod size32} {d : Device}

/-- A fill decision moves a rod from the return buffer to the slot (R137). -/
theorem rodSum_fill (d : Device) : d.fill.rodSum = d.rodSum := by
  obtain h | ⟨slot, -, some, ⟨i, -, -, -, h⟩ | ⟨-, -, h⟩⟩ := d.fill_cases <;> rw [h]
  · have staged : slotCount .loading = slotCount .none + 1 := rfl
    simp only [Device.rodSum_eq, Device.drawRod, Device.startLoad, Device.send, slot, staged]
    omega
  · have staged : slotCount .emptyStaged = slotCount .none + 1 := rfl
    simp only [Device.rodSum_eq, Device.drawRod, slot, staged]
    omega

theorem Books.fill (books : Books k d) : Books k d.fill := by
  obtain ⟨four, load, strip, move, accounted, balance⟩ := books
  refine ⟨by rw [Device.fill_acc]; exact four, fun h => ?_, by rw [Device.fill_acc]; exact strip,
    by simpa using move, fun h => ?_, fun h => ?_⟩
  · obtain e | ⟨slot, -, -, ⟨i, -, -, -, e⟩ | ⟨-, -, e⟩⟩ := d.fill_cases <;> rw [e] at h ⊢
    · exact load h
    · rfl
    · exact absurd (slot ▸ load h) nofun
  · obtain ⟨known, declared, returned⟩ := accounted (by simpa using h)
    exact ⟨by simpa using known, by rw [Device.fill_acc]; exact declared, by rw [Device.fill_acc]; exact returned⟩
  · rw [rodSum_fill]
    simpa using balance (by simpa using h)

/-- One rod goes to spill (R18). -/
theorem Books.spillRod (books : Books k d) : Books (k - 1) d.spillRod := by
  obtain ⟨four, load, strip, move, accounted, balance⟩ := books
  refine ⟨four, load, strip, move, accounted, fun h => ?_⟩
  have sum : (d.spillRod.rodSum : ZMod size32) = d.rodSum + 1 := by
    simp only [Device.rodSum_eq, Device.spillRod]
    push_cast
    rw [ZMod.natCast_mod]
    push_cast
    ring
  rw [sum]
  have old : (d.track.inventory : ZMod size32) = d.rodSum + k := balance h
  show (d.track.inventory : ZMod size32) = _
  rw [old]
  ring

/-- An empty rod comes home, to the return buffer or to spill (R163). -/
theorem Books.returnRod (books : Books k d) (c : Context) : Books (k - 1) (d.returnRod c) := by
  obtain ⟨-, -, h⟩ | ⟨-, h⟩ := d.returnRod_cases c <;> rw [h]
  · refine Books.fill ?_
    obtain ⟨four, load, strip, move, accounted, balance⟩ := books
    refine ⟨four, load, strip, move, accounted, fun h => ?_⟩
    have sum : (({ d with acc := { d.acc with returnCount := d.acc.returnCount + 1 } } : Device).rodSum : ZMod size32)
        = d.rodSum + 1 := by
      simp only [Device.rodSum_eq]
      push_cast
      ring
    rw [sum]
    show (d.track.inventory : ZMod size32) = _
    rw [balance h]
    ring
  · exact books.spillRod.alike (alike_raise _ _ _)

/-- A change of a lane that keeps its flag changes the sum of rods by its records. -/
theorem Books.modifyLane (books : Books k d) {l : Nat} {f : LaneRt → LaneRt} (declared : ∀ x, (f x).declared = x.declared)
    {j : ZMod size32} (sum : ((d.modifyLane l f).rodSum : ZMod size32) = d.rodSum + j) : Books (k - j) (d.modifyLane l f) := by
  obtain ⟨four, load, strip, move, accounted, balance⟩ := books
  refine ⟨by simpa using four, load, strip, move, fun h => ?_, fun h => ?_⟩
  · obtain ⟨known, flags, returned⟩ := accounted h
    refine ⟨known, fun x hx => ?_, returned⟩
    have kept := sum_modifyLane_same (fun x => if x.declared then 0 else 1) (d := d) (l := l) (f := f)
      fun x => by rw [declared]
    have old : (d.acc.lanes.map fun x => if x.declared then 0 else 1).sum = 0 :=
      List.sum_eq_zero fun n hn => by
        obtain ⟨y, hy, rfl⟩ := List.mem_map.mp hn
        rw [if_pos (flags y hy)]
    rw [old] at kept
    by_contra undeclared
    have mem : (if x.declared then 0 else 1) ∈ (d.modifyLane l f).acc.lanes.map fun x => if x.declared then 0 else 1 :=
      List.mem_map.mpr ⟨x, hx, rfl⟩
    have zero := List.sum_eq_zero_iff.mp kept _ mem
    rw [if_neg undeclared] at zero
    cases zero
  · rw [sum]
    show (d.track.inventory : ZMod size32) = _
    rw [balance h]
    ring

theorem Books.joinLane (books : Books k d) {l : Nat} (hl : l < 4) (reserved : Bool) (r : Rod) :
    Books (k - 1) (d.joinLane reserved l r) := by
  have joined : Books (k - 1) (d.modifyLane l (LaneRt.join reserved r)) := by
    refine books.modifyLane (f := LaneRt.join reserved r) (j := 1) (fun _ => rfl) ?_
    have sum : laneCount (d.modifyLane l (LaneRt.join reserved r)).acc.lanes + (d.lane l).records.length
        = laneCount d.acc.lanes + ((d.lane l).records ++ [r]).length :=
      sum_modifyLane (fun x => x.records.length) (f := LaneRt.join reserved r) (books.four.symm ▸ hl)
    have one : laneCount (d.modifyLane l (LaneRt.join reserved r)).acc.lanes = laneCount d.acc.lanes + 1 := by
      rw [List.length_append, List.length_singleton] at sum
      omega
    rw [Device.rodSum_eq, one, d.rodSum_eq]
    simp only [Device.modifyLane]
    push_cast
    ring
  exact joined.blocks rfl rfl rfl rfl rfl rfl rfl rfl

/-- A change of a lane's reservations leaves the accounts. -/
theorem Books.modifyReservations (books : Books k d) (l : Nat) {f : LaneRt → LaneRt}
    (kept : ∀ x, (f x).declared = x.declared ∧ (f x).records = x.records) : Books k (d.modifyLane l f) := by
  refine Books.cast (k := k - 0) (books.modifyLane (fun x => (kept x).1) ?_) fun _ => sub_zero k
  have sum : laneCount (d.modifyLane l f).acc.lanes = laneCount d.acc.lanes :=
    sum_modifyLane_same (fun x => x.records.length) fun x => by rw [(kept x).2]
  rw [Device.rodSum_eq, sum, add_zero]
  rfl

theorem Books.releaseReservation (books : Books k d) (l : Option Nat) : Books k (d.releaseReservation l) := by
  cases l with
  | none => exact books
  | some l => exact books.modifyReservations l fun _ => ⟨rfl, rfl⟩

theorem Books.dischargeFree (books : Books k d) (disp : Disposition) (l : Nat) (r : Rod) :
    Books (k - 1) (d.dischargeFree disp l r) := by
  unfold Device.dischargeFree
  split
  · rename_i room
    obtain ⟨declared, -⟩ := Device.hasRoom_iff.mp room
    exact books.joinLane (books.four ▸ Device.lt_of_declared declared) _ _
  · exact books.spillRod.alike (alike_notify _ _)

theorem Books.dischargeUntracked (books : Books k d) : Books (k - 1) d.dischargeUntracked :=
  Books.dischargeFree (d := d.assignId) ⟨books.four, books.load, books.strip, books.move, books.accounted, books.balance⟩ ..

@[simp] theorem Device.inventoryAdd_spill (n : Nat) (d : Device) : (d.inventoryAdd n).track.spill = d.track.spill := by
  rw [Device.inventoryAdd_only]

@[simp] theorem Device.inventorySub_spill (n : Nat) (d : Device) : (d.inventorySub n).track.spill = d.track.spill := by
  rw [Device.inventorySub_only]

theorem rodSum_inventoryAdd (n : Nat) (d : Device) : (d.inventoryAdd n).rodSum = d.rodSum := by
  simp [Device.rodSum_eq]

theorem rodSum_inventorySub (n : Nat) (d : Device) : (d.inventorySub n).rodSum = d.rodSum := by
  simp [Device.rodSum_eq]

theorem Books.inventoryAdd (books : Books k d) (n : Nat) : Books (k + n) (d.inventoryAdd n) := by
  obtain ⟨four, load, strip, move, accounted, balance⟩ := books
  have sum := rodSum_inventoryAdd n d
  rw [Device.inventoryAdd_only] at sum ⊢
  refine ⟨four, load, strip, move, accounted, fun h => ?_⟩
  rw [sum]
  dsimp only at h ⊢
  rw [if_pos h, ZMod.natCast_mod]
  push_cast
  rw [balance h]
  ring

theorem Books.inventorySub (books : Books k d) (n : Nat) : Books (k - n) (d.inventorySub n) := by
  obtain ⟨four, load, strip, move, accounted, balance⟩ := books
  have sum := rodSum_inventorySub n d
  rw [Device.inventorySub_only] at sum ⊢
  refine ⟨four, load, strip, move, accounted, fun h => ?_⟩
  rw [sum]
  dsimp only at h ⊢
  rw [if_pos h, cast_sub_mod (by decide), balance h]
  ring

/-- A grant takes a rod from its lane into the strip slot of an IDLE stripper (R156). -/
theorem Books.accEnd (books : Books k d) (freed : Bool) : Books k (d.accEnd freed) := by
  have freeing : Books k (if freed then d.post (.retry .freePlace) else d) := by
    split
    · exact books.blocks rfl rfl rfl rfl rfl rfl rfl rfl
    · exact books
  obtain ⟨e, grant, h⟩ | ⟨-, h⟩ := d.accEnd_cases freed <;> rw [h]
  · refine Books.alike (alike_of_blocks (d := e) rfl rfl rfl rfl rfl rfl rfl rfl) ?_
    obtain ⟨l, r, rest, gate, hl, head, slot, stripping, idle, length, returned, returnDeclared, lanes⟩ := Device.grant_lanes grant
    obtain ⟨-, -, -, track, pace, -, -, spread, -⟩ := Device.grant_frame grant
    obtain ⟨four, load, strip, move, accounted, balance⟩ := books
    have sum : laneCount e.acc.lanes + (d.lane l).records.length = laneCount d.acc.lanes + (e.lane l).records.length :=
      sum_lanes_change (fun x => x.records.length) length hl fun j hj => by
        obtain ⟨credit, hlane⟩ := lanes j
        rw [hlane]
        simp [hj]
    obtain ⟨credit, hlane⟩ := lanes l
    rw [hlane, head] at sum
    simp only [if_true, List.length_cons] at sum
    refine ⟨length.trans four, spread ▸ load, fun h => absurd (stripping.symm.trans h) nofun, pace ▸ move,
      fun h => ?_, fun h => ?_⟩
    · obtain ⟨known, declared, home⟩ := accounted (track ▸ h)
      refine ⟨track ▸ known, fun x hx => ?_, returnDeclared ▸ home⟩
      rw [e.lanes_eq] at hx
      obtain ⟨j, hj, rfl⟩ := List.mem_map.mp hx
      obtain ⟨credit, hlane⟩ := lanes j
      have inside : j < d.acc.lanes.length := length ▸ List.mem_range.mp hj
      rw [hlane]
      refine declared (d.lane j) ?_
      simp only [Device.lane, List.getD_eq_getElem?_getD, List.getElem?_eq_getElem inside, Option.getD_some]
      exact List.getElem_mem inside
    · have total : e.rodSum = d.rodSum := by
        have gained : stripCount (some ⟨r, l, gate⟩) = stripCount none + 1 := rfl
        rw [Device.rodSum_eq, d.rodSum_eq, track, spread, slot, returned, strip idle, gained]
        omega
      rw [total, track]
      exact balance (track ▸ h)
  · exact freeing

theorem Books.establish (books : Books 0 d) : Books 0 d.establish := by
  obtain h | ⟨-, complete, h⟩ := d.establish_cases <;> rw [h]
  · exact books
  · refine Books.alike (alike_notify _ _) ⟨books.four, books.load, books.strip, books.move, fun _ => ?_, fun _ => ?_⟩
    · simp only [Device.complete, Bool.and_eq_true, List.all_eq_true] at complete
      obtain ⟨⟨known, declared⟩, returned⟩ := complete
      refine ⟨fun c hc hu => ?_, declared, returned⟩
      rw [Bool.not_eq_eq_eq_not, Bool.not_true, List.any_eq_false] at known
      exact known c hc (by simp [hu])
    · rw [add_zero]
      exact ZMod.natCast_mod _ _

/-! The shift. -/

/-- The rods that a content is, in hand (R9). -/
def Content.inHand (c : Content) : ZMod size32 := if c.holdsRod then 1 else 0

theorem dropLast_append_exitContent (ne : d.track.positions ≠ []) :
    d.track.positions.dropLast ++ [d.exitContent] = d.track.positions := by
  have last : d.exitContent = d.track.positions.getLast ne := by
    rw [Device.exitContent, List.getLast?_eq_some_getLast ne]
    rfl
  rw [last]
  exact List.dropLast_concat_getLast ne

theorem exitContent_mem (ne : d.track.positions ≠ []) : d.exitContent ∈ d.track.positions := by
  rw [← dropLast_append_exitContent ne]
  simp

/-- The tunnel moves on by one: the staged rod enters it, and the exit content is in hand (R7, R144). -/
theorem Books.advance (books : Books 0 d) (ne : d.track.positions ≠ []) : Books d.exitContent.inHand d.advance := by
  have moved : Books d.exitContent.inHand { d with
      track := { d.track with positions := d.spread.slot.delivery d.tables.zones.length :: d.track.positions.dropLast }
      spread := { d.spread with slot := d.spread.slot.afterDelivery, hold := false } } := by
    obtain ⟨four, load, strip, move, accounted, balance⟩ := books
    refine ⟨four, fun h => ?_, strip, move, fun h => ?_, fun h => ?_⟩
    · show d.spread.slot.afterDelivery = .loading
      rw [load h]
      rfl
    · obtain ⟨known, declared, returned⟩ := accounted h
      refine ⟨fun c hc => ?_, declared, returned⟩
      rcases List.mem_cons.mp hc with rfl | hc
      · cases d.spread.slot <;> exact nofun
      · exact known c (List.dropLast_subset _ hc)
    · have split : d.track.positions.countP Content.holdsRod
          = d.track.positions.dropLast.countP Content.holdsRod + if d.exitContent.holdsRod then 1 else 0 := by
        conv_lhs => rw [← dropLast_append_exitContent ne]
        simp [List.countP_append, List.countP_cons]
      have staged : (if (d.spread.slot.delivery d.tables.zones.length).holdsRod then 1 else 0)
          + slotCount d.spread.slot.afterDelivery = slotCount d.spread.slot := by
        cases d.spread.slot <;> rfl
      show (d.track.inventory : ZMod size32) = _
      rw [balance h, d.rodSum_eq, split, ← staged, Device.rodSum_eq, List.countP_cons, Content.inHand]
      push_cast
      ring
  simp only [Device.advance]
  split
  · exact Books.fill (moved.blocks rfl rfl rfl rfl rfl rfl rfl rfl)
  · exact moved.fill

/-- Reconciliation puts the rod in hand where it goes, and counts what was not expected (R9 to R15). -/
theorem Books.reconcile {o : ShiftOrder} {c : Content} (books : Books c.inHand d)
    (known : d.track.established = true → c ≠ .unknown) (reserved : ∀ l, o.reservation = some l → l < 4) :
    Books 0 (d.reconcile o c) := by
  have raised {e : Device} {j : ZMod size32} (b : Books j e) (k : FaultKind) (x : Context) : Books j (e.raise k x) :=
    b.alike (alike_raise _ _ _)
  cases c with
  | loaded r =>
    replace books : Books 1 d := books
    have closed (out : CloseOutcome) (q : Rod) : Books 1 (d.closeRod out q) := books.alike (alike_notify _ _)
    simp only [Device.reconcile, Device.reconcileLoaded]
    split
    · split
      · rename_i l hl
        exact (books.joinLane (reserved l hl) _ _).cast fun _ => sub_self 1
      · exact (books.dischargeFree _ _ _).cast fun _ => sub_self 1
    · exact raised ((((closed _ _).returnRod _).releaseReservation _).cast fun _ => sub_self 1) _ _
    · exact ((raised ((closed _ _).releaseReservation _) _ _).inventorySub 1).cast fun _ => by simp
  | empty =>
    replace books : Books 1 d := books
    simp only [Device.reconcile, Device.reconcileEmpty]
    split
    · exact (books.returnRod _).cast fun _ => sub_self 1
    · exact raised (books.dischargeUntracked.cast fun _ => sub_self 1) _ _
    · exact raised ((books.inventorySub 1).cast fun _ => by simp) _ _
  | gap =>
    replace books : Books 0 d := books
    simp only [Device.reconcile, Device.reconcileGap]
    split
    · exact books
    · exact raised (((books.returnRod _).inventoryAdd 1).cast fun _ => by simp) _ _
    · exact raised ((books.dischargeUntracked.inventoryAdd 1).cast fun _ => by simp) _ _
  | unknown =>
    replace books : Books 0 d := books
    have lost {e : Device} (b : Books (0 - 1) e) (same : e.track.established = d.track.established) : Books 0 e :=
      b.cast fun h => absurd rfl (known (same ▸ h))
    simp only [Device.reconcile, Device.reconcileUnknown]
    split
    · exact books
    · refine lost (books.returnRod _) ?_
      obtain ⟨-, -, h⟩ | ⟨-, h⟩ := d.returnRod_cases (moveContext o.move) <;> rw [h] <;> simp
    · refine lost books.dischargeUntracked ?_
      unfold Device.dischargeUntracked Device.dischargeFree
      dsimp only
      split <;> simp

theorem Books.shift {o : ShiftOrder} (books : Books 0 d) (ne : d.track.positions ≠ [])
    (reserved : ∀ l, o.reservation = some l → l < 4) : Books 0 (d.shift o) := by
  refine Books.establish (Books.accEnd (Books.reconcile (books.advance ne) (fun h => ?_) reserved) _)
  obtain ⟨known, -⟩ := books.accounted (by simpa using h)
  exact known _ (exitContent_mem ne)

end Operations

/-- The laws on the tunnel and on inventory together are a law on rods. -/
theorem books_rods : RodLaw fun d => TunnelLaw d ∧ Books 0 d where
  alike same law := ⟨law.1.alike same, law.2.alike same⟩
  fill law := ⟨tunnelLaw_rods.fill law.1, law.2.fill⟩
  reserve {d} kind law := by
    refine ⟨tunnelLaw_rods.reserve kind law.1, ?_⟩
    obtain ⟨-, books⟩ := law
    obtain ⟨r, l, -, -, room, h⟩ | ⟨r, -, -, h⟩ | ⟨-, h⟩ := d.reserveAndMove_cases kind <;> rw [h]
    · obtain ⟨declared, -⟩ := Device.hasRoom_iff.mp room
      obtain ⟨four, load, strip, -, accounted, balance⟩ := books.modifyReservations l (f := LaneRt.reserve) fun _ => ⟨rfl, rfl⟩
      refine ⟨four, load, strip, fun m k hm hr => ?_, accounted, balance⟩
      cases hm
      cases hr
      exact books.four ▸ Device.lt_of_declared declared
    · exact books
    · obtain ⟨four, load, strip, -, accounted, balance⟩ := books
      refine ⟨four, load, strip, fun m k hm hr => ?_, accounted, balance⟩
      cases hm
      cases hr
  unmoved law moving := by
    refine ⟨tunnelLaw_rods.unmoved law.1 moving, ?_⟩
    obtain ⟨four, load, strip, -, accounted, balance⟩ := law.2.releaseReservation _
    exact ⟨four, load, strip, nofun, accounted, balance⟩
  shift seen law moving _ same := by
    refine ⟨tunnelLaw_rods.shift seen law.1 moving same, ?_⟩
    have ended : TunnelLaw _ := law.1.congr (e := Device.endMove _) rfl rfl rfl rfl rfl
    refine Books.shift (Books.alike same ?_) (ended.alike same).positions_ne_nil fun l hl => law.2.move _ l moving hl
    exact ⟨law.2.four, law.2.load, law.2.strip, nofun, law.2.accounted, law.2.balance⟩
  lateShift n seen law :=
    ⟨tunnelLaw_rods.lateShift n seen law.1, law.2.shift law.1.positions_ne_nil nofun⟩

end Sys2Proof.Machine
end

section
/-! SUPPORT. The ids of the records under a chain move, with the record that a shift holds in hand (R6), and the number of
records that can be live at once. -/

namespace Sys2Proof.Machine

/-! The law on lanes is a law on rods. -/

theorem Alike.lane {d e : Device} (same : Alike d e) (k : Nat) : (e.lane k).mark = (d.lane k).mark := by
  have entry := congrArg (fun xs => xs[k]?.getD (default : LaneRt).mark) same.lanes
  simp only [List.getElem?_map] at entry
  simp only [Device.lane, List.getD_eq_getElem?_getD]
  cases he : e.acc.lanes[k]? <;> cases hd : d.acc.lanes[k]? <;> rw [he, hd] at entry <;> exact entry

theorem LaneRt.load_of_mark {a b : LaneRt} (h : a.mark = b.mark) : a.load = b.load := by
  simp only [LaneRt.mark, Prod.mk.injEq] at h
  have records := congrArg List.length h.2.2
  rw [List.length_map, List.length_map] at records
  rw [LaneRt.load, records, h.2.1, LaneRt.load]

theorem LaneLaw.alike {d e : Device} (same : Alike d e) (law : LaneLaw d) : LaneLaw e := by
  have four : e.acc.lanes.length = d.acc.lanes.length := by simpa using congrArg List.length same.lanes
  refine law.of_le four same.tables same.stored same.write (fun m h => same.move ▸ h) fun k => ?_
  have lane := same.lane k
  exact ⟨congrArg Prod.fst lane, (congrArg (fun m => m.2.1) lane).ge, (LaneRt.load_of_mark lane).le⟩

theorem ShiftOrder.Reserved.alike {o : ShiftOrder} {d e : Device} (same : Alike d e) (h : o.Reserved d) : o.Reserved e := by
  refine h.imp_right fun ⟨ended, held⟩ => ⟨same.move.trans ended, fun l hl => ?_⟩
  have lane := congrArg (fun m : Bool × Nat × List Nat => m.2.1) (same.lane l)
  obtain ⟨small, one⟩ := held l hl
  exact ⟨small, one.trans lane.ge⟩

theorem laneLaw_rods : RodLaw LaneLaw where
  alike same law := law.alike same
  fill law := law.fill
  reserve kind law := law.reserveAndMove kind
  unmoved {d m} law moving := by
    have released : LaneLaw (Device.releaseReservation m.reservation d.endMove) :=
      LaneLaw.release (law.endMove moving).1 (.inr rfl)
    generalize m.reservation = l at released ⊢
    cases l <;> exact released.congr rfl rfl rfl rfl rfl
  shift seen law moving _ same := by
    obtain ⟨ended, reserved⟩ := law.endMove moving
    exact (ended.alike same).shift ((reserved seen).alike same)
  lateShift n seen law := law.shift (.inl rfl)

/-! How many records can be live. -/

theorem card_sum_ids_le (cs : List Content) : (cs.map Content.ids).sum.card ≤ cs.length := by
  induction cs with
  | nil => exact le_rfl
  | cons c cs ih =>
    have one : c.ids.card ≤ 1 := by cases c <;> simp [Content.ids]
    rw [List.map_cons, List.sum_cons, Multiset.card_add, List.length_cons]
    omega

theorem card_lane_ids (ls : List LaneRt) : (ls.map LaneRt.ids).sum.card = laneCount ls := by
  induction ls with
  | nil => rfl
  | cons l ls ih =>
    have one : l.ids.card = l.records.length := by simp [LaneRt.ids]
    rw [List.map_cons, List.sum_cons, Multiset.card_add, ih, one]
    rfl

/-- The lanes hold no more records than their capacities sum to (R148). -/
theorem LaneLaw.laneCount_le {d : Device} (law : LaneLaw d) : laneCount d.acc.lanes ≤ 240 := by
  obtain ⟨four, ⟨entries, sum⟩, -, fit, -⟩ := law
  have capacities : d.tables.lanes.map LaneEntry.capacity = (List.range 4).map fun l => (d.laneEntry l).capacity := by
    refine List.ext_getElem (by simp [entries]) fun i hi _ => ?_
    simp only [List.length_map] at hi
    simp [Device.laneEntry, List.getD_eq_getElem?_getD, List.getElem?_eq_getElem hi]
  rw [capacities] at sum
  rw [laneCount, d.lanes_eq, four, List.map_map]
  refine le_trans (List.sum_le_sum fun l hl => ?_) sum
  have le := (fit l (List.mem_range.mp hl)).1
  exact (Nat.le_add_right ..).trans le

/-- Far fewer records are live than there are ids (R6). -/
theorem few_live {d : Device} (tunnel : TunnelLaw d) (lanes : LaneLaw d) : d.liveIds.length ≤ 1778 := by
  obtain ⟨⟨-, high, -⟩, size, -⟩ := tunnel
  have slot : d.spread.slot.ids.card ≤ 1 := by cases d.spread.slot <;> simp [Slot.ids]
  have strip : (stripIds d.acc.slot).card ≤ 1 := by cases d.acc.slot <;> simp [stripIds]
  have positions := card_sum_ids_le d.track.positions
  have held := lanes.laneCount_le
  rw [← d.card_ids, Device.ids]
  simp only [Multiset.card_add, card_lane_ids]
  omega

/-! The law on ids, with records in hand. -/

/-- The law on rod ids with records in hand (R6). -/
def Ids (hand : Multiset Nat) (d : Device) : Prop :=
  (hand + d.ids).Nodup ∧ ∀ id ∈ hand + d.ids, 1 ≤ id ∧ id ≤ 65535

theorem idLaw_iff (d : Device) : IdLaw d ↔ Ids 0 d := by
  simp only [IdLaw, Ids, zero_add, ← d.coe_liveIds, Multiset.coe_nodup, Multiset.mem_coe]

theorem Ids.of_le {h j : Multiset Nat} {d e : Device} (ids : Ids h d) (le : j + e.ids ≤ h + d.ids) : Ids j e :=
  ⟨Multiset.nodup_of_le le ids.1, fun id hid => ids.2 id (Multiset.mem_of_le le hid)⟩

theorem Ids.same {h : Multiset Nat} {d e : Device} (ids : Ids h d) (same : e.ids = d.ids) : Ids h e :=
  ids.of_le (by rw [same])

/-- A record in hand that goes nowhere (R5). -/
theorem Ids.drop {h : Multiset Nat} {d : Device} (ids : Ids h d) : Ids 0 d :=
  ids.of_le (by rw [zero_add]; exact Multiset.le_add_left ..)

/-- A record takes a fresh id (R6). -/
theorem Ids.assign {d : Device} (ids : Ids 0 d) (few : d.liveIds.length < 65535) : Ids {d.freeId} d := by
  obtain ⟨distinct, range⟩ := ids
  rw [zero_add] at distinct range
  have fresh : d.freeId ∉ d.ids := by
    rw [← d.coe_liveIds, Multiset.mem_coe]
    exact Device.freeId_not_mem few
  rw [Ids, Multiset.singleton_add]
  refine ⟨Multiset.nodup_cons.mpr ⟨fresh, distinct⟩, fun id hid => ?_⟩
  rcases Multiset.mem_cons.mp hid with rfl | hid
  · exact d.freeId_range
  · exact range id hid

section Operations
variable {d : Device} {h : Multiset Nat}

theorem Ids.alike {e : Device} (same : Alike d e) (ids : Ids h d) : Ids h e := ids.same same.ids

theorem ids_fill (d : Device) : d.fill.ids = d.ids := by
  obtain h | ⟨slot, -, -, ⟨i, -, -, -, h⟩ | ⟨-, -, h⟩⟩ := d.fill_cases <;> rw [h]
  · rw [Device.ids, Device.ids, slot]
    rfl
  · rw [Device.ids, Device.ids, slot]
    rfl

theorem ids_returnRod (c : Context) (d : Device) : (d.returnRod c).ids = d.ids := by
  obtain ⟨-, -, h⟩ | ⟨-, h⟩ := d.returnRod_cases c <;> rw [h]
  · exact ids_fill _
  · rfl

theorem ids_modifyLane_same (l : Nat) {f : LaneRt → LaneRt} (kept : ∀ x, (f x).records = x.records) (d : Device) :
    (d.modifyLane l f).ids = d.ids := by
  have sum := sum_modifyLane_same LaneRt.ids (d := d) (l := l) (f := f) fun x => by rw [LaneRt.ids, kept, LaneRt.ids]
  rw [Device.ids, sum]
  rfl

theorem ids_releaseReservation (l : Option Nat) (d : Device) : (d.releaseReservation l).ids = d.ids := by
  cases l with
  | none => rfl
  | some l => exact ids_modifyLane_same l (f := LaneRt.release) (fun _ => rfl) d

/-- A change of a lane that adds no other record than one adds no other id. -/
theorem ids_modifyLane_le {l : Nat} {f : LaneRt → LaneRt} {id : Nat} (adds : ∀ x, (f x).ids ≤ x.ids + {id}) :
    (d.modifyLane l f).ids ≤ {id} + d.ids := by
  rcases Nat.lt_or_ge l d.acc.lanes.length with hl | hl
  · have sum := sum_modifyLane LaneRt.ids (f := f) hl
    have grown : ((d.modifyLane l f).acc.lanes.map LaneRt.ids).sum ≤ (d.acc.lanes.map LaneRt.ids).sum + {id} := by
      refine (add_le_add_iff_right (d.lane l).ids).mp ?_
      rw [sum, add_assoc, add_comm ({id} : Multiset Nat)]
      exact add_le_add_right (adds _) _
    calc (d.modifyLane l f).ids
        = (d.spread.slot.ids + (d.track.positions.map Content.ids).sum + ((d.modifyLane l f).acc.lanes.map LaneRt.ids).sum)
          + stripIds d.acc.slot := rfl
      _ ≤ (d.spread.slot.ids + (d.track.positions.map Content.ids).sum + ((d.acc.lanes.map LaneRt.ids).sum + {id}))
          + stripIds d.acc.slot := by gcongr
      _ = {id} + d.ids := by rw [Device.ids]; abel
  · have same : d.modifyLane l f = d := by
      rw [Device.modifyLane, List.modify_eq_self (by omega)]
    rw [same]
    exact Multiset.le_add_left ..

/-- A change of a lane that adds no other record than one in hand. -/
theorem Ids.modifyLane {l : Nat} {f : LaneRt → LaneRt} {id : Nat} (ids : Ids {id} d)
    (adds : ∀ x, (f x).ids ≤ x.ids + {id}) : Ids 0 (d.modifyLane l f) :=
  ids.of_le (by rw [zero_add]; exact ids_modifyLane_le adds)

theorem Ids.joinLane {r : Rod} (ids : Ids {r.id} d) (reserved : Bool) (l : Nat) {q : Rod} (same : q.id = r.id) :
    Ids 0 (d.joinLane reserved l q) := by
  have joined : Ids 0 (d.modifyLane l (LaneRt.join reserved q)) :=
    ids.modifyLane fun x => by simp [LaneRt.ids, LaneRt.join, same, ← Multiset.coe_add]
  exact joined.same rfl

theorem Ids.dischargeFree {r : Rod} (ids : Ids {r.id} d) (disp : Disposition) (l : Nat) :
    Ids 0 (d.dischargeFree disp l r) := by
  unfold Device.dischargeFree
  split
  · exact ids.joinLane _ _ rfl
  · exact (ids.drop.same (e := d.spillRod) rfl).alike (alike_notify _ _)

/-- A rod seen where no record was held takes a fresh id (R15). -/
theorem Ids.dischargeUntracked (ids : Ids 0 d) (few : d.liveIds.length < 65535) : Ids 0 d.dischargeUntracked :=
  Ids.dischargeFree (d := d.assignId) (r := d.untracked d.freeId none) ((ids.assign few).same rfl) _ _

/-- A grant takes a record from its lane into the strip slot (R156). -/
theorem Ids.accEnd (ids : Ids 0 d) (freed : Bool) : Ids 0 (d.accEnd freed) := by
  obtain ⟨e, grant, h⟩ | ⟨-, h⟩ := d.accEnd_cases freed <;> rw [h]
  · obtain ⟨l, r, rest, gate, hl, head, slot, -, -, length, -, -, lanes⟩ := Device.grant_lanes grant
    obtain ⟨-, -, -, track, -, -, -, spread, -⟩ := Device.grant_frame grant
    have moved : (e.acc.lanes.map LaneRt.ids).sum + {r.id} = (d.acc.lanes.map LaneRt.ids).sum := by
      have sum := sum_lanes_change LaneRt.ids length hl fun j hj => by
        obtain ⟨credit, hlane⟩ := lanes j
        rw [hlane]
        simp [hj, LaneRt.ids]
      obtain ⟨credit, hlane⟩ := lanes l
      have before : (d.lane l).ids = {r.id} + (e.lane l).ids := by
        rw [hlane]
        simp [LaneRt.ids, head]
      rw [before, ← add_assoc] at sum
      exact add_right_cancel sum
    refine Ids.same (d := e) (ids.of_le ?_) rfl
    rw [zero_add, zero_add, Device.ids, Device.ids, track, spread, slot, ← moved]
    calc d.spread.slot.ids + (d.track.positions.map Content.ids).sum + (e.acc.lanes.map LaneRt.ids).sum + {r.id}
        = d.spread.slot.ids + (d.track.positions.map Content.ids).sum + ((e.acc.lanes.map LaneRt.ids).sum + {r.id}) :=
          add_assoc ..
      _ ≤ _ := Multiset.le_add_right ..
  · split
    · exact ids.same rfl
    · exact ids

theorem ids_inventoryAdd (n : Nat) (d : Device) : (d.inventoryAdd n).ids = d.ids := by simp [Device.ids]

theorem ids_inventorySub (n : Nat) (d : Device) : (d.inventorySub n).ids = d.ids := by simp [Device.ids]

theorem ids_establish (d : Device) : d.establish.ids = d.ids := by simp [Device.ids]

theorem Slot.ids_delivery (zones : Nat) (s : Slot) : (s.delivery zones).ids + s.afterDelivery.ids = s.ids := by
  cases s <;> rfl

/-- The tunnel moves on by one, and the record of the exit content is in hand (R7). -/
theorem ids_advance (d : Device) : d.exitContent.ids + d.advance.ids = d.ids := by
  have moved : d.exitContent.ids + ({ d with
      track := { d.track with positions := d.spread.slot.delivery d.tables.zones.length :: d.track.positions.dropLast }
      spread := { d.spread with slot := d.spread.slot.afterDelivery, hold := false } } : Device).ids = d.ids := by
    have exits : (d.track.positions.dropLast.map Content.ids).sum + d.exitContent.ids
        = (d.track.positions.map Content.ids).sum := by
      rcases eq_or_ne d.track.positions [] with none | ne
      · simp [Device.exitContent, none, Content.ids]
      · conv_rhs => rw [← dropLast_append_exitContent ne]
        simp
    rw [Device.ids, Device.ids, ← Slot.ids_delivery d.tables.zones.length d.spread.slot, ← exits]
    simp only [List.map_cons, List.sum_cons]
    abel
  simp only [Device.advance]
  rw [ids_fill]
  split <;> exact moved

/-- Reconciliation puts the record in hand where it goes, and gives a rod it did not expect a fresh id (R9 to R15). -/
theorem Ids.reconcile {o : ShiftOrder} {c : Content} (ids : Ids c.ids d) (few : d.liveIds.length < 65535) :
    Ids 0 (d.reconcile o c) := by
  have raised {e : Device} (x : Ids 0 e) (k : FaultKind) (ctx : Context) : Ids 0 (e.raise k ctx) := x.same rfl
  cases c with
  | loaded r =>
    have closed (out : CloseOutcome) (q : Rod) : Ids 0 (d.closeRod out q) := ids.drop.alike (alike_notify _ _)
    simp only [Device.reconcile, Device.reconcileLoaded]
    split
    · split
      · exact ids.joinLane _ _ rfl
      · exact ids.dischargeFree _ _
    · exact raised (((closed _ _).same (ids_returnRod ..)).same (ids_releaseReservation ..)) _ _
    · exact (raised ((closed _ _).same (ids_releaseReservation ..)) _ _).same (ids_inventorySub ..)
  | empty =>
    replace ids : Ids 0 d := ids
    simp only [Device.reconcile, Device.reconcileEmpty]
    split
    · exact ids.same (ids_returnRod ..)
    · exact raised (ids.dischargeUntracked few) _ _
    · exact raised (ids.same (ids_inventorySub ..)) _ _
  | gap =>
    replace ids : Ids 0 d := ids
    simp only [Device.reconcile, Device.reconcileGap]
    split
    · exact ids
    · exact raised ((ids.same (ids_returnRod ..)).same (ids_inventoryAdd ..)) _ _
    · exact raised ((ids.dischargeUntracked few).same (ids_inventoryAdd ..)) _ _
  | unknown =>
    replace ids : Ids 0 d := ids
    simp only [Device.reconcile, Device.reconcileUnknown]
    split
    · exact ids
    · exact ids.same (ids_returnRod ..)
    · exact ids.dischargeUntracked few

theorem Ids.shift (ids : Ids 0 d) (few : d.liveIds.length < 65535) (o : ShiftOrder) : Ids 0 (d.shift o) := by
  have fewer : d.advance.liveIds.length < 65535 := by
    have card := congrArg Multiset.card (ids_advance d)
    rw [Multiset.card_add, Device.card_ids, Device.card_ids] at card
    omega
  have inHand : Ids d.exitContent.ids d.advance := ids.of_le (by rw [ids_advance, zero_add])
  exact ((inHand.reconcile fewer).accEnd _).same (ids_establish _)

end Operations

/-- The laws on the tunnel, the lanes and rod ids together are a law on rods. -/
theorem ids_rods : RodLaw fun d => (TunnelLaw d ∧ LaneLaw d) ∧ Ids 0 d where
  alike same law := ⟨⟨law.1.1.alike same, law.1.2.alike same⟩, law.2.alike same⟩
  fill law := ⟨⟨tunnelLaw_rods.fill law.1.1, law.1.2.fill⟩, law.2.same (ids_fill _)⟩
  reserve {d} kind law := by
    refine ⟨⟨tunnelLaw_rods.reserve kind law.1.1, laneLaw_rods.reserve kind law.1.2⟩, law.2.same ?_⟩
    obtain ⟨r, l, -, -, -, h⟩ | ⟨r, -, -, h⟩ | ⟨-, h⟩ := d.reserveAndMove_cases kind <;> rw [h]
    · exact ids_modifyLane_same l (f := LaneRt.reserve) (fun _ => rfl) d
    · rfl
  unmoved law moving :=
    ⟨⟨tunnelLaw_rods.unmoved law.1.1 moving, laneLaw_rods.unmoved law.1.2 moving⟩, law.2.same (ids_releaseReservation ..)⟩
  shift {d} m seen law moving e same := by
    refine ⟨⟨tunnelLaw_rods.shift seen law.1.1 moving same, laneLaw_rods.shift seen law.1.2 moving same⟩, ?_⟩
    have few := few_live law.1.1 law.1.2
    have ids : e.ids = d.ids := same.ids
    have card : e.liveIds.length < 65535 := by rw [← Device.card_ids, ids, Device.card_ids]; omega
    exact (law.2.same ids).shift card _
  lateShift n seen law := by
    refine ⟨⟨tunnelLaw_rods.lateShift n seen law.1.1, laneLaw_rods.lateShift n seen law.1.2⟩, law.2.shift ?_ _⟩
    have few := few_live law.1.1 law.1.2
    omega

end Sys2Proof.Machine
end

section
/-! SUPPORT. The laws on inventory (R17) and on rod ids (R6) under the commands that write tables or the store, and under those
that bring rods into or out of the part; every step keeps both. -/

namespace Sys2Proof.Machine

/-! Commands that touch the rods by a fill decision or a grant only. -/

/-- A law that sees nothing but where the rods are, and is kept by a fill decision and a grant. -/
structure PlaceLaw (P : Device → Prop) : Prop where
  same : ∀ {d e : Device}, e.track = d.track → e.pace.inFlight = d.pace.inFlight → e.acc.lanes = d.acc.lanes →
    e.acc.slot = d.acc.slot → e.acc.stripper = d.acc.stripper → e.acc.returnCount = d.acc.returnCount →
    e.acc.returnDeclared = d.acc.returnDeclared → e.spread.slot = d.spread.slot → e.spread.load = d.spread.load → P d → P e
  fill : ∀ {d : Device}, P d → P d.fill
  accEnd : ∀ {d : Device} (freed : Bool), P d → P (d.accEnd freed)

/-- The commands that write the store or a table other than TUNNEL, and the strip pause. -/
def keepsPlaces (i : Instr) : Bool :=
  match i with
  | .store .. | .storeWriteEnd .. | .storeLimitExpiry | .stripPause .. | .stripResume .. => true
  | .tableWriteProfile .. | .tableWriteFormatMap .. | .tableWriteFaultSettings .. | .tableWriteDieSettings ..
  | .tableWriteGaugeSettings .. | .tableWriteZoneLayout .. | .tableWriteSampling .. | .tableWriteLanes ..
  | .tableWriteDisposition .. | .tableWriteAccumulatorSettings .. | .tableWritePacing ..
  | .tableWriteSpreaderSettings .. => true
  | _ => false

section Places
variable {P : Device → Prop} {d : Device}

theorem PlaceLaw.blocks (places : PlaceLaw P) {e : Device} (h : P d) (track : e.track = d.track)
    (move : e.pace.inFlight = d.pace.inFlight) (acc : e.acc = d.acc) (spread : e.spread = d.spread) : P e :=
  places.same track move (by rw [acc]) (by rw [acc]) (by rw [acc]) (by rw [acc]) (by rw [acc]) (by rw [spread])
    (by rw [spread]) h

theorem PlaceLaw.elsewhere (places : PlaceLaw P) {i : Instr}
    (free : [Block.track, .pace, .spread, .acc].any (touched i).contains = false) (h : P d) : P (effect i d) := by
  simp only [List.any_cons, List.any_nil, Bool.or_eq_false_iff] at free
  obtain ⟨track, pace, spread, acc, -⟩ := free
  exact places.same (effect_track track d) (by rw [effect_pace pace]) (by rw [effect_acc acc]) (by rw [effect_acc acc])
    (by rw [effect_acc acc]) (by rw [effect_acc acc]) (by rw [effect_acc acc]) (by rw [effect_spread spread])
    (by rw [effect_spread spread]) h

theorem writeTable_induct {specs : List FieldSpec} {size start count : Nat} {entries : List Byte}
    {own : List (List (List Nat)) → Device → Device × Answer} (h : P d) (keeps : ∀ values, P (own values d).1) :
    P (writeTable specs size start count entries own d).1 := by
  obtain e | ⟨-, -, -, e⟩ := writeTable_cases specs size start count entries own d <;> rw [e]
  · exact h
  · exact keeps _

theorem PlaceLaw.effect (places : PlaceLaw P) {i : Instr} (hi : keepsPlaces i = true) (h : P d) : P (effect i d) := by
  have set (f : Tables → Tables) : P (d.setTables f) := places.blocks h rfl rfl rfl rfl
  have pause (paused : Bool) : P ((d.setPause paused).accEnd false) :=
    places.accEnd _ (places.same (d := d) rfl rfl rfl rfl rfl rfl rfl rfl rfl h)
  cases i <;> first
    | exact nomatch (show false = true from hi)
    | exact places.elsewhere rfl h
    | skip
  case tableWriteLanes =>
    refine writeTable_induct h fun values => ?_
    unfold lanesOwn
    dsimp only
    split
    · exact h
    · split
      · exact h
      · exact places.accEnd _ (set _)
  case tableWriteDisposition =>
    refine writeTable_induct h fun values => ?_
    unfold dispositionOwn
    dsimp only
    split
    · exact h
    · exact places.accEnd _ (set _)
  case tableWriteAccumulatorSettings =>
    refine writeTable_induct h fun values => ?_
    unfold accSettingsOwn
    dsimp only
    split
    · exact h
    · exact places.accEnd _ (set _)
  case tableWritePacing =>
    refine writeTable_induct h fun values => ?_
    unfold pacingOwn
    dsimp only
    split
    · exact places.blocks h rfl rfl rfl rfl
    · exact set _
  case tableWriteSpreaderSettings =>
    refine writeTable_induct h fun values => ?_
    unfold spreaderSettingsOwn Device.fillIf
    dsimp only
    split
    · exact places.fill (set _)
    · exact set _
  case stripPause => exact pause true
  case stripResume => exact pause false

end Places

/-! The accounts. -/

theorem books_places : PlaceLaw (Books 0) where
  same track move lanes slot stripper returned declared staged load books := by
    have marks : ∀ {d e : Device}, e.track = d.track → e.acc.lanes = d.acc.lanes → e.acc.slot = d.acc.slot →
        e.acc.returnCount = d.acc.returnCount → e.spread.slot = d.spread.slot → e.rodSum = d.rodSum := by
      intro d e track lanes slot returned staged
      rw [Device.rodSum_eq, track, lanes, slot, staged, returned]
      rfl
    refine ⟨lanes ▸ books.four, fun h => staged ▸ books.load (load ▸ h), fun h => slot ▸ books.strip (stripper ▸ h),
      move ▸ books.move, fun h => ?_, fun h => ?_⟩
    · rw [track] at h
      simp only [Accounted, track, lanes, declared]
      exact books.accounted h
    · rw [marks track lanes slot returned staged, track]
      exact books.balance (track ▸ h)
  fill books := books.fill
  accEnd freed books := books.accEnd freed

section Accounts
variable {d : Device}

/-- An inventory that is not established has no account to keep. -/
theorem Books.unaccounted {e : Device} (books : Books 0 d) (never : e.track.established = false)
    (four : e.acc.lanes.length = d.acc.lanes.length) (stripper : e.acc.stripper = d.acc.stripper)
    (slot : e.acc.slot = d.acc.slot) (spread : e.spread = d.spread) (pace : e.pace = d.pace) : Books 0 e := by
  have lost : e.track.established = true → False := fun h => by rw [never] at h; cases h
  exact ⟨four.trans books.four, spread ▸ books.load, fun h => slot ▸ books.strip (stripper ▸ h), pace ▸ books.move,
    fun h => (lost h).elim, fun h => (lost h).elim⟩

/-- An established inventory leaves no position unknown, so no TUNNEL write is accepted (R1, R16). -/
theorem Books.tunnelOwn (books : Books 0 d) (ne : d.track.positions ≠ []) (values : List (List (List Nat))) :
    Books 0 (tunnelOwn values d).1 := by
  have moved (length : Nat) (unknown : ¬ d.known = true) : Books 0 (d.setLength length) := by
    have lost : d.track.established = true → False := fun h => by
      obtain ⟨known, -⟩ := books.accounted h
      refine unknown (List.any_eq_true.mpr ⟨d.exitContent, exitContent_mem ne, ?_⟩)
      simpa using known _ (exitContent_mem ne)
    exact ⟨books.four, books.load, books.strip, books.move, fun h => (lost h).elim, fun h => (lost h).elim⟩
  unfold Machine.tunnelOwn
  dsimp only
  split
  · exact books
  rename_i unknown
  split
  · exact books
  split
  · exact books
  split
  · exact books
  · exact moved _ unknown

theorem Books.trackForget (books : Books 0 d) : Books 0 (trackForget d).1 := by
  by_cases stands : d.pace.line = .stopped ∧ d.pace.pacer = .idle
  · rw [(trackForget_accepted stands).2]
    exact books.unaccounted rfl rfl rfl rfl rfl rfl
  · rw [trackForget_refused stands]
    exact books

/-- A load that ends leaves its rod in the slot, with or without strands (R140 to R142). -/
theorem Books.staged {slot : Slot} (books : Books 0 d) (loading : d.spread.slot = .loading) (stays : slot ≠ .none)
    {e : Device} (track : e.track.positions = d.track.positions ∧ e.track.established = d.track.established
      ∧ e.track.inventory = d.track.inventory ∧ e.track.spill = d.track.spill) (pace : e.pace = d.pace) (acc : e.acc = d.acc)
    (staged : e.spread.slot = slot) (load : e.spread.load = none) : Books 0 e := by
  obtain ⟨positions, established, inventory, spill⟩ := track
  refine ⟨acc ▸ books.four, fun h => absurd (load ▸ h) nofun, acc ▸ books.strip, pace ▸ books.move, fun h => ?_, fun h => ?_⟩
  · simp only [Accounted, positions, acc]
    exact books.accounted (established ▸ h)
  · have one : slotCount e.spread.slot = slotCount d.spread.slot := by
      rw [staged, loading, slotCount, if_neg stays]
      rfl
    rw [Device.rodSum_eq, positions, acc, one, spill, inventory, ← Device.rodSum_eq]
    exact books.balance (established ▸ h)

theorem loading_of_loadAnswered {n : Nat} {l : Load} (h : d.loadAnswered n = some l) : d.spread.slot = .loading := by
  unfold Device.loadAnswered at h
  split at h
  · split at h
    · rename_i fits
      exact fits.2
    · cases h
  · cases h

theorem Books.loadDone (books : Books 0 d) (n : Nat) : Books 0 (d.loadDone n) := by
  unfold Device.loadDone
  split
  · rename_i l hl
    refine books.staged (slot := .loaded (d.loadedRod l.identity)) (loading_of_loadAnswered hl) nofun ?_ ?_ ?_ ?_ ?_
    all_goals simp [Device.completeLoad]
  · exact books.blocks rfl rfl rfl rfl rfl rfl rfl rfl

theorem Books.loadFailed (books : Books 0 d) (n : Nat) : Books 0 (d.loadFailed n) := by
  unfold Device.loadFailed
  split
  · rename_i l hl
    exact books.staged (slot := .emptyStaged) (loading_of_loadAnswered hl) nofun ⟨rfl, rfl, rfl, rfl⟩ rfl rfl rfl rfl
  · exact books.blocks rfl rfl rfl rfl rfl rfl rfl rfl

theorem Books.loadExpired (books : Books 0 d) : Books 0 d.loadExpired := by
  unfold Device.loadExpired
  split
  · rename_i l hl
    exact books.staged (slot := .emptyStaged) (books.load (by rw [hl]; rfl)) nofun ⟨rfl, rfl, rfl, rfl⟩ rfl rfl rfl rfl
  · exact books

/-- The strip slot is emptied, with its rod in hand (R160, R161). -/
theorem Books.clearStrip {k : ZMod size32} (books : Books k d) {slot : StripSlot} (held : d.acc.slot = some slot) :
    Books (k + 1) d.clearStrip := by
  refine ⟨books.four, books.load, fun _ => rfl, books.move, books.accounted, fun h => ?_⟩
  have one : stripCount d.acc.slot = stripCount none + 1 := by rw [held]; rfl
  have sum : d.rodSum = d.clearStrip.rodSum + 1 := by
    rw [d.rodSum_eq, one, Device.rodSum_eq]
    simp only [Device.clearStrip]
    omega
  have balance : (d.track.inventory : ZMod size32) = d.rodSum + k := books.balance h
  show (d.track.inventory : ZMod size32) = _
  rw [balance, sum]
  push_cast
  ring

theorem Books.completeStrip (books : Books 0 d) {slot : StripSlot} (held : d.acc.slot = some slot) :
    Books 0 (d.completeStrip slot) := by
  have closed : Books 0 (d.closeRod (gateOutcome slot.gate) slot.rod) := books.alike (alike_notify _ _)
  have cleared := (closed.clearStrip (by simpa using held)).returnRod { strip := some d.acc.number }
  have counted := (cleared.cast (j := 0) fun _ => by ring).blocks
    (e := ((d.closeRod (gateOutcome slot.gate) slot.rod).clearStrip.returnRod { strip := some d.acc.number }).bump .stripsDone)
    rfl rfl rfl rfl rfl rfl rfl rfl
  exact counted.accEnd false

theorem Books.stripDone (books : Books 0 d) (n : Nat) : Books 0 (d.stripDone n) := by
  have ignored : Books 0 d.ignoreStripDone := books.blocks rfl rfl rfl rfl rfl rfl rfl rfl
  unfold Device.stripDone
  split
  · rename_i slot _ held
    split
    · exact books.completeStrip held
    · exact ignored
  · rename_i slot _ held
    split
    · exact books.completeStrip held
    · exact ignored
  all_goals exact ignored

/-- A strip that starts or stalls holds a record and keeps it (R159). -/
theorem Books.busyStrip (books : Books 0 d) {e : Device} (track : e.track = d.track) (pace : e.pace = d.pace)
    (spread : e.spread = d.spread) (lanes : e.acc.lanes = d.acc.lanes) (slot : e.acc.slot = d.acc.slot)
    (returned : e.acc.returnCount = d.acc.returnCount) (declared : e.acc.returnDeclared = d.acc.returnDeclared)
    (busy : e.acc.stripper ≠ .idle) : Books 0 e := by
  refine ⟨lanes ▸ books.four, spread ▸ books.load, fun h => absurd h busy, pace ▸ books.move, fun h => ?_, fun h => ?_⟩
  · simp only [Accounted, track, lanes, declared]
    exact books.accounted (track ▸ h)
  · rw [Device.rodSum_eq, track, spread, lanes, slot, returned, ← Device.rodSum_eq]
    exact books.balance (track ▸ h)

theorem Books.stall (books : Books 0 d) (kind : FaultKind) : Books 0 (d.stall kind) := by
  unfold Device.stall
  split
  · exact books.busyStrip rfl rfl rfl rfl rfl rfl rfl nofun
  · exact books

theorem Books.stripRetry (books : Books 0 d) : Books 0 (stripRetry d).1 := by
  unfold Machine.stripRetry
  split
  · rename_i slot _ held
    have started : Books 0 (d.startStrip slot) := books.busyStrip rfl rfl rfl rfl held.symm rfl rfl nofun
    exact started.accEnd false
  all_goals exact books

theorem Books.stripDiscard (books : Books 0 d) : Books 0 (stripDiscard d).1 := by
  unfold Machine.stripDiscard
  split
  · rename_i slot _ held
    have closed : Books 0 (d.closeRod .discarded slot.rod) := books.alike (alike_notify _ _)
    have spilled : Books (-1) (d.closeRod .discarded slot.rod).spillRod := closed.spillRod.cast fun _ => zero_sub 1
    have cleared := spilled.clearStrip (by simpa using held)
    exact (cleared.cast fun _ => neg_add_cancel 1).accEnd false
  all_goals exact books

theorem Books.laneDeclare (books : Books 0 d) (lane n : Nat) : Books 0 (laneDeclare lane n d).1 := by
  unfold Machine.laneDeclare
  split
  · exact books
  rename_i hl
  split
  · exact books
  rename_i undeclared
  split
  · exact books
  · have never : d.track.established = false := by
      by_contra established
      obtain ⟨-, declared, -⟩ := books.accounted (by simpa using established)
      have inside : lane < d.acc.lanes.length := by rw [books.four]; omega
      refine undeclared (declared _ ?_)
      simp only [Device.lane, List.getD_eq_getElem?_getD, List.getElem?_eq_getElem inside, Option.getD_some]
      exact List.getElem_mem inside
    obtain ⟨new, -, -, -, many⟩ := Device.declareMany_eq lane n d
    refine Books.accEnd (Books.establish (books.unaccounted ?_ ?_ ?_ ?_ ?_ ?_)) _
    all_goals simp [Device.declareLane, many, never]

theorem Books.setReturn (books : Books 0 d) (n : Nat) :
    Books ((d.acc.returnCount : ZMod size32) - n) (d.setReturn n) := by
  refine ⟨books.four, books.load, books.strip, books.move, books.accounted, fun h => ?_⟩
  have balance : (d.track.inventory : ZMod size32) = d.rodSum + 0 := books.balance h
  show (d.track.inventory : ZMod size32) = _
  rw [balance, d.rodSum_eq, Device.rodSum_eq]
  simp only [Device.setReturn]
  push_cast
  ring

theorem Books.returnDeclare (books : Books 0 d) (n : Nat) : Books 0 (returnDeclare n d).1 := by
  unfold Machine.returnDeclare
  split
  · exact books
  · have counted : Books 0 (((d.setReturn n).inventoryAdd (n - d.acc.returnCount)).inventorySub (d.acc.returnCount - n)) := by
      refine (((books.setReturn n).inventoryAdd _).inventorySub _).cast fun _ => ?_
      rcases Nat.le_total n d.acc.returnCount with le | le
      · rw [Nat.sub_eq_zero_of_le le, Nat.cast_sub le]
        push_cast
        ring
      · rw [Nat.sub_eq_zero_of_le le, Nat.cast_sub le]
        push_cast
        ring
    obtain ⟨four, load, strip, move, accounted, balance⟩ := counted
    have declared : Books 0 { ((d.setReturn n).inventoryAdd (n - d.acc.returnCount)).inventorySub (d.acc.returnCount - n) with
        acc := { (((d.setReturn n).inventoryAdd (n - d.acc.returnCount)).inventorySub (d.acc.returnCount - n)).acc with
          returnDeclared := true } } :=
      ⟨four, load, strip, move, fun h => ⟨(accounted h).1, (accounted h).2.1, rfl⟩, balance⟩
    refine Books.accEnd ?_ _
    unfold Device.fillIf
    split
    · exact declared.establish.fill
    · exact declared.establish

theorem Books.rodAdd (books : Books 0 d) (n : Nat) : Books 0 (rodAdd n d).1 := by
  unfold Machine.rodAdd
  repeat' split
  · exact books
  · exact books
  · exact books
  · refine Books.accEnd (Books.fill (((books.setReturn _).inventoryAdd n).cast fun _ => ?_)) _
    push_cast
    ring

theorem Books.rodRemoveReturn (books : Books 0 d) (n : Nat) : Books 0 (rodRemoveReturn n d).1 := by
  unfold Machine.rodRemoveReturn
  repeat' split
  · exact books
  · exact books
  · rename_i enough
    refine Books.accEnd (((books.setReturn _).inventorySub n).cast fun _ => ?_) _
    rw [Nat.cast_sub (Nat.le_of_not_lt enough)]
    ring

theorem Books.rodRemoveSpill (books : Books 0 d) (place : Byte) (n : Nat) : Books 0 (rodRemoveSpill place n d).1 := by
  unfold Machine.rodRemoveSpill
  repeat' split
  · exact books
  · exact books
  · rename_i enough
    have taken : Books n { d with track := { d.track with spill := d.track.spill - n } } := by
      refine ⟨books.four, books.load, books.strip, books.move, books.accounted, fun h => ?_⟩
      have balance : (d.track.inventory : ZMod size32) = d.rodSum + 0 := books.balance h
      show (d.track.inventory : ZMod size32) = _
      rw [balance, d.rodSum_eq, Device.rodSum_eq]
      push_cast [Nat.cast_sub (Nat.le_of_not_lt enough)]
      ring
    exact Books.accEnd ((taken.inventorySub n).cast fun _ => sub_self _) _

/-- Each command's effect keeps the law on inventory, with the laws on the tunnel and the lanes. -/
theorem Books.effect (tunnel : TunnelLaw d) (lanes : LaneLaw d) (books : Books 0 d) (i : Instr) : Books 0 (effect i d) := by
  have timed (t : Nat) : Books 0 { d with time := t } := books.blocks rfl rfl rfl rfl rfl rfl rfl rfl
  by_cases moves : keepsRods i = true
  · exact (books_rods.effect moves ⟨tunnel, books⟩).2
  by_cases places : keepsPlaces i = true
  · exact books_places.effect places books
  · have four := (lanes.effect i).1
    cases i <;> first | exact absurd rfl moves | exact absurd rfl places | skip
    case powerUp lost pa ca pb cb =>
      obtain ⟨-, -, -, track, pace, spread, acc, -⟩ := powered_frame (if lost then none else d.stored) pa ca pb cb
      replace track : (Machine.effect (.powerUp lost pa ca pb cb) d).track = _ := track
      replace pace : (Machine.effect (.powerUp lost pa ca pb cb) d).pace = _ := pace
      replace spread : (Machine.effect (.powerUp lost pa ca pb cb) d).spread = _ := spread
      replace acc : (Machine.effect (.powerUp lost pa ca pb cb) d).acc = _ := acc
      refine ⟨four, ?_, ?_, ?_, ?_, ?_⟩
      · rw [spread]; nofun
      · rw [acc]; exact fun _ => rfl
      · rw [pace]; nofun
      · rw [track]; nofun
      · rw [track]; nofun
    case tableWriteTunnel => exact writeTable_induct books fun values => books.tunnelOwn tunnel.positions_ne_nil values
    case trackForget => exact books.trackForget
    case loadDone => exact books.loadDone _
    case loadFailed => exact books.loadFailed _
    case loadLimitExpiry => exact expire_induct books fun t _ => (timed _).loadExpired
    case stripDone => exact books.stripDone _
    case stripFaultReport =>
      show Books 0 (d.stripFault _)
      unfold Device.stripFault
      split
      · exact books.stall _
      · exact books
    case stripLimitExpiry => exact expire_induct books fun t _ => (timed _).stall _
    case stripRetry => exact books.stripRetry
    case stripDiscard => exact books.stripDiscard
    case laneDeclare => exact books.laneDeclare _ _
    case returnDeclare => exact books.returnDeclare _
    case rodAdd => exact books.rodAdd _
    case rodRemoveReturn => exact books.rodRemoveReturn _
    case rodRemoveSpill => exact books.rodRemoveSpill _ _

end Accounts

/-! The ids. -/

theorem ids_places : PlaceLaw (Ids 0) where
  same track _ lanes slot _ _ _ staged _ ids := ids.same (by rw [Device.ids, track, lanes, slot, staged]; rfl)
  fill ids := ids.same (ids_fill _)
  accEnd freed ids := ids.accEnd freed

section Identities
variable {d : Device}

theorem Ids.loadDone (ids : Ids 0 d) (few : d.liveIds.length < 65535) (n : Nat) : Ids 0 (d.loadDone n) := by
  unfold Device.loadDone
  split
  · rename_i l hl
    refine (ids.assign few).of_le ?_
    have slot : (d.completeLoad l).spread.slot.ids = {d.freeId} := by simp [Device.completeLoad, Slot.ids, Device.loadedRod]
    have rest : (d.completeLoad l).track.positions = d.track.positions ∧ (d.completeLoad l).acc = d.acc := by
      simp [Device.completeLoad]
    rw [zero_add, Device.ids, slot, rest.1, rest.2, Device.ids]
    have more : ({d.freeId} : Multiset Nat) + (d.track.positions.map Content.ids).sum + (d.acc.lanes.map LaneRt.ids).sum
        + stripIds d.acc.slot + d.spread.slot.ids = {d.freeId} + (d.spread.slot.ids + (d.track.positions.map Content.ids).sum
        + (d.acc.lanes.map LaneRt.ids).sum + stripIds d.acc.slot) := by abel
    rw [← more]
    exact Multiset.le_add_right ..
  · exact ids.same rfl

theorem Ids.endLoad (ids : Ids 0 d) : Ids 0 d.endLoad := by
  refine ids.of_le ?_
  rw [zero_add, zero_add, Device.ids, Device.ids]
  have none : d.endLoad.spread.slot.ids = 0 := rfl
  rw [none, zero_add]
  have more : (d.track.positions.map Content.ids).sum + (d.acc.lanes.map LaneRt.ids).sum + stripIds d.acc.slot
      + d.spread.slot.ids = d.spread.slot.ids + (d.track.positions.map Content.ids).sum
      + (d.acc.lanes.map LaneRt.ids).sum + stripIds d.acc.slot := by abel
  rw [← more]
  exact Multiset.le_add_right ..

theorem Ids.loadFailed (ids : Ids 0 d) (n : Nat) : Ids 0 (d.loadFailed n) := by
  unfold Device.loadFailed
  split
  · exact ids.endLoad.same rfl
  · exact ids.same rfl

theorem Ids.loadExpired (ids : Ids 0 d) : Ids 0 d.loadExpired := by
  unfold Device.loadExpired
  split
  · exact ids.endLoad.same rfl
  · exact ids

/-- The strip slot is emptied. -/
theorem Ids.clearStrip (ids : Ids 0 d) : Ids 0 d.clearStrip := by
  refine ids.of_le ?_
  rw [zero_add, zero_add, Device.ids, Device.ids]
  exact add_le_add_right (Multiset.zero_le _) _

theorem Ids.notify (ids : Ids 0 d) (n : Notice) : Ids 0 (d.notify n) := ids.alike (alike_notify n d)

theorem Ids.completeStrip (ids : Ids 0 d) (slot : StripSlot) : Ids 0 (d.completeStrip slot) := by
  have cleared : Ids 0 (d.closeRod (gateOutcome slot.gate) slot.rod).clearStrip := (ids.notify _).clearStrip
  have home := cleared.same (ids_returnRod { strip := some d.acc.number } _)
  have counted : Ids 0 (((d.closeRod (gateOutcome slot.gate) slot.rod).clearStrip.returnRod
      { strip := some d.acc.number }).bump .stripsDone) := home.same rfl
  exact counted.accEnd false

theorem Ids.stripDone (ids : Ids 0 d) (n : Nat) : Ids 0 (d.stripDone n) := by
  have ignored : Ids 0 d.ignoreStripDone := ids.same rfl
  unfold Device.stripDone
  split
  · split
    · exact ids.completeStrip _
    · exact ignored
  · split
    · exact ids.completeStrip _
    · exact ignored
  all_goals exact ignored

theorem Ids.stall (ids : Ids 0 d) (kind : FaultKind) : Ids 0 (d.stall kind) := by
  unfold Device.stall
  split
  · exact ids.same rfl
  · exact ids

theorem Ids.stripRetry (ids : Ids 0 d) : Ids 0 (stripRetry d).1 := by
  unfold Machine.stripRetry
  split
  · rename_i slot _ held
    have started : (d.startStrip slot).ids = d.ids := by
      rw [Device.ids, Device.ids, held]
      rfl
    exact (ids.same started).accEnd false
  all_goals exact ids

theorem Ids.stripDiscard (ids : Ids 0 d) : Ids 0 (stripDiscard d).1 := by
  unfold Machine.stripDiscard
  split
  · rename_i slot _ held
    have spilled : Ids 0 (d.closeRod .discarded slot.rod).spillRod := (ids.notify _).same rfl
    exact spilled.clearStrip.accEnd _
  all_goals exact ids

/-- A tunnel without records holds no id (R1, R24). -/
theorem Ids.emptied {e : Device} (ids : Ids 0 d) (lost : ∀ c ∈ e.track.positions, c = .unknown) (acc : e.acc = d.acc)
    (spread : e.spread = d.spread) : Ids 0 e := by
  refine ids.of_le ?_
  have none : (e.track.positions.map Content.ids).sum = 0 := List.sum_eq_zero fun x hx => by
    obtain ⟨c, hc, rfl⟩ := List.mem_map.mp hx
    rw [lost c hc]
    rfl
  rw [zero_add, zero_add, Device.ids, Device.ids, none, acc, spread, add_zero]
  gcongr
  exact Multiset.le_add_right ..

theorem Ids.tunnelOwn (ids : Ids 0 d) (values : List (List (List Nat))) : Ids 0 (tunnelOwn values d).1 := by
  unfold Machine.tunnelOwn
  dsimp only
  repeat' split
  any_goals exact ids
  exact ids.emptied (fun c hc => List.eq_of_mem_replicate hc) rfl rfl

theorem Ids.trackForget (ids : Ids 0 d) : Ids 0 (trackForget d).1 := by
  by_cases stands : d.pace.line = .stopped ∧ d.pace.pacer = .idle
  · rw [(trackForget_accepted stands).2]
    refine ids.emptied (fun c hc => ?_) rfl rfl
    obtain ⟨-, -, rfl⟩ := List.mem_map.mp hc
    rfl
  · rw [trackForget_refused stands]
    exact ids

/-- Each record of a declaration takes a fresh id (R154). -/
theorem Ids.declareMany (lane n : Nat) (ids : Ids 0 d) (few : d.liveIds.length + n ≤ 65535) :
    Ids 0 (d.declareMany lane n) := by
  induction n generalizing d with
  | zero => exact ids
  | succ n ih =>
    have inHand : Ids {d.freeId} d.assignId := (ids.assign (by omega)).same rfl
    have adds (x : LaneRt) : LaneRt.ids { x with records := x.records ++ [d.untracked d.freeId none] } ≤ x.ids + {d.freeId} := by
      simp [LaneRt.ids, Device.untracked, ← Multiset.coe_add]
    have one : Ids 0 (d.declareOne lane) := inHand.modifyLane adds
    refine ih one ?_
    have grown : (d.declareOne lane).ids ≤ {d.freeId} + d.ids := ids_modifyLane_le (d := d.assignId) adds
    have card := Multiset.card_le_card grown
    rw [Multiset.card_add, Device.card_ids, Device.card_ids, Multiset.card_singleton] at card
    omega

theorem Ids.laneDeclare (ids : Ids 0 d) {n : Nat} (few : d.liveIds.length + n ≤ 65535) (lane : Nat) :
    Ids 0 (laneDeclare lane n d).1 := by
  unfold Machine.laneDeclare
  split
  · exact ids
  split
  · exact ids
  split
  · exact ids
  · have declared : Ids 0 (d.declareLane lane n) := (ids.declareMany lane n few).same
      (ids_modifyLane_same lane (f := fun l => { l with declared := true }) (fun _ => rfl) _)
    exact (declared.same (ids_establish _)).accEnd _

theorem Ids.returnDeclare (ids : Ids 0 d) (n : Nat) : Ids 0 (returnDeclare n d).1 := by
  unfold Machine.returnDeclare
  split
  · exact ids
  · have set : Ids 0 (d.setReturn n) := ids.same rfl
    have counted := (set.same (ids_inventoryAdd (n - d.acc.returnCount) _)).same
      (ids_inventorySub (d.acc.returnCount - n) _)
    have declared := (counted.same (e := { ((d.setReturn n).inventoryAdd (n - d.acc.returnCount)).inventorySub
      (d.acc.returnCount - n) with acc := { (((d.setReturn n).inventoryAdd (n - d.acc.returnCount)).inventorySub
      (d.acc.returnCount - n)).acc with returnDeclared := true } }) rfl).same (ids_establish _)
    refine Ids.accEnd ?_ _
    unfold Device.fillIf
    split
    · exact declared.same (ids_fill _)
    · exact declared

theorem Ids.rodAdd (ids : Ids 0 d) (n : Nat) : Ids 0 (rodAdd n d).1 := by
  unfold Machine.rodAdd
  split
  · exact ids
  split
  · exact ids
  split
  · exact ids
  · have set : Ids 0 (d.setReturn (d.acc.returnCount + n)) := ids.same rfl
    exact ((set.same (ids_inventoryAdd n _)).same (ids_fill _)).accEnd false

theorem Ids.rodRemoveReturn (ids : Ids 0 d) (n : Nat) : Ids 0 (rodRemoveReturn n d).1 := by
  unfold Machine.rodRemoveReturn
  split
  · exact ids
  split
  · exact ids
  · have set : Ids 0 (d.setReturn (d.acc.returnCount - n)) := ids.same rfl
    exact (set.same (ids_inventorySub n _)).accEnd false

theorem Ids.rodRemoveSpill (ids : Ids 0 d) (place : Byte) (n : Nat) : Ids 0 (rodRemoveSpill place n d).1 := by
  unfold Machine.rodRemoveSpill
  split
  · exact ids
  split
  · exact ids
  · have set : Ids 0 { d with track := { d.track with spill := d.track.spill - n } } := ids.same rfl
    exact (set.same (ids_inventorySub n _)).accEnd false

theorem Ids.powerUp (lost pa ca pb cb : Bool) : Ids 0 (Machine.effect (.powerUp lost pa ca pb cb) d) := by
  obtain ⟨-, -, -, track, -, spread, acc, -⟩ := powered_frame (if lost then none else d.stored) pa ca pb cb
  have none : (Machine.effect (.powerUp lost pa ca pb cb) d).ids = 0 := by
    show (powered (if lost then .none else d.stored) pa ca pb cb).ids = 0
    rw [Device.ids, track, spread, acc]
    have positions (n : Nat) : ((List.replicate n Content.unknown).map Content.ids).sum = 0 := by
      simp [Content.ids]
    have lanes (ls : List LaneEntry) : ((ls.map freshLane).map LaneRt.ids).sum = 0 := List.sum_eq_zero fun x hx => by
      simp only [List.map_map, List.mem_map] at hx
      obtain ⟨l, -, rfl⟩ := hx
      rfl
    simp only [freshDevice, Slot.ids, stripIds, positions, lanes, add_zero]
    rfl
  rw [Ids, none]
  exact ⟨Multiset.nodup_zero, fun _ h => absurd h (Multiset.notMem_zero _)⟩

theorem Ids.effect (tunnel : TunnelLaw d) (lanes : LaneLaw d) (ids : Ids 0 d) (i : Instr) : Ids 0 (effect i d) := by
  have timed (t : Nat) : Ids 0 { d with time := t } := ids.same rfl
  have few := few_live tunnel lanes
  by_cases moves : keepsRods i = true
  · exact (ids_rods.effect moves ⟨⟨tunnel, lanes⟩, ids⟩).2
  by_cases places : keepsPlaces i = true
  · exact ids_places.effect places ids
  · cases i <;> first | exact absurd rfl moves | exact absurd rfl places | skip
    case powerUp => exact Ids.powerUp ..
    case tableWriteTunnel => exact writeTable_induct ids fun values => ids.tunnelOwn values
    case trackForget => exact ids.trackForget
    case loadDone => exact ids.loadDone (by omega) _
    case loadFailed => exact ids.loadFailed _
    case loadLimitExpiry => exact expire_induct ids fun t _ => (timed _).loadExpired
    case stripDone => exact ids.stripDone _
    case stripFaultReport =>
      show Ids 0 (d.stripFault _)
      unfold Device.stripFault
      split
      · exact ids.stall _
      · exact ids
    case stripLimitExpiry => exact expire_induct ids fun t _ => (timed _).stall _
    case stripRetry => exact ids.stripRetry
    case stripDiscard => exact ids.stripDiscard
    case laneDeclare tag lane count => exact ids.laneDeclare (by have := count.isLt; omega) _
    case returnDeclare => exact ids.returnDeclare _
    case rodAdd => exact ids.rodAdd _
    case rodRemoveReturn => exact ids.rodRemoveReturn _
    case rodRemoveSpill => exact ids.rodRemoveSpill _ _

end Identities

/-- The wrapping of an effect in the host link's queues leaves the laws on the tunnel and the lanes. -/
theorem Wraps.stores {d e : Device} (same : Wraps d e) (law : TunnelLaw d ∧ LaneLaw d) : TunnelLaw e ∧ LaneLaw e := by
  obtain ⟨rods, write⟩ := same
  exact ⟨law.1.congr (by rw [rods]) (by rw [rods]) (by rw [rods]) (by rw [rods]) write,
    law.2.congr (by rw [rods]) (by rw [rods]) (by rw [rods]) write (by rw [rods])⟩

/-- Settles O59: each command's effect keeps the accounts and the ids, while the laws on the tunnel and the lanes, which
keep the live records few, hold with them. -/
theorem inventoryAndIdLawsKept : Obligations.InventoryAndIdLawsKept := by
  unfold Obligations.InventoryAndIdLawsKept
  refine fun s t tunnel lanes h => ⟨fun law => ?_, fun law => ?_⟩
  · rw [inventoryLaw_iff] at law ⊢
    refine (step_keeps (P := fun d => (TunnelLaw d ∧ LaneLaw d) ∧ Books 0 d) (fun d e same law => ?_) (fun i d law => ?_) h
      ⟨⟨tunnel, lanes⟩, law⟩).2
    · obtain ⟨stores, books⟩ := law
      have kept := same.stores stores
      obtain ⟨rods, write⟩ := same
      exact ⟨kept, books.blocks (by rw [rods]) (by rw [rods]) write (by rw [rods]) (by rw [rods]) (by rw [rods])
        (by rw [rods]) (by rw [rods])⟩
    · obtain ⟨⟨tunnel, lanes⟩, books⟩ := law
      exact ⟨⟨tunnel.effect i, lanes.effect i⟩, books.effect tunnel lanes i⟩
  · rw [idLaw_iff] at law ⊢
    refine (step_keeps (P := fun d => (TunnelLaw d ∧ LaneLaw d) ∧ Ids 0 d) (fun d e same law => ?_) (fun i d law => ?_) h
      ⟨⟨tunnel, lanes⟩, law⟩).2
    · obtain ⟨stores, ids⟩ := law
      have kept := same.stores stores
      obtain ⟨rods, -⟩ := same
      exact ⟨kept, ids.same (by rw [rods]; rfl)⟩
    · obtain ⟨⟨tunnel, lanes⟩, ids⟩ := law
      exact ⟨⟨tunnel.effect i, lanes.effect i⟩, ids.effect tunnel lanes i⟩

end Sys2Proof.Machine
end

section
/-! SUPPORT. The laws on correction factors (R170), on the return buffer (R158) and on chain moves (R66), each of which every
step keeps. -/

namespace Sys2Proof.Machine

/-! Correction factors. -/

theorem FactorLaw.congr {d e : Device} (law : FactorLaw d) (same : e.gauge.factors = d.gauge.factors) : FactorLaw e := by
  rw [FactorLaw, same]
  exact law

theorem corrected_range {c : Nat} (band : Nat) (deviation : Int) (range : 128 ≤ c ∧ c ≤ 512) :
    128 ≤ corrected band deviation c ∧ corrected band deviation c ≤ 512 := by
  unfold corrected
  split
  · omega
  · split <;> omega

theorem FactorLaw.modifyFactor {d : Device} (law : FactorLaw d) (p : Nat) {f : Nat → Nat}
    (range : ∀ c, 128 ≤ c ∧ c ≤ 512 → 128 ≤ f c ∧ f c ≤ 512) : FactorLaw (d.modifyFactor p f) := by
  obtain ⟨eight, factors⟩ := law
  refine ⟨by simpa [Device.modifyFactor] using eight, fun c hc => ?_⟩
  obtain ⟨i, hi, rfl⟩ := List.mem_iff_getElem.mp hc
  have inside : i < d.gauge.factors.length := by simpa [Device.modifyFactor] using hi
  have old := factors _ (List.getElem_mem inside)
  simp only [Device.modifyFactor, List.getElem_modify]
  split
  · exact range _ old
  · exact old

theorem FactorLaw.gaugeResult {d : Device} (law : FactorLaw d) (number rod value : Nat) :
    FactorLaw (d.gaugeResult number rod value) := by
  have ended : FactorLaw d.endMeasurement := law
  have late {e : Device} (law : FactorLaw e) : FactorLaw e.lateResult := law
  unfold Device.gaugeResult
  split
  · exact late law
  split
  · unfold Device.takeResult
    split
    · exact late ended
    split
    · exact late ended
    split
    · rename_i m _ r _ _ x _ _
      have checked (band rod : Nat) (deviation : Int) (e : Device) :
          (e.checkBand band rod deviation).gauge = e.gauge := by unfold Device.checkBand; split <;> rfl
      exact FactorLaw.modifyFactor (d := Device.checkBand _ _ _ _) (ended.congr (by rw [checked]; rfl)) _
        fun c range => corrected_range _ _ range
    · exact late ended
  · exact late law

theorem FactorLaw.effect {d : Device} (law : FactorLaw d) (i : Instr) : FactorLaw (effect i d) := by
  have lost {e : Device} (m : Measurement) (law : FactorLaw e) : FactorLaw (e.measurementLost m) := law
  by_cases free : (touched i).contains .gauge = false
  · exact law.congr (by rw [effect_gauge free])
  cases i <;> first | exact absurd rfl free | skip
  case powerUp lost pa ca pb cb =>
    obtain ⟨-, -, -, -, -, -, -, gauge, -⟩ := powered_frame (if lost then none else d.stored) pa ca pb cb
    replace gauge : (Machine.effect (.powerUp lost pa ca pb cb) d).gauge = _ := gauge
    rw [FactorLaw, gauge]
    exact ⟨rfl, fun c hc => List.eq_of_mem_replicate hc ▸ by decide⟩
  case shiftDoneReport late =>
    refine law.congr ?_
    have examined (e : Device) : e.examineGauge.gauge.factors = e.gauge.factors := by
      unfold Device.examineGauge
      repeat' split
      all_goals rfl
    show ((d.take (.shiftDone late)).shiftDone late).gauge.factors = _
    unfold Device.shiftDone Device.shiftReported
    split
    · simp [examined]
    · split <;> simp [examined]
  case gaugeResult => exact law.gaugeResult ..
  case gaugeFailReport =>
    show FactorLaw (d.gaugeFail _)
    unfold Device.gaugeFail
    repeat' split
    · exact lost _ law
    all_goals exact law
  case gaugeLimitExpiry =>
    refine expire_induct law fun t _ => ?_
    unfold Device.gaugeExpired
    split
    · exact lost _ law
    · exact law
  case correctionResetOrder profile =>
    exact FactorLaw.modifyFactor (d := d.take (.reset profile)) law _ fun _ _ => by decide

/-! The return buffer. -/

theorem ReturnLaw.congr {d e : Device} (law : ReturnLaw d) (count : e.acc.returnCount = d.acc.returnCount)
    (declared : e.acc.returnDeclared = d.acc.returnDeclared) (cap : e.tables.acc.returnCap = d.tables.acc.returnCap) :
    ReturnLaw e := by
  rw [ReturnLaw, count, declared, cap]
  exact law

theorem ReturnLaw.blocks {d e : Device} (law : ReturnLaw d) (acc : e.acc = d.acc) (tables : e.tables = d.tables) :
    ReturnLaw e := law.congr (by rw [acc]) (by rw [acc]) (by rw [tables])

theorem Device.accEnd_returns (freed : Bool) (d : Device) :
    (d.accEnd freed).acc.returnCount = d.acc.returnCount ∧ (d.accEnd freed).acc.returnDeclared = d.acc.returnDeclared := by
  obtain ⟨e, grant, h⟩ | ⟨-, h⟩ := d.accEnd_cases freed <;> rw [h]
  · obtain ⟨l, r, rest, gate, -, -, -, -, -, -, count, declared, -⟩ := Device.grant_lanes grant
    exact ⟨count, declared⟩
  · split <;> exact ⟨rfl, rfl⟩

section Returns
variable {d : Device}

/-- A buffer that holds no more than it may keeps to the law with fewer rods. -/
theorem ReturnLaw.fewer {e : Device} (law : ReturnLaw d) (fewer : e.acc.returnCount ≤ d.acc.returnCount)
    (declared : e.acc.returnDeclared = d.acc.returnDeclared) (tables : e.tables = d.tables) : ReturnLaw e := by
  obtain ⟨room, none⟩ := law
  refine ⟨by rw [tables]; omega, fun h => ?_⟩
  have zero := none (declared ▸ h)
  omega

theorem ReturnLaw.fill (law : ReturnLaw d) : ReturnLaw d.fill := by
  refine law.fewer ?_ (by rw [Device.fill_acc]) (by simp)
  obtain h | ⟨-, -, -, ⟨i, -, -, -, h⟩ | ⟨-, -, h⟩⟩ := d.fill_cases <;> rw [h]
  · exact Nat.sub_le ..
  · exact Nat.sub_le ..

theorem ReturnLaw.accEnd (law : ReturnLaw d) (freed : Bool) : ReturnLaw (d.accEnd freed) :=
  law.congr (d.accEnd_returns freed).1 (d.accEnd_returns freed).2 (by simp)

/-- A count within the capacity of a declared buffer (R155, R164). -/
theorem ReturnLaw.declared {e : Device} (room : e.acc.returnCount ≤ e.tables.acc.returnCap)
    (declared : e.acc.returnDeclared = true) : ReturnLaw e :=
  ⟨room, fun h => absurd (declared.symm.trans h) nofun⟩

theorem ReturnLaw.returnRod (law : ReturnLaw d) (c : Context) : ReturnLaw (d.returnRod c) := by
  obtain ⟨declared, room, h⟩ | ⟨-, h⟩ := d.returnRod_cases c <;> rw [h]
  · exact ReturnLaw.fill (ReturnLaw.declared room declared)
  · exact law

theorem ReturnLaw.dischargeFree (law : ReturnLaw d) (disp : Disposition) (l : Nat) (r : Rod) :
    ReturnLaw (d.dischargeFree disp l r) := by
  unfold Device.dischargeFree
  split
  · exact law
  · exact law.blocks (by simp) (by simp)

theorem ReturnLaw.reconcile {o : ShiftOrder} (law : ReturnLaw d) (c : Content) : ReturnLaw (d.reconcile o c) := by
  have raised {e : Device} (b : ReturnLaw e) (k : FaultKind) (x : Context) : ReturnLaw (e.raise k x) := b
  have added {e : Device} (b : ReturnLaw e) : ReturnLaw (e.inventoryAdd 1) := b.blocks (by simp) (by simp)
  have lowered {e : Device} (b : ReturnLaw e) : ReturnLaw (e.inventorySub 1) := b.blocks (by simp) (by simp)
  have released {e : Device} (b : ReturnLaw e) : ReturnLaw (e.releaseReservation o.reservation) := by
    cases o.reservation <;> exact b
  have discharged {e : Device} (b : ReturnLaw e) : ReturnLaw e.dischargeUntracked :=
    ReturnLaw.dischargeFree (d := e.assignId) b _ _ _
  cases c with
  | loaded r =>
    have closed (out : CloseOutcome) (q : Rod) : ReturnLaw (d.closeRod out q) := law.blocks (by simp) (by simp)
    simp only [Device.reconcile, Device.reconcileLoaded]
    split
    · split
      · exact law
      · exact law.dischargeFree _ _ _
    · exact raised (released ((closed _ _).returnRod _)) _ _
    · exact lowered (raised (released (closed _ _)) _ _)
  | empty =>
    simp only [Device.reconcile, Device.reconcileEmpty]
    split
    · exact law.returnRod _
    · exact raised (discharged law) _ _
    · exact raised (lowered law) _ _
  | gap =>
    simp only [Device.reconcile, Device.reconcileGap]
    split
    · exact law
    · exact raised (added (law.returnRod _)) _ _
    · exact raised (added (discharged law)) _ _
  | unknown =>
    simp only [Device.reconcile, Device.reconcileUnknown]
    split
    · exact law
    · exact law.returnRod _
    · exact discharged law

theorem ReturnLaw.shift (law : ReturnLaw d) (o : ShiftOrder) : ReturnLaw (d.shift o) := by
  have advanced : ReturnLaw d.advance := by
    unfold Device.advance
    dsimp only
    split
    · exact ReturnLaw.fill (ReturnLaw.blocks law rfl rfl)
    · exact ReturnLaw.fill (ReturnLaw.blocks law rfl rfl)
  have reconciled := (advanced.reconcile (o := o) d.exitContent).accEnd (releases o d.exitContent)
  exact reconciled.blocks (by simp [Device.shift]) (by simp [Device.shift])

theorem ReturnLaw.stripDone (law : ReturnLaw d) (n : Nat) : ReturnLaw (d.stripDone n) := by
  have completed (slot : StripSlot) : ReturnLaw (d.completeStrip slot) := by
    have closed : ReturnLaw (d.closeRod (gateOutcome slot.gate) slot.rod) := law.blocks (by simp) (by simp)
    have cleared : ReturnLaw (d.closeRod (gateOutcome slot.gate) slot.rod).clearStrip := closed
    have counted : ReturnLaw (((d.closeRod (gateOutcome slot.gate) slot.rod).clearStrip.returnRod
        { strip := some d.acc.number }).bump .stripsDone) := cleared.returnRod { strip := some d.acc.number }
    exact counted.accEnd false
  have ignored : ReturnLaw d.ignoreStripDone := law
  unfold Device.stripDone
  split
  · split
    · exact completed _
    · exact ignored
  · split
    · exact completed _
    · exact ignored
  all_goals exact ignored

theorem ReturnLaw.stall (law : ReturnLaw d) (kind : FaultKind) : ReturnLaw (d.stall kind) := by
  unfold Device.stall
  split
  · exact law
  · exact law

theorem ReturnLaw.stripRetry (law : ReturnLaw d) : ReturnLaw (stripRetry d).1 := by
  unfold Machine.stripRetry
  split
  · rename_i slot _ _
    have started : ReturnLaw (d.startStrip slot) := law
    exact started.accEnd false
  all_goals exact law

theorem ReturnLaw.stripDiscard (law : ReturnLaw d) : ReturnLaw (stripDiscard d).1 := by
  unfold Machine.stripDiscard
  split
  · rename_i slot _ _
    have closed : ReturnLaw (d.closeRod .discarded slot.rod) := law.blocks (by simp) (by simp)
    have cleared : ReturnLaw (d.closeRod .discarded slot.rod).spillRod.clearStrip := closed
    exact cleared.accEnd false
  all_goals exact law

theorem ReturnLaw.laneDeclare (law : ReturnLaw d) (lane n : Nat) : ReturnLaw (laneDeclare lane n d).1 := by
  unfold Machine.laneDeclare
  split
  · exact law
  split
  · exact law
  split
  · exact law
  · obtain ⟨new, -, -, -, many⟩ := Device.declareMany_eq lane n d
    have declared : ReturnLaw (d.declareLane lane n) := law.congr (by simp [Device.declareLane, many])
      (by simp [Device.declareLane, many]) (by simp [Device.declareLane, many])
    have established : ReturnLaw (d.declareLane lane n).establish := declared.blocks (by simp) (by simp)
    exact established.accEnd _

theorem ReturnLaw.returnDeclare (law : ReturnLaw d) (n : Nat) : ReturnLaw (returnDeclare n d).1 := by
  unfold Machine.returnDeclare
  split
  · exact law
  · rename_i room
    refine ReturnLaw.accEnd ?_ _
    have established : ReturnLaw (Device.establish
        { ((d.setReturn n).inventoryAdd (n - d.acc.returnCount)).inventorySub (d.acc.returnCount - n) with
          acc := { (((d.setReturn n).inventoryAdd (n - d.acc.returnCount)).inventorySub (d.acc.returnCount - n)).acc with
            returnDeclared := true } }) := by
      refine ReturnLaw.declared ?_ (by simp)
      simpa [Device.setReturn] using Nat.le_of_not_lt room
    unfold Device.fillIf
    split
    · exact established.fill
    · exact established

theorem ReturnLaw.rodAdd (law : ReturnLaw d) (n : Nat) : ReturnLaw (rodAdd n d).1 := by
  unfold Machine.rodAdd
  split
  · exact law
  split
  · exact law
  split
  · exact law
  · rename_i declared room
    have counted : ReturnLaw ((d.setReturn (d.acc.returnCount + n)).inventoryAdd n) := by
      refine ReturnLaw.declared ?_ ?_
      · simpa [Device.setReturn] using Nat.le_of_not_lt room
      · simpa [Device.setReturn] using declared
    exact counted.fill.accEnd false

theorem ReturnLaw.rodRemoveReturn (law : ReturnLaw d) (n : Nat) : ReturnLaw (rodRemoveReturn n d).1 := by
  unfold Machine.rodRemoveReturn
  split
  · exact law
  split
  · exact law
  · have counted : ReturnLaw ((d.setReturn (d.acc.returnCount - n)).inventorySub n) :=
      law.fewer (by simp [Device.setReturn]) (by simp [Device.setReturn]) (by simp [Device.setReturn])
    exact counted.accEnd false

theorem ReturnLaw.rodRemoveSpill (law : ReturnLaw d) (place : Byte) (n : Nat) : ReturnLaw (rodRemoveSpill place n d).1 := by
  unfold Machine.rodRemoveSpill
  split
  · exact law
  split
  · exact law
  · have counted : ReturnLaw (Device.inventorySub n { d with track := { d.track with spill := d.track.spill - n } }) :=
      law.blocks (by simp) (by simp)
    exact counted.accEnd false

theorem ReturnLaw.accSettingsOwn (law : ReturnLaw d) (values : List (List (List Nat))) :
    ReturnLaw (accSettingsOwn values d).1 := by
  unfold Machine.accSettingsOwn
  dsimp only
  split
  · exact law
  · rename_i room
    have set : ReturnLaw (d.setTables fun t => { t with acc := accSettingsOf (firstEntry values) }) :=
      ⟨Nat.le_of_not_lt room, law.2⟩
    exact set.accEnd false

end Returns

theorem returnLaw_rods : RodLaw ReturnLaw where
  alike same law := law.congr same.returned same.returnDeclared (by rw [same.tables])
  fill law := law.fill
  reserve {d} kind law := by
    obtain ⟨r, l, -, -, -, h⟩ | ⟨r, -, -, h⟩ | ⟨-, h⟩ := d.reserveAndMove_cases kind <;> rw [h] <;> exact law
  unmoved {d m} law _ := by
    cases h : m.reservation <;> exact law
  shift {d m} seen law _ e same :=
    ReturnLaw.shift (law.congr same.returned same.returnDeclared (by rw [same.tables]; rfl)) _
  lateShift n seen law := law.shift _

theorem ReturnLaw.effect {d : Device} (law : ReturnLaw d) (i : Instr) : ReturnLaw (effect i d) := by
  have set (f : Tables → Tables) (same : ∀ t, (f t).acc = t.acc) : ReturnLaw (d.setTables f) :=
    law.congr rfl rfl (by rw [Device.setTables, same])
  have written {α : Type} (f : α → Tables → Tables) {e : Device} (tables : ∃ v, e.tables = f v d.tables)
      (same : ∀ v t, (f v t).acc = t.acc) (acc : e.acc = d.acc) : ReturnLaw e := by
    obtain ⟨v, hv⟩ := tables
    exact law.congr (by rw [acc]) (by rw [acc]) (by rw [hv, same])
  by_cases moves : keepsRods i = true
  · exact returnLaw_rods.effect moves law
  by_cases free : [Block.tables, .acc].any (touched i).contains = false
  · simp only [List.any_cons, List.any_nil, Bool.or_eq_false_iff] at free
    obtain ⟨tables, acc, -⟩ := free
    exact law.blocks (effect_acc acc d) (effect_tables tables d)
  cases i <;> first | exact absurd rfl moves | exact absurd rfl free | skip
  case powerUp lost pa ca pb cb =>
    obtain ⟨-, -, -, -, -, -, acc, -⟩ := powered_frame (if lost then none else d.stored) pa ca pb cb
    replace acc : (Machine.effect (.powerUp lost pa ca pb cb) d).acc = _ := acc
    rw [ReturnLaw, acc]
    exact ⟨Nat.zero_le _, fun _ => rfl⟩
  case tableWriteTunnel =>
    exact written (fun (v : Nat × List ZoneEntry) t => { t with length := v.1, zones := v.2 })
      (effect_tunnel_tables _ _ _ _ d) (fun _ _ => rfl) (effect_acc rfl d)
  case tableWriteProfile =>
    exact written (fun v t => { t with profiles := v }) (effect_profile_tables _ _ _ _ d) (fun _ _ => rfl) (effect_acc rfl d)
  case tableWriteFormatMap =>
    exact written (fun v t => { t with formatMap := v }) (effect_formatMap_tables _ _ _ _ d) (fun _ _ => rfl) (effect_acc rfl d)
  case tableWriteZoneLayout =>
    exact written (fun v t => { t with zones := v }) (effect_zoneLayout_tables _ _ _ _ d) (fun _ _ => rfl) (effect_acc rfl d)
  case tableWriteSampling =>
    exact written (fun v t => { t with sampling := v }) (effect_sampling_tables _ _ _ _ d) (fun _ _ => rfl) (effect_acc rfl d)
  case tableWriteFaultSettings =>
    exact written (fun v t => { t with faults := v }) (effect_faults_tables _ _ _ _ d) (fun _ _ => rfl) (effect_acc rfl d)
  case tableWriteDieSettings =>
    exact written (fun v t => { t with die := v }) (effect_die_tables _ _ _ _ d) (fun _ _ => rfl) (effect_acc rfl d)
  case tableWriteGaugeSettings =>
    exact written (fun v t => { t with gauge := v }) (effect_gauge_tables _ _ _ _ d) (fun _ _ => rfl) (effect_acc rfl d)
  case tableWritePacing =>
    exact written (fun v t => { t with pacing := v }) (effect_pacing_tables _ _ _ _ d) (fun _ _ => rfl) (effect_acc rfl d)
  case tableWriteLanes =>
    refine writeTable_induct law fun values => ?_
    unfold lanesOwn
    dsimp only
    repeat' split
    · exact law
    · exact law
    · refine ReturnLaw.accEnd (set _ ?_) _
      exact fun _ => rfl
  case tableWriteDisposition =>
    refine writeTable_induct law fun values => ?_
    unfold dispositionOwn
    dsimp only
    split
    · exact law
    · refine ReturnLaw.accEnd (set _ ?_) _
      exact fun _ => rfl
  case tableWriteAccumulatorSettings => exact writeTable_induct law fun values => law.accSettingsOwn values
  case tableWriteSpreaderSettings =>
    refine writeTable_induct law fun values => ?_
    unfold spreaderSettingsOwn Device.fillIf
    dsimp only
    split
    · refine ReturnLaw.fill (set _ ?_)
      exact fun _ => rfl
    · refine set _ ?_
      exact fun _ => rfl
  case stripDone => exact law.stripDone _
  case stripFaultReport =>
    show ReturnLaw (d.stripFault _)
    unfold Device.stripFault
    split
    · exact law.stall _
    · exact law
  case stripLimitExpiry =>
    exact expire_induct law fun t _ => ReturnLaw.stall (d := { d with time := max d.time t }) law _
  case stripRetry => exact law.stripRetry
  case stripDiscard => exact law.stripDiscard
  case stripPause => exact ReturnLaw.accEnd (d := d.setPause true) law _
  case stripResume => exact ReturnLaw.accEnd (d := d.setPause false) law _
  case laneDeclare => exact law.laneDeclare _ _
  case returnDeclare => exact law.returnDeclare _
  case rodAdd => exact law.rodAdd _
  case rodRemoveReturn => exact law.rodRemoveReturn _
  case rodRemoveSpill => exact law.rodRemoveSpill _ _

/-! Chain moves. -/

theorem MoveLaw.congr {d e : Device} (law : MoveLaw d) (same : e.pace = d.pace) : MoveLaw e := by
  rw [MoveLaw, same]
  exact law

section Moves
variable {d : Device}

/-- A pacer that neither moves nor waits for a resolution has no move in flight and no limit that counts (R66, R82). -/
theorem MoveLaw.still (law : MoveLaw d) (moving : d.pace.pacer ≠ .moving) (unresolved : d.pace.pacer ≠ .unresolved) :
    d.pace.inFlight = none ∧ d.pace.timer = none := by
  obtain ⟨-, limit, flight, -⟩ := law
  have none : ¬d.pace.inFlight.isSome := fun h => (flight h).elim moving unresolved
  exact ⟨by simpa using none, by simpa using fun h => none (limit h)⟩

/-- Only a RUNNING line has a due pending or a pacer that WAITS or is DEFERRED (R65, R66). -/
theorem MoveLaw.running (law : MoveLaw d) (owes : d.pace.due = true ∨ d.pace.pacer = .waiting ∨ d.pace.pacer = .deferred) :
    d.pace.line = .running := by
  obtain ⟨-, -, -, stopped, -⟩ := law
  cases h : d.pace.line with
  | running => rfl
  | stopped =>
    obtain ⟨waiting, deferred, due⟩ := stopped h
    rcases owes with owes | owes | owes
    · rw [due] at owes; cases owes
    · exact absurd owes waiting
    · exact absurd owes deferred

theorem MoveLaw.startMove (law : MoveLaw d) (kind : MoveKind) (reservation : Option Nat) (disposition : Option Disposition) :
    MoveLaw (d.startMove kind reservation disposition) := by
  obtain ⟨-, -, -, stopped, -⟩ := law
  have due (h : d.pace.line = .stopped) : d.pace.due = false := (stopped h).2.2
  exact ⟨nofun, fun _ => rfl, fun _ => .inl rfl, fun h => ⟨nofun, nofun, due h⟩, fun _ => nofun, iff_of_false nofun nofun⟩

theorem MoveLaw.reserveAndMove (law : MoveLaw d) (kind : MoveKind) : MoveLaw (d.reserveAndMove kind).1
    ∧ ((d.reserveAndMove kind).2 = .started ∨ (d.reserveAndMove kind).1.pace = d.pace) := by
  obtain ⟨r, l, -, -, -, h⟩ | ⟨r, -, -, h⟩ | ⟨-, h⟩ := d.reserveAndMove_cases kind <;> rw [h]
  · exact ⟨MoveLaw.startMove (d := d.modifyLane l LaneRt.reserve) law _ _ _, .inl rfl⟩
  · exact ⟨law, .inr rfl⟩
  · exact ⟨law.startMove _ _ _, .inl rfl⟩

/-- An attempt starts a move, or leaves the pacer as it was (R74, R76). -/
theorem MoveLaw.attempt (law : MoveLaw d) (kind : MoveKind) :
    MoveLaw (d.attempt kind).1 ∧ ((d.attempt kind).2 = .started ∨ (d.attempt kind).1.pace = d.pace) := by
  obtain ⟨-, h⟩ | ⟨-, h⟩ := d.attempt_cases kind <;> rw [h]
  · exact ⟨law, .inr rfl⟩
  · have checked : (exitCheck (update d.setHold)).pace = d.pace := by simp
    rw [← checked]
    exact MoveLaw.reserveAndMove (law.congr checked) kind

theorem MoveLaw.deferPace (law : MoveLaw d) (runs : d.pace.line = .running) (none : d.pace.inFlight = none ∧ d.pace.timer = none)
    (reason : DeferralReason) : MoveLaw (d.deferPace reason) := by
  obtain ⟨flight, limit⟩ := none
  refine ⟨nofun, fun h => ?_, fun h => ?_, fun h => ?_, fun _ => nofun, iff_of_true rfl rfl⟩
  · exact absurd (limit ▸ h) nofun
  · exact absurd (flight ▸ h) nofun
  · exact absurd (runs.symm.trans h) nofun

theorem MoveLaw.pacedAttempt (law : MoveLaw d) (runs : d.pace.line = .running)
    (none : d.pace.inFlight = none ∧ d.pace.timer = none) : MoveLaw d.pacedAttempt := by
  obtain ⟨attempted, ends⟩ := law.attempt .paced
  have deferred (reason : DeferralReason) (unstarted : (d.attempt .paced).2 ≠ .started) :
      MoveLaw ((d.attempt .paced).1.deferPace reason) := by
    have same := ends.resolve_left unstarted
    exact attempted.deferPace (by rw [same, runs]) (by rw [same]; exact none) reason
  obtain ⟨-, h⟩ | ⟨ended, h⟩ | ⟨ended, h⟩ := d.pacedAttempt_cases <;> rw [h]
  · exact attempted
  · exact deferred _ (by rw [ended]; nofun)
  · exact (deferred .laneFull (by rw [ended]; nofun)).congr (by simp)

theorem MoveLaw.due (law : MoveLaw d) (runs : d.pace.line = .running) : MoveLaw d.due := by
  obtain ⟨waiting, h⟩ | ⟨-, -, h⟩ | ⟨-, h⟩ | ⟨-, h⟩ := d.due_cases <;> rw [h]
  · exact law.pacedAttempt runs (law.still (by rw [waiting]; nofun) (by rw [waiting]; nofun))
  · obtain ⟨unresolved, limit, flight, -, running, deferred⟩ := law
    exact ⟨unresolved, limit, flight, fun h => absurd (runs.symm.trans h) nofun, running, deferred⟩
  · exact law
  · exact law

/-- The pacer rests after its move has ended (R79, R84). -/
theorem MoveLaw.rest (law : MoveLaw d) (none : d.pace.inFlight = none ∧ d.pace.timer = none) : MoveLaw d.rest := by
  obtain ⟨flight, limit⟩ := none
  obtain ⟨-, -, -, stopped, -⟩ := law
  have pacer : d.rest.pace.pacer = if d.pace.line = .running then .waiting else .idle := rfl
  have resting : d.rest.pace.pacer = .waiting ∧ d.pace.line = .running ∨ d.rest.pace.pacer = .idle ∧ d.pace.line ≠ .running := by
    rw [pacer]
    split
    · rename_i h; exact .inl ⟨rfl, h⟩
    · rename_i h; exact .inr ⟨rfl, h⟩
  refine ⟨fun h => ?_, fun h => absurd (limit ▸ (show d.pace.timer.isSome from h)) nofun,
    fun h => absurd (flight ▸ (show d.pace.inFlight.isSome from h)) nofun, fun h => ?_, fun h => ?_, iff_of_false ?_ nofun⟩
  · obtain ⟨waiting, -⟩ | ⟨idle, -⟩ := resting
    · exact absurd (waiting.symm.trans h) nofun
    · exact absurd (idle.symm.trans h) nofun
  · obtain ⟨-, runs⟩ | ⟨idle, -⟩ := resting
    · exact absurd (runs.symm.trans h) nofun
    · exact ⟨by rw [idle]; nofun, by rw [idle]; nofun, (stopped h).2.2⟩
  · obtain ⟨waiting, -⟩ | ⟨-, stands⟩ := resting
    · rw [waiting]; nofun
    · exact absurd h stands
  · obtain ⟨waiting, -⟩ | ⟨idle, -⟩ := resting
    · rw [waiting]; nofun
    · rw [idle]; nofun

theorem MoveLaw.proceed (law : MoveLaw d) (none : d.pace.inFlight = none ∧ d.pace.timer = none) : MoveLaw d.proceed := by
  unfold Device.proceed
  split
  · rename_i owed
    have runs := law.running (.inl owed)
    obtain ⟨unresolved, limit, flight, -, running, deferred⟩ := law.rest none
    refine MoveLaw.pacedAttempt (d := { d.rest with pace := { d.rest.pace with due := false } }) ?_ runs none
    exact ⟨unresolved, limit, flight, fun h => absurd (runs.symm.trans h) nofun, running, deferred⟩
  · exact law.rest none

/-- A move that ends with a shift leaves the pacer MOVING until the shift is reported done (log entry 11). -/
theorem MoveLaw.endMove {m : Move} (law : MoveLaw d) (moving : d.pace.inFlight = some m) : MoveLaw d.endMove := by
  obtain ⟨-, -, flight, stopped, -, deferred⟩ := law
  have undeferred : ¬d.pace.pacer = .deferred := by
    rcases flight (by rw [moving]; rfl) with h | h <;> rw [h] <;> nofun
  exact ⟨nofun, nofun, nofun, fun h => ⟨nofun, nofun, (stopped h).2.2⟩, fun _ => nofun,
    iff_of_false nofun fun h => undeferred (deferred.mpr h)⟩

theorem MoveLaw.shiftAndReport (law : MoveLaw d) (o : ShiftOrder) (late : Bool) : MoveLaw (d.shiftAndReport o late) :=
  law.congr (by simp)

theorem MoveLaw.lateDone (law : MoveLaw d) (n : Nat) (seen : Sighting) : MoveLaw (d.lateDone n seen) := by
  unfold Device.lateDone
  split
  · exact MoveLaw.shiftAndReport (d := Device.raise _ _ { d with pace := { d.pace with lateWindow := none } }) law _ _
  · exact law

theorem MoveLaw.moveDone (law : MoveLaw d) (n : Nat) (seen : Sighting) : MoveLaw (d.moveDone n seen) := by
  have ignored : MoveLaw d.ignoreDone := law
  unfold Device.moveDone
  split
  · split
    · rename_i m hm
      split
      · exact (law.endMove hm).shiftAndReport _ _
      · exact ignored
    · exact ignored
  · split
    · rename_i m hm
      split
      · have left : MoveLaw (d.endMove.notifyLine .unresolvedLeave) := (law.endMove hm).congr (by simp)
        exact left.shiftAndReport _ _
      · exact ignored
    · exact ignored
  all_goals exact law.lateDone n seen

theorem MoveLaw.moveResolveMoved (law : MoveLaw d) : MoveLaw (moveResolveMoved d).1 := by
  unfold Machine.moveResolveMoved
  repeat' split
  · rename_i m hm
    have left : MoveLaw (d.endMove.notifyLine .unresolvedLeave) := (law.endMove hm).congr (by simp)
    exact left.shiftAndReport _ _
  all_goals exact law

theorem MoveLaw.notMoved {m : Move} (law : MoveLaw d) (moving : d.pace.inFlight = some m) : MoveLaw (d.notMoved m) := by
  have ended : MoveLaw { (d.releaseReservation m.reservation).endMove with
      pace := { (d.releaseReservation m.reservation).endMove.pace with lateWindow := some m.number } } := by
    cases m.reservation <;> exact law.endMove moving
  have rested := ended.rest ⟨rfl, rfl⟩
  exact MoveLaw.proceed (rested.congr (by simp)) (by simp [Device.rest, Device.endMove])

theorem MoveLaw.moveResolveNotMoved (law : MoveLaw d) (outcome : Byte) : MoveLaw (moveResolveNotMoved outcome d).1 := by
  unfold Machine.moveResolveNotMoved
  repeat' split
  · rename_i m hm; exact law.notMoved hm
  all_goals exact law

/-- The law speaks of the line, the pacer, the due, the move in flight, its limit and the deferral (R66). -/
theorem MoveLaw.same {e : Device} (law : MoveLaw d) (line : e.pace.line = d.pace.line) (pacer : e.pace.pacer = d.pace.pacer)
    (due : e.pace.due = d.pace.due) (move : e.pace.inFlight = d.pace.inFlight) (limit : e.pace.timer = d.pace.timer)
    (reason : e.pace.reason = d.pace.reason) : MoveLaw e := by
  rw [MoveLaw, line, pacer, due, move, limit, reason]
  exact law

theorem MoveLaw.nextInterval (law : MoveLaw d) : MoveLaw d.nextInterval := by
  unfold Device.nextInterval
  dsimp only
  split <;> exact law

theorem line_nextInterval (d : Device) : d.nextInterval.pace.line = d.pace.line := by
  unfold Device.nextInterval
  dsimp only
  split <;> rfl

theorem MoveLaw.pulse (law : MoveLaw d) (edge : Edge) : MoveLaw (d.pulse edge) := by
  unfold Device.pulse
  dsimp only
  split
  · rename_i runs
    have counted : MoveLaw { d with pace := { d.pace with lastEdge := some d.time, pulses := d.pace.pulses + 1 } } := law
    split
    · exact counted.nextInterval.due (by rw [line_nextInterval]; exact runs.1)
    · exact counted
  · exact law

/-- The pitch timer counts while the line is RUNNING only (R69). -/
theorem running_of_pitchDeadline {t : Nat} (h : d.pitchDeadline = some t) : d.pace.line = .running := by
  unfold Device.pitchDeadline at h
  split at h
  · rename_i runs
    exact runs.1
  · cases h

theorem MoveLaw.stopLine (law : MoveLaw d) (cause : StopCause) : MoveLaw (d.stopLine cause) := by
  obtain ⟨unresolved, limit, flight, -, -, deferred⟩ := law
  have none (h : ¬d.pace.pacer = .deferred) : ¬d.pace.reason.isSome := fun r => h (deferred.mpr r)
  rw [MoveLaw, Device.stopLine_pace]
  dsimp only
  cases h : d.pace.pacer <;> rw [h] at unresolved flight <;>
    simp_all

/-- A RUNNING line that is not IDLE keeps the law (R64). -/
theorem MoveLaw.run {e : Device} (law : MoveLaw d) (line : e.pace.line = .running)
    (pacer : d.pace.pacer = .idle ∧ e.pace.pacer = .waiting ∨ d.pace.pacer ≠ .idle ∧ e.pace.pacer = d.pace.pacer)
    (move : e.pace.inFlight = d.pace.inFlight) (limit : e.pace.timer = d.pace.timer) (reason : e.pace.reason = d.pace.reason) :
    MoveLaw e := by
  have idle (h : d.pace.pacer = .idle) := law.still (by rw [h]; nofun) (by rw [h]; nofun)
  obtain ⟨unresolved, counts, flight, -, -, deferred⟩ := law
  rw [MoveLaw, line, move, limit, reason]
  obtain ⟨rested, waits⟩ | ⟨moves, same⟩ := pacer
  · obtain ⟨none, off⟩ := idle rested
    rw [waits, none, off]
    exact ⟨nofun, nofun, nofun, nofun, fun _ => nofun,
      iff_of_false nofun fun h => absurd (rested.symm.trans (deferred.mpr h)) nofun⟩
  · rw [same]
    exact ⟨unresolved, counts, flight, nofun, fun _ => moves, deferred⟩

theorem MoveLaw.lineRun (law : MoveLaw d) : MoveLaw (lineRun d).1 := by
  unfold Machine.lineRun
  split
  · exact law
  split
  · exact law
  split
  · exact law
  split
  · exact law
  · dsimp only
    split
    · rename_i idle
      exact law.run (by simp; rfl) (.inl ⟨idle, by simp⟩) (by simp; rfl) (by simp; rfl) (by simp; rfl)
    · rename_i moves
      exact law.run (by simp; rfl) (.inr ⟨moves, by simp; rfl⟩) (by simp; rfl) (by simp; rfl) (by simp; rfl)

theorem MoveLaw.jog (law : MoveLaw d) : MoveLaw (jog d).1 := by
  obtain ⟨attempted, -⟩ := law.attempt .jog
  obtain h | h | h := jog_cases d <;> rw [h]
  · exact law
  · exact attempted
  · exact attempted.congr (by simp)

/-- The move limit is reached (R82). -/
theorem MoveLaw.moveExpired (law : MoveLaw d) {t : Nat} (counts : d.moveDeadline = some t) : MoveLaw d.moveExpired := by
  unfold Device.moveDeadline at counts
  split at counts
  · rename_i moving
    obtain ⟨-, limit, -, stopped, -, deferred⟩ := law
    have flight : d.pace.inFlight.isSome := limit (by cases h : d.pace.timer <;> simp_all)
    have none : ¬d.pace.reason.isSome := fun r => absurd (moving.symm.trans (deferred.mpr r)) nofun
    have expired : MoveLaw { d with pace := { d.pace with pacer := .unresolved, timer := Option.none } } :=
      ⟨fun _ => flight, nofun, fun _ => .inr rfl, fun h => ⟨nofun, nofun, (stopped h).2.2⟩, fun _ => nofun,
        iff_of_false nofun none⟩
    exact expired.congr (by simp [Device.moveExpired])
  · cases counts

theorem MoveLaw.shiftDone (law : MoveLaw d) (late : Bool) : MoveLaw (d.shiftDone late) := by
  have reported : MoveLaw (d.shiftReported late) := by
    unfold Device.shiftReported
    split
    · exact law
    split
    · rename_i ended
      have ⟨_, limit, _⟩ := law
      have none : d.pace.timer = none := by
        cases h : d.pace.timer with
        | none => rfl
        | some t => exact absurd (ended.2 ▸ limit (by rw [h]; rfl)) nofun
      exact law.proceed ⟨ended.2, none⟩
    · exact law
  exact reported.congr (by simp [Device.shiftDone])

end Moves

theorem MoveLaw.effect {d : Device} (law : MoveLaw d) (i : Instr) : MoveLaw (effect i d) := by
  have timed (t : Nat) : MoveLaw { d with time := t } := law
  by_cases free : (touched i).contains .pace = false
  · exact law.congr (effect_pace free d)
  cases i <;> first | exact absurd rfl free | skip
  case powerUp lost pa ca pb cb =>
    obtain ⟨-, -, -, -, pace, -⟩ := powered_frame (if lost then none else d.stored) pa ca pb cb
    replace pace : (Machine.effect (.powerUp lost pa ca pb cb) d).pace = _ := pace
    rw [MoveLaw, pace]
    exact ⟨nofun, nofun, nofun, fun _ => ⟨nofun, nofun, rfl⟩, nofun, iff_of_false nofun nofun⟩
  case tableWritePacing =>
    refine writeTable_induct law fun values => ?_
    unfold pacingOwn
    dsimp only
    split <;> exact law
  case lineRun => exact law.lineRun
  case lineStop => exact law.stopLine _
  case stopOrder cause => exact MoveLaw.stopLine (d := d.take (.stop cause)) law _
  case paceRestart =>
    show MoveLaw (Machine.paceRestart d).1
    unfold Machine.paceRestart
    split <;> exact law
  case moveLimitExpiry => exact expire_induct law fun t ht => (timed _).moveExpired ht
  case jog => exact law.jog
  case moveResolveMoved => exact law.moveResolveMoved
  case moveResolveNotMoved => exact law.moveResolveNotMoved _
  case pitchTimerExpiry =>
    exact expire_induct law fun t ht => (timed _).nextInterval.due (by
      rw [line_nextInterval]
      exact running_of_pitchDeadline ht)
  case pressScrewPulse => exact MoveLaw.pulse (timed _) _
  case attemptRetry report =>
    have taken : MoveLaw (d.take (.retry report)) := law
    show MoveLaw ((d.take (.retry report)).retry report)
    unfold Device.retry
    split
    · rename_i deferred
      exact taken.pacedAttempt (taken.running (.inr (.inr deferred.1)))
        (taken.still (by rw [deferred.1]; nofun) (by rw [deferred.1]; nofun))
    · exact taken
  case moveDone => exact law.moveDone _ _
  case shiftDoneReport => exact MoveLaw.shiftDone (d := d.take _) law _

/-- Settles O54: the factors, the return buffer and the pacer are changed by the commands above only, and each of them keeps
its law. -/
theorem factorReturnMoveLawsKept : Obligations.FactorReturnMoveLawsKept := by
  unfold Obligations.FactorReturnMoveLawsKept
  refine fun s t h => ⟨?_, ?_, ?_⟩
  · exact step_keeps (fun _ _ same law => law.congr (by rw [same.1])) (fun i _ law => law.effect i) h
  · exact step_keeps (fun _ _ same law => law.blocks (by rw [same.1]) (by rw [same.1])) (fun i _ law => law.effect i) h
  · exact step_keeps (fun _ _ same law => law.congr (by rw [same.1])) (fun i _ law => law.effect i) h

end Sys2Proof.Machine
end

section
/-! SUPPORT. The laws on the sizes and the order of the host link's queues (R188, R190): what the link port does to its queues,
one operation at a time, and that every step keeps both laws. -/

namespace Sys2Proof.Machine

/-- The queues of requests and replies, the frame being sent and the store's write, of the link. -/
def Link.port (l : Link) : Link := { l.silent with collecting := none, lastByte := 0, sequence := 0 }

theorem of_port {a b : Link} (h : a.port = b.port) : a.queue = b.queue ∧ a.replies = b.replies ∧ a.queueFull = b.queueFull
    ∧ a.tx = b.tx ∧ a.storeWrite = b.storeWrite := by
  simpa [Link.port, Link.silent] using h

/-- The oldest request not yet replied waits to be served (R188). -/
def Device.Waits (d : Device) : Prop :=
  ∃ replied f rest, d.link.queue = replied ++ ⟨f, .waiting⟩ :: rest ∧ ∀ x ∈ replied, x.stage = .answered

theorem Device.waits_of_nextRequest {d : Device} {f : Frame} (h : d.nextRequest = some f) : d.Waits := by
  obtain ⟨replied, rest, queue, answered⟩ := Device.queue_of_nextRequest h
  exact ⟨replied, f, rest, queue, answered⟩

theorem Device.Waits.port {d e : Device} (waits : d.Waits) (same : e.link.port = d.link.port) : e.Waits := by
  obtain ⟨queue, -⟩ := of_port same
  rw [Device.Waits, queue]
  exact waits

/-- Power-up empties the link, and places its notice (R187, R188, R190). -/
theorem powered_link (stored : Option StoredCopy) (pa ca pb cb : Bool) :
    (powered stored pa ca pb cb).link.silent = (freshDevice ((usable stored).getD defaultTables) stored).link.silent
      ∧ ((freshDevice ((usable stored).getD defaultTables) stored).link.fits → (powered stored pa ca pb cb).link.fits) := by
  have link : (powered stored pa ca pb cb).link
      = ((freshDevice ((usable stored).getD defaultTables) stored).notifyLine .powerUp).link := by
    simp [powered, Device.queryCarriage, Device.stopDrive]
  rw [link]
  exact Device.notifyLine_link ..

/-- A law on the link port: it sees the queues of requests and replies, the frame being sent and the store's write, and
whether the notices fit, and each operation of the link port keeps it. -/
structure PortLaw (P : Device → Prop) : Prop where
  port : ∀ {d e}, e.link.port = d.link.port → (d.link.fits → e.link.fits) → P d → P e
  pump : ∀ {d}, P d → P d.pump
  receive : ∀ {d} (f : Frame), P d → P (d.receive f)
  reply : ∀ {d} (f : Frame) (a : Answer), d.Waits → P d → P (d.reply f a)
  held : ∀ {d}, d.Waits → P d → P { d with link := { d.link with queue := setStage .serving d.link.queue } }
  storing : ∀ {d} (f : Frame), d.Waits → P d → P (d.serve f store)
  frameSent : ∀ {d}, P d → P d.frameSent
  endStore : ∀ {d} (ok : Bool), P d → P (d.endStore ok)
  restarted : ∀ {d}, P d → P d.restarted
  fresh : ∀ tables stored, P (freshDevice tables stored)

section Port
variable {P : Device → Prop} {d : Device}

theorem PortLaw.of (law : PortLaw P) {e : Device} (h : P d) (same : e.link.port = d.link.port)
    (fits : d.link.fits → e.link.fits) : P e := law.port same fits h

theorem PortLaw.silent (law : PortLaw P) {e : Device} (same : e.link.silent = d.link.silent ∧ (d.link.fits → e.link.fits))
    (h : P d) : P e :=
  law.port (by rw [Link.port, Link.port, same.1]) same.2 h

theorem PortLaw.takeByte (law : PortLaw P) (h : P d) (b : Byte) : P (d.takeByte b) := by
  have hunt {e : Device} (h : P e) : P e.hunt := law.of h rfl id
  have collect {e : Device} (bytes : List Byte) (h : P e) : P (e.collect bytes) := law.of h rfl id
  have bad : P d.badFrame := law.of h rfl id
  unfold Device.takeByte
  split
  · split
    · exact collect [] h
    · exact h
  · unfold Device.moreBytes
    split
    · exact collect [] h
    split
    · exact bad
    split
    · unfold Device.endFrame
      split
      · exact law.receive _ (hunt h)
      · exact bad
    · exact collect _ h

theorem PortLaw.takeBytes (law : PortLaw P) (h : P d) (bytes : List Byte) : P (d.takeBytes bytes) := by
  have taken (e : Device) (h : P e) : P (bytes.foldl Device.takeByte e) := by
    induction bytes generalizing e with
    | nil => exact h
    | cons b bs ih => exact ih _ (law.takeByte h b)
  have gap : P d.endGap := by
    unfold Device.endGap
    repeat' split
    · exact law.of h rfl id
    all_goals exact h
  unfold Device.takeBytes
  dsimp only
  by_cases none : bytes = []
  · simp only [if_pos none]
    exact taken d h
  · simp only [if_neg none]
    exact law.of (taken _ gap) rfl id

theorem PortLaw.serve (law : PortLaw P) {f : Frame} {own : Device → Device × Option Answer} (h : P (own d).1)
    (waits : (own d).1.Waits) : P (d.serve f own) := by
  simp only [Device.serve]
  split
  · exact law.reply _ _ waits h
  · exact law.held waits h

/-- A request is received and, in its turn, served. -/
theorem PortLaw.request (law : PortLaw P) {f : Frame} {own : Device → Device × Option Answer}
    (serves : ∀ e, e.Waits → P e → P (e.serve f own)) (h : P d) : P (d.request f own) := by
  have arrived : P (if d.nextRequest = some f then d else d.receive f) := by
    split
    · exact h
    · exact law.receive f h
  have served (e : Device) (h : P e) : P (if e.nextRequest = some f then e.serve f own else e) := by
    split
    · rename_i turn
      exact serves e (e.waits_of_nextRequest turn) h
    · exact h
  exact served _ arrived

theorem Device.Waits.restarted {d : Device} (waits : d.Waits) : d.restarted.Waits := by
  obtain ⟨replied, f, rest, queue, answered⟩ := waits
  refine ⟨[], f, rest, ?_, nofun⟩
  show d.link.queue.dropWhile _ = _
  rw [queue, List.dropWhile_append_of_pos (by simpa using answered)]
  rfl

/-- Each command keeps a law on the link port. -/
theorem PortLaw.exec (law : PortLaw P) {i : Instr} {s t : State} (h : exec i s = .next t) (holds : P s.dev) : P t.dev := by
  have ran {act : Device → Device} (acts : P (act s.dev)) (h : run act s = .next t) : P t.dev := by
    cases h
    exact law.pump acts
  by_cases free : (touched i).contains .link = false
  · have acts (d : Device) (h : P d) : P (effect i d) := law.silent (effect_link free d) h
    obtain event | ⟨f, own, keeps, request⟩ := meant i
    · exact ran (acts _ holds) (event s ▸ h)
    · refine ran (law.request (fun e waits h => ?_) holds) (request s ▸ h)
      have port : (effect i e).link.port = e.link.port := by
        rw [Link.port, Link.port, (effect_link free e).1]
      refine law.serve ?_ ?_
      · obtain same | same := keeps e <;> rw [same]
        · exact h
        · exact acts e h
      · obtain same | same := keeps e <;> rw [same]
        · exact waits
        · exact waits.port port
  cases i <;> first | exact absurd rfl free | skip
  case powerUp lost pa ca pb cb =>
    exact ran (act := fun d => powered (if lost then none else d.stored) pa ca pb cb) (law.silent (powered_link ..) (law.fresh ..)) h
  case hostFrame bytes => exact ran (law.takeBytes holds bytes) h
  case frameGapTimeout =>
    exact ran (expire_induct (deadline := s.dev.gapDeadline) holds fun t _ => law.of holds rfl id) h
  case frameSent =>
    exact ran (expire_induct (deadline := s.dev.link.tx.map Transmission.done) holds fun t _ =>
      law.frameSent (law.of holds rfl id)) h
  case store =>
    refine ran (law.request (fun e waits h => ?_) holds) h
    exact law.storing _ waits h
  case storeWriteEnd ok => exact ran (law.endStore ok holds) h
  case storeLimitExpiry =>
    exact ran (expire_induct (deadline := s.dev.storeDeadline) holds fun t _ =>
      law.endStore false (law.of holds rfl id)) h
  case restart =>
    refine ran (law.request (fun e waits h => law.serve ?_ ?_) holds) h
    · split
      · unfold Machine.restart
        split
        · exact h
        · exact law.restarted h
      · exact h
    · split
      · unfold Machine.restart
        split
        · exact waits
        · exact waits.restarted
      · exact waits

theorem PortLaw.step (law : PortLaw P) {s t : State} (h : step s = .next t) (holds : P s.dev) : P t.dev := by
  obtain ⟨i, u, hu, hi⟩ | rfl := step_cases h
  · exact law.exec hi (hu ▸ holds)
  · exact law.of holds rfl id

end Port

/-! The sizes. -/

theorem setStage_length (stage : Stage) (hs : List Held) : (setStage stage hs).length = hs.length := by
  induction hs with
  | nil => rfl
  | cons h hs ih =>
    unfold setStage
    split
    · simp [ih]
    · rfl

theorem queueLaw_port : PortLaw QueueLaw where
  port {d e} same fits law := by
    obtain ⟨queue, -⟩ := of_port same
    exact ⟨by rw [queue]; exact law.1, fits law.2⟩
  pump {d} law := by
    obtain ⟨requests, notices, dropped⟩ := law
    unfold Device.pump
    split
    · exact ⟨requests, notices, dropped⟩
    split
    · exact ⟨requests, notices, dropped⟩
    split
    · exact ⟨requests, notices, dropped⟩
    split
    · exact ⟨requests, notices, dropped⟩
    · rename_i n ns h
      rw [h] at notices
      exact ⟨requests, (Nat.le_succ _).trans notices, Nat.zero_le _⟩
  receive {d} f law := by
    obtain ⟨requests, fits⟩ := law
    obtain ⟨room, h⟩ | ⟨-, -, h⟩ | ⟨-, -, h⟩ := d.receive_cases f <;> rw [h]
    · exact ⟨by rw [List.length_append]; exact room, fits⟩
    · exact ⟨requests, fits⟩
    · exact ⟨requests, fits⟩
  reply f a _ law := ⟨(setStage_length ..).trans_le law.1, law.2⟩
  held _ law := ⟨(setStage_length ..).trans_le law.1, law.2⟩
  storing f _ law := ⟨(setStage_length ..).trans_le law.1, law.2⟩
  frameSent {d} law := by
    obtain ⟨requests, fits⟩ := law
    unfold Device.frameSent
    split
    · exact ⟨requests, fits⟩
    · refine ⟨?_, fits⟩
      dsimp only
      split
      · exact (by simp : (d.link.queue.drop 1).length ≤ d.link.queue.length).trans requests
      · exact requests
  endStore {d} ok law := by
    obtain ⟨requests, fits⟩ := law
    unfold Device.endStore
    split
    · exact ⟨requests, fits⟩
    · dsimp only
      split
      · exact ⟨(setStage_length ..).trans_le requests, fits⟩
      · exact ⟨requests, fits⟩
  restarted {d} law :=
    ⟨(List.dropWhile_sublist _).length_le.trans law.1, Nat.zero_le _, Nat.zero_le _⟩
  fresh _ _ := ⟨Nat.zero_le _, Nat.zero_le _, Nat.zero_le _⟩

/-! The order. -/

/-- The request queue split at the oldest request not yet replied: what stands behind that one waits (R188). -/
structure Split (queue replied rest : List Held) : Prop where
  queue : queue = replied ++ rest
  answered : ∀ h ∈ replied, h.stage = .answered
  ahead : ∀ h ∈ rest.head?, h.stage ≠ .answered
  behind : ∀ h ∈ rest.drop 1, h.stage = .waiting

theorem Split.takeWhile {queue replied rest : List Held} (split : Split queue replied rest) :
    queue.takeWhile (fun h => decide (h.stage = .answered)) = replied := by
  obtain ⟨rfl, answered, ahead, -⟩ := split
  rw [List.takeWhile_append_of_pos (by simpa using answered)]
  cases rest with
  | nil => simp
  | cons h rest => simp [ahead h rfl]

theorem Split.dropWhile {queue replied rest : List Held} (split : Split queue replied rest) :
    queue.dropWhile (fun h => decide (h.stage = .answered)) = rest := by
  obtain ⟨rfl, answered, ahead, -⟩ := split
  rw [List.dropWhile_append_of_pos (by simpa using answered)]
  cases rest with
  | nil => rfl
  | cons h rest => simp [ahead h rfl]

/-- Setting the stage of the oldest request not yet replied. -/
theorem Split.setStage {queue replied rest : List Held} {h : Held} (split : Split queue replied (h :: rest)) (stage : Stage) :
    setStage stage queue = replied ++ { h with stage := stage } :: rest := by
  obtain ⟨rfl, answered, ahead, -⟩ := split
  have unanswered := ahead h rfl
  induction replied with
  | nil => simp [Machine.setStage, unanswered]
  | cons x xs ih =>
    have first := answered x List.mem_cons_self
    simp only [List.cons_append, Machine.setStage, first, if_true, List.cons.injEq, true_and]
    exact ih fun y hy => answered y (List.mem_cons_of_mem _ hy)

/-- The law on the order of requests, with the queue split at the oldest request not yet replied (R188). -/
theorem serveLaw_iff (d : Device) : ServeLaw d ↔ ∃ replied rest, Split d.link.queue replied rest
    ∧ d.holding ≤ replied.length ∧ (∀ r, d.link.queueFull = some r → r.holds = false)
    ∧ (d.link.storeWrite.isSome → ∃ h ∈ rest.head?, h.stage = .serving) := by
  have served {replied rest : List Held} (split : Split d.link.queue replied rest) :
      d.serving.isSome ↔ ∃ h ∈ rest.head?, h.stage = .serving := by
    obtain ⟨queue, answered, ahead, behind⟩ := split
    rw [Device.serving, Option.isSome_map, List.find?_isSome, queue]
    constructor
    · rintro ⟨x, mem, serving⟩
      have serves : x.stage = .serving := by simpa using serving
      rcases List.mem_append.mp mem with mem | mem
      · exact absurd (serves.symm.trans (answered x mem)) nofun
      · cases rest with
        | nil => cases mem
        | cons h rest =>
          rcases List.mem_cons.mp mem with rfl | mem
          · exact ⟨x, rfl, serves⟩
          · exact absurd (serves.symm.trans (behind x mem)) nofun
    · rintro ⟨h, head, serves⟩
      exact ⟨h, List.mem_append_right _ (List.mem_of_mem_head? head), by simpa using serves⟩
  constructor
  · rintro ⟨behind, places, full, writes⟩
    have split : Split d.link.queue (d.link.queue.takeWhile fun h => decide (h.stage = .answered))
        (d.link.queue.dropWhile fun h => decide (h.stage = .answered)) :=
      ⟨List.takeWhile_append_dropWhile.symm, fun h mem => by simpa using List.mem_takeWhile_imp mem, fun h mem => by
        have := List.head?_dropWhile_not (fun h : Held => decide (h.stage = .answered)) d.link.queue
        rw [Option.mem_def.mp mem] at this
        simpa using this, behind⟩
    exact ⟨_, _, split, places, full, fun w => (served split).mp (writes w)⟩
  · rintro ⟨replied, rest, split, places, full, writes⟩
    exact ⟨by rw [split.dropWhile]; exact split.behind, by rw [split.takeWhile]; exact places, full,
      fun w => (served split).mpr (writes w)⟩

theorem freesPlace_free (t : Transmission) : t.free.item.freesPlace = false := by
  unfold Transmission.free
  split
  · rfl
  · rename_i h
    rw [h]
    rfl

/-- The places held, by the reply line and the frame being sent. -/
theorem holding_eq (d : Device) : d.holding = d.link.replies.countP Reply.holds
    + ((d.link.tx.map fun t => if t.item.freesPlace then 1 else 0).getD 0) := by
  unfold Device.holding
  cases d.link.tx <;> rfl

/-- A request whose turn has come heads the requests not yet replied. -/
theorem Split.of_waits {d : Device} {replied rest : List Held} (split : Split d.link.queue replied rest) (waits : d.Waits) :
    ∃ f rest', rest = ⟨f, .waiting⟩ :: rest' := by
  obtain ⟨before, f, after, queue, answered⟩ := waits
  refine ⟨f, after, ?_⟩
  rw [← split.dropWhile, queue, List.dropWhile_append_of_pos (by simpa using answered)]
  rfl

/-- While a request waits to be served, no store is written (R195). -/
theorem notWriting_of_waiting {d : Device} {h : Held} {rest : List Held}
    (writes : d.link.storeWrite.isSome → ∃ x ∈ (h :: rest).head?, x.stage = .serving) (waiting : h.stage = .waiting) :
    d.link.storeWrite = none := by
  cases hw : d.link.storeWrite with
  | none => rfl
  | some w =>
    obtain ⟨x, head, serving⟩ := writes (by rw [hw]; rfl)
    cases head
    exact absurd (waiting.symm.trans serving) nofun

/-- The oldest request not yet replied is served from now on. -/
theorem Split.served {queue replied rest : List Held} {h : Held} (split : Split queue replied (h :: rest)) :
    Split (Machine.setStage .serving queue) replied ({ h with stage := .serving } :: rest) :=
  ⟨split.setStage .serving, split.answered, fun x mem => by cases mem; nofun, split.behind⟩

/-- A reply to the oldest request not yet replied keeps the order (R188). -/
theorem serveLaw_of_reply {d e : Device} {replied rest : List Held} {h : Held} (split : Split d.link.queue replied (h :: rest))
    (places : d.holding ≤ replied.length) (full : ∀ r, d.link.queueFull = some r → r.holds = false)
    {stored : Option StoredCopy} {write : Option StoreWrite}
    (ended : e = { d with stored := stored, link := { d.link with storeWrite := write } }) (idle : write = none) (f : Frame)
    (a : Answer) : ServeLaw (e.reply f a) := by
  subst ended idle
  have staged := split.setStage .answered
  obtain ⟨queue, answered, ahead, behind⟩ := split
  refine (serveLaw_iff _).mpr ⟨replied ++ [{ h with stage := .answered }], rest, ⟨?_, ?_, ?_, ?_⟩, ?_, full, nofun⟩
  · rw [List.append_assoc]
    exact staged
  · intro x mem
    rcases List.mem_append.mp mem with mem | mem
    · exact answered x mem
    · rw [List.mem_singleton.mp mem]
  · intro x mem
    rw [behind x (List.mem_of_mem_head? mem)]
    nofun
  · exact fun x mem => behind x (List.mem_of_mem_drop mem)
  · rw [holding_eq] at places ⊢
    have one : (d.link.replies ++ [(⟨f.kind, f.tag, a.status, a.detail, a.data, true⟩ : Reply)]).countP Reply.holds
        = d.link.replies.countP Reply.holds + 1 := by simp
    rw [List.length_append, List.length_singleton]
    show (d.link.replies ++ [_]).countP Reply.holds + _ ≤ _
    rw [one]
    simp only [Device.reply]
    omega

theorem serveLaw_port : PortLaw ServeLaw where
  port {d e} same _ law := by
    obtain ⟨queue, replies, full, tx, write⟩ := of_port same
    simp only [serveLaw_iff, holding_eq, queue, replies, full, tx, write] at law ⊢
    exact law
  pump {d} law := by
    rw [serveLaw_iff] at law ⊢
    obtain ⟨replied, rest, split, places, full, writes⟩ := law
    rw [holding_eq] at places
    unfold Device.pump
    split
    · exact ⟨replied, rest, split, by rw [holding_eq]; exact places, full, writes⟩
    rename_i idle
    rw [idle] at places
    split
    · rename_i r h
      refine ⟨replied, rest, split, ?_, nofun, writes⟩
      rw [holding_eq]
      simpa [TxItem.freesPlace, full r h] using places
    split
    · rename_i r rs h
      refine ⟨replied, rest, split, ?_, full, writes⟩
      rw [holding_eq]
      rw [h, List.countP_cons] at places
      exact places
    split
    · exact ⟨replied, rest, split, by rw [holding_eq, idle]; exact places, full, writes⟩
    · refine ⟨replied, rest, split, ?_, full, writes⟩
      rw [holding_eq]
      simpa [TxItem.freesPlace] using places
  receive {d} f law := by
    rw [serveLaw_iff] at law ⊢
    obtain ⟨replied, rest, split, places, full, writes⟩ := law
    obtain ⟨-, h⟩ | ⟨-, -, h⟩ | ⟨-, -, h⟩ := d.receive_cases f <;> rw [h]
    · obtain ⟨queue, answered, ahead, behind⟩ := split
      refine ⟨replied, rest ++ [⟨f, .waiting⟩], ⟨?_, answered, ?_, ?_⟩, places, full, fun w => ?_⟩
      · show d.link.queue ++ _ = _
        rw [queue, List.append_assoc]
      · cases rest with
        | nil => rintro h ⟨⟩; nofun
        | cons x rest => exact ahead
      · cases rest with
        | nil => nofun
        | cons x rest =>
          intro h mem
          rcases List.mem_append.mp mem with mem | mem
          · exact behind h mem
          · rw [List.mem_singleton.mp mem]
      · obtain ⟨x, head, serves⟩ := writes w
        refine ⟨x, ?_, serves⟩
        cases rest with
        | nil => cases head
        | cons y rest => exact head
    · exact ⟨replied, rest, split, places, fun r hr => by cases hr; rfl, writes⟩
    · exact ⟨replied, rest, split, places, full, writes⟩
  reply {d} f a waits law := by
    rw [serveLaw_iff] at law
    obtain ⟨replied, rest, split, places, full, writes⟩ := law
    obtain ⟨g, rest, rfl⟩ := split.of_waits waits
    exact serveLaw_of_reply split places full (stored := d.stored) (e := d) rfl (notWriting_of_waiting writes rfl) f a
  held {d} waits law := by
    rw [serveLaw_iff] at law
    obtain ⟨replied, rest, split, places, full, -⟩ := law
    obtain ⟨g, rest, rfl⟩ := split.of_waits waits
    exact (serveLaw_iff _).mpr ⟨replied, _, split.served, places, full, fun _ => ⟨_, rfl, rfl⟩⟩
  storing {d} f waits law := by
    rw [serveLaw_iff] at law
    obtain ⟨replied, rest, split, places, full, -⟩ := law
    obtain ⟨g, rest, rfl⟩ := split.of_waits waits
    exact (serveLaw_iff _).mpr ⟨replied, _, split.served, places, full, fun _ => ⟨_, rfl, rfl⟩⟩
  frameSent {d} law := by
    rw [serveLaw_iff] at law ⊢
    obtain ⟨replied, rest, split, places, full, writes⟩ := law
    unfold Device.frameSent
    split
    · exact ⟨replied, rest, split, places, full, writes⟩
    rename_i t sent
    rw [holding_eq, sent] at places
    by_cases frees : t.item.freesPlace = true
    · simp only [frees, if_true, Option.map_some, Option.getD_some] at places
      cases replied with
      | nil => exact absurd places (by simp)
      | cons x replied =>
        obtain ⟨queue, answered, ahead, behind⟩ := split
        refine ⟨replied, rest, ⟨?_, fun h mem => answered h (List.mem_cons_of_mem _ mem), ahead, behind⟩, ?_, full, writes⟩
        · simp [frees, queue]
        · rw [holding_eq]
          simpa using places
    · simp only [frees, Option.map_some, Option.getD_some] at places
      refine ⟨replied, rest, ?_, ?_, full, writes⟩
      · simpa [frees] using split
      · rw [holding_eq]
        simpa using places
  endStore {d} ok law := by
    have idle {e : Device} (queue : e.link.queue = d.link.queue) (replies : e.link.replies = d.link.replies)
        (full : e.link.queueFull = d.link.queueFull) (tx : e.link.tx = d.link.tx) (write : e.link.storeWrite = none) :
        ServeLaw e := by
      rw [serveLaw_iff] at law ⊢
      obtain ⟨replied, rest, split, places, unheld, -⟩ := law
      rw [holding_eq] at places ⊢
      exact ⟨replied, rest, queue ▸ split, by rw [replies, tx]; exact places, full ▸ unheld, by rw [write]; nofun⟩
    unfold Device.endStore
    split
    · exact law
    rename_i w writing
    dsimp only
    split
    · rw [serveLaw_iff] at law
      obtain ⟨replied, rest, split, places, full, writes⟩ := law
      obtain ⟨h, head, -⟩ := writes (by rw [writing]; rfl)
      cases rest with
      | nil => cases head
      | cons g rest => exact serveLaw_of_reply split places full rfl rfl _ _
    · exact idle rfl rfl rfl rfl rfl
  restarted {d} law := by
    rw [serveLaw_iff] at law ⊢
    obtain ⟨replied, rest, split, -, full, writes⟩ := law
    have queue : d.restarted.link.queue = rest := split.dropWhile
    refine ⟨[], rest, ⟨queue, nofun, split.ahead, split.behind⟩, ?_, full, writes⟩
    have replies : d.restarted.link.replies.countP Reply.holds = 0 := by
      refine List.countP_eq_zero.mpr fun r mem => ?_
      obtain ⟨q, -, rfl⟩ := List.mem_map.mp mem
      exact nofun
    have tx : (d.restarted.link.tx.map fun t => if t.item.freesPlace then 1 else 0).getD 0 = 0 := by
      show ((d.link.tx.map Transmission.free).map _).getD 0 = 0
      cases d.link.tx <;> simp [freesPlace_free]
    rw [holding_eq, replies, tx]
    rfl
  fresh _ _ := (serveLaw_iff _).mpr ⟨[], [], ⟨rfl, nofun, nofun, nofun⟩, Nat.le_refl 0, nofun, nofun⟩

/-- Settles O55: each operation of the link port keeps the two laws, and a step makes no other change to its queues. -/
theorem linkLawsKept : Obligations.LinkLawsKept := by
  unfold Obligations.LinkLawsKept
  exact fun s t h => ⟨queueLaw_port.step h, serveLaw_port.step h⟩

end Sys2Proof.Machine
end

section
/-! SUPPORT. The host link's coding of requests (R189, R199): a frame spells a request exactly if its kind and body length are
those of one, and the two directions of the coding undo each other. -/

namespace Sys2Proof.Machine

theorem request?_readFrame (tag table : Byte) (start : Half) (count : Byte) :
    (readFrame tag table start count).request? = decodeTableRead tag table start count := by
  show decodeTableRead tag table (halfOf start.low start.high) count = _
  rw [halfOf_low_high]

theorem request?_writeFrame {tag table : Byte} {start : Half} {count : Byte} {entries : List Byte} {size : Nat}
    (written : writtenEntrySize table.toNat = some size) (fits : entriesFit size count entries = true) :
    (writeFrame tag table start count entries).request? = decodeTableWrite tag table start count entries := by
  have length : entries.length = count.toNat * size := by
    rw [entriesFit, Bool.and_eq_true, decide_eq_true_eq] at fits
    exact fits.1
  show (match writtenEntrySize table.toNat with
    | some size =>
      if entries.length = count.toNat * size then decodeTableWrite tag table (halfOf start.low start.high) count entries
      else none
    | none => some (.tableWriteNotWritten 2 tag table (halfOf start.low start.high) count entries)) = _
  rw [written, halfOf_low_high]
  exact if_pos length

theorem request?_unwritten {table : Byte} (unwritten : writtenEntrySize table.toNat = none) (tag : Byte) (start : Half)
    (count : Byte) (entries : List Byte) :
    (writeFrame tag table start count entries).request? = some (.tableWriteNotWritten 2 tag table start count entries) := by
  show (match writtenEntrySize table.toNat with
    | some size =>
      if entries.length = count.toNat * size then decodeTableWrite tag table (halfOf start.low start.high) count entries
      else none
    | none => some (.tableWriteNotWritten 2 tag table (halfOf start.low start.high) count entries)) = _
  rw [unwritten, halfOf_low_high]

theorem decodeTableRead_unknown {table : Byte} (unknown : tableKnown table.toNat = false) (tag : Byte) (start : Half)
    (count : Byte) : decodeTableRead tag table start count = some (.tableWriteNotWritten 1 tag table start count []) := by
  unfold decodeTableRead
  split
  case h_20 => rfl
  all_goals
    rename_i number
    rw [number] at unknown
    exact nomatch unknown

/-- A well-formed request with an owner is spelled by its frame. -/
theorem request?_of_frame {i : Instr} {f : Frame} (wf : WellFormed i = true) (hf : i.frame? = some f)
    (known : ∀ kind tag body, i ≠ .unknownRequest kind tag body) : f.request? = some i := by
  cases i <;> first
    | exact absurd hf (Option.some_ne_none _).symm
    | obtain rfl := Option.some.inj hf
  case unknownRequest => exact absurd rfl (known _ _ _)
  case tableWriteNotWritten kind tag table start count entries =>
    simp only [WellFormed, Bool.or_eq_true, Bool.and_eq_true, decide_eq_true_eq, Bool.not_eq_eq_eq_not, Bool.not_true,
      Option.isNone_iff_eq_none] at wf
    obtain ⟨⟨rfl, unknown⟩, rfl⟩ | ⟨⟨rfl, unwritten⟩, -⟩ := wf
    · exact (request?_readFrame ..).trans (decodeTableRead_unknown unknown ..)
    · exact request?_unwritten unwritten ..
  case faultClear tag kinds =>
    rw [WellFormed, Bool.and_eq_true, decide_eq_true_eq, decide_eq_true_eq] at wf
    exact if_pos wf
  case moveResolveNotMoved tag outcome => exact congrArg some (if_neg (of_decide_eq_true wf))
  case rodRemoveReturn tag count => exact congrArg (fun n => some (Instr.rodRemoveReturn tag n)) (halfOf_low_high count)
  case rodRemoveSpill tag place count =>
    refine (congrArg some (if_neg (of_decide_eq_true wf))).trans ?_
    rw [halfOf_low_high]
  case rodFind tag id => exact congrArg (fun n => some (Instr.rodFind tag n)) (halfOf_low_high id)
  case rodMark tag id => exact congrArg (fun n => some (Instr.rodMark tag n)) (halfOf_low_high id)
  case rodAdd tag n => exact congrArg (fun n => some (Instr.rodAdd tag n)) (halfOf_low_high n)
  case returnDeclare tag n => exact congrArg (fun n => some (Instr.returnDeclare tag n)) (halfOf_low_high n)
  case tableReadLaneContent tag place count lane =>
    exact congrArg (fun n => some (Instr.tableReadLaneContent tag n count lane)) (halfOf_low_high place)
  all_goals first
    | rfl
    | exact (request?_readFrame ..).trans rfl
    | exact (request?_writeFrame rfl wf).trans rfl

/-- A byte of a number's value is that number. -/
theorem byte_of_toNat {b : Byte} {n : Nat} (h : b.toNat = n) : b = BitVec.ofNat 8 n := by
  rw [← h, BitVec.ofNat_toNat, BitVec.setWidth_eq]

theorem bytes_halfOf (a b : Byte) : (halfOf a b).bytes = [a, b] := by
  rw [Half.bytes, low_halfOf, high_halfOf]

theorem frame?_decodeTableRead {tag table : Byte} {start : Half} {count : Byte} {i : Instr}
    (h : decodeTableRead tag table start count = some i) : i.frame? = some (readFrame tag table start count) := by
  unfold decodeTableRead at h
  split at h
  all_goals first
    | exact absurd h (Option.some_ne_none _).symm
    | obtain rfl := Option.some.inj h
  case h_20 => rfl
  all_goals
    rename_i number
    rw [byte_of_toNat number]
    rfl

theorem frame?_decodeTableWrite {tag table : Byte} {start : Half} {count : Byte} {entries : List Byte} {i : Instr}
    (h : decodeTableWrite tag table start count entries = some i) :
    i.frame? = some (writeFrame tag table start count entries) := by
  unfold decodeTableWrite at h
  split at h
  all_goals first
    | exact absurd h (Option.some_ne_none _).symm
    | obtain rfl := Option.some.inj h
  all_goals
    rename_i number
    rw [byte_of_toNat number]
    rfl

theorem frame?_decodeBare {kind tag : Byte} {i : Instr} (h : decodeBare kind.toNat tag = some i) :
    i.frame? = some ⟨kind, tag, []⟩ := by
  unfold decodeBare at h
  split at h
  all_goals first
    | exact absurd h (Option.some_ne_none _).symm
    | obtain rfl := Option.some.inj h
  all_goals
    rename_i number
    rw [byte_of_toNat number]
    rfl

theorem frame?_decodeOne {kind tag b : Byte} {i : Instr} (h : decodeOne kind.toNat tag b = some i) :
    i.frame? = some ⟨kind, tag, [b]⟩ := by
  unfold decodeOne at h
  split at h
  all_goals first
    | exact absurd h (Option.some_ne_none _).symm
    | obtain rfl := Option.some.inj h
  all_goals
    rename_i number
    rw [byte_of_toNat number]
  case h_1 =>
    split
    · rename_i zero
      rw [zero]
      rfl
    · rfl
  all_goals rfl

theorem frame?_decodeTwo {kind tag a b : Byte} {i : Instr} (h : decodeTwo kind.toNat tag a b = some i) :
    i.frame? = some ⟨kind, tag, [a, b]⟩ := by
  unfold decodeTwo at h
  split at h
  all_goals first
    | exact absurd h (Option.some_ne_none _).symm
    | obtain rfl := Option.some.inj h
  all_goals
    rename_i number
    rw [byte_of_toNat number]
    simp only [Instr.frame?, bytes_halfOf]
    rfl

theorem frame?_decodeThree {kind tag a b c : Byte} {i : Instr} (h : decodeThree kind.toNat tag a b c = some i) :
    i.frame? = some ⟨kind, tag, [a, b, c]⟩ := by
  unfold decodeThree at h
  split at h
  case h_2 => exact absurd h (Option.some_ne_none _).symm
  obtain rfl := Option.some.inj h
  rename_i number
  rw [byte_of_toNat number]
  split
  · rename_i zero
    simp only [Instr.frame?, bytes_halfOf, zero]
    rfl
  · simp only [Instr.frame?, bytes_halfOf]
    rfl

theorem frame?_decodeReadBody {tag : Byte} {body : List Byte} {i : Instr} (h : decodeReadBody tag body = some i) :
    i.frame? = some ⟨1, tag, body⟩ := by
  unfold decodeReadBody at h
  split at h
  · rw [frame?_decodeTableRead h, readFrame, bytes_halfOf]
    rfl
  · split at h
    · rename_i lane
      obtain rfl := Option.some.inj h
      rw [Instr.frame?, bytes_halfOf, lane]
      rfl
    · cases h
  · cases h

theorem frame?_decodeWriteBody {tag : Byte} {body : List Byte} {i : Instr} (h : decodeWriteBody tag body = some i) :
    i.frame? = some ⟨2, tag, body⟩ := by
  unfold decodeWriteBody at h
  split at h
  · split at h
    · split at h
      · rw [frame?_decodeTableWrite h, writeFrame, bytes_halfOf]
        rfl
      · cases h
    · obtain rfl := Option.some.inj h
      rw [Instr.frame?, bytes_halfOf]
      rfl
  · cases h

/-- A frame that spells a request is that request's frame. -/
theorem frame?_of_request? {f : Frame} {i : Instr} (h : f.request? = some i) : i.frame? = some f := by
  obtain ⟨kind, tag, body⟩ := f
  simp only [Frame.request?] at h
  split at h
  · rename_i read
    rw [read]
    exact frame?_decodeReadBody h
  split at h
  · rename_i write
    rw [write]
    exact frame?_decodeWriteBody h
  split at h
  · rename_i clear
    split at h
    · obtain rfl := Option.some.inj h
      rw [clear]
      rfl
    · cases h
  split at h
  · exact frame?_decodeBare h
  · exact frame?_decodeOne h
  · exact frame?_decodeTwo h
  · exact frame?_decodeThree h
  · cases h

/-- Settles O6: the request that a frame spells has that frame, and so has UNKNOWN_REQUEST. -/
theorem servedCommandKeepsItsFrame : Obligations.ServedCommandKeepsItsFrame := by
  unfold Obligations.ServedCommandKeepsItsFrame
  intro f
  unfold Frame.command
  cases h : f.request? with
  | none => rfl
  | some i => exact frame?_of_request? h

theorem bodyLengthOk_of_read {tag : Byte} {body : List Byte} {i : Instr} (h : decodeReadBody tag body = some i) :
    bodyLengthOk 1 body = true := by
  unfold decodeReadBody at h
  split at h
  · rename_i table _ _ _
    have plain : table ≠ 17 := by
      rintro rfl
      cases h
    simpa [bodyLengthOk, tableBodyLengthOk] using plain
  · split at h
    · rename_i lane
      simp [bodyLengthOk, tableBodyLengthOk, lane]
    · cases h
  · cases h

theorem bodyLengthOk_of_write {tag : Byte} {body : List Byte} {i : Instr} (h : decodeWriteBody tag body = some i) :
    bodyLengthOk 2 body = true := by
  unfold decodeWriteBody at h
  split at h
  · split at h
    · rename_i size written
      split at h
      · rename_i length
        simp [bodyLengthOk, tableBodyLengthOk, written, length]
      · cases h
    · rename_i unwritten
      simp [bodyLengthOk, tableBodyLengthOk, unwritten]
  · cases h

/-- A frame that spells a request has the kind and the body length of one (R189). -/
theorem kind_of_request? {f : Frame} {i : Instr} (h : f.request? = some i) :
    kindIsRequest f.kind = true ∧ bodyLengthOk f.kind f.body = true := by
  obtain ⟨kind, tag, body⟩ := f
  simp only [Frame.request?] at h
  split at h
  · rename_i read
    rw [read]
    exact ⟨rfl, bodyLengthOk_of_read h⟩
  split at h
  · rename_i write
    rw [write]
    exact ⟨rfl, bodyLengthOk_of_write h⟩
  split at h
  · rename_i clear
    split at h
    · rename_i length
      rw [clear]
      exact ⟨rfl, by simpa [bodyLengthOk] using length⟩
    · cases h
  split at h
  · unfold decodeBare at h
    split at h
    all_goals first
      | exact absurd h (Option.some_ne_none _).symm
      | (rename_i number; rw [byte_of_toNat number]; exact ⟨rfl, rfl⟩)
  · unfold decodeOne at h
    split at h
    all_goals first
      | exact absurd h (Option.some_ne_none _).symm
      | (rename_i number; rw [byte_of_toNat number]; exact ⟨rfl, rfl⟩)
  · unfold decodeTwo at h
    split at h
    all_goals first
      | exact absurd h (Option.some_ne_none _).symm
      | (rename_i number; rw [byte_of_toNat number]; exact ⟨rfl, rfl⟩)
  · unfold decodeThree at h
    split at h
    all_goals first
      | exact absurd h (Option.some_ne_none _).symm
      | (rename_i number; rw [byte_of_toNat number]; exact ⟨rfl, rfl⟩)
  · cases h

/-- Settles O5: a request with an owner is spelled by its frame, and the frame of no request spells none. -/
theorem requestCodingRoundTrip : Obligations.RequestCodingRoundTrip := by
  unfold Obligations.RequestCodingRoundTrip
  intro i f wf hf
  unfold Frame.command
  by_cases known : ∀ kind tag body, i ≠ .unknownRequest kind tag body
  · rw [request?_of_frame wf hf known]
    rfl
  · push Not at known
    obtain ⟨kind, tag, body, rfl⟩ := known
    obtain rfl := Option.some.inj hf
    cases h : Frame.request? ⟨kind, tag, body⟩ with
    | none => rfl
    | some i =>
      obtain ⟨request, length⟩ := kind_of_request? h
      rw [WellFormed, request, length] at wf
      simp at wf

/-- Whether a command is no frame without an owner (R189). -/
def owned (i : Instr) : Bool :=
  match i with
  | .unknownRequest _ _ _ => false
  | _ => true

/-- A well-formed request with an owner has the length of its layout, so that the owner serves it. -/
theorem request?_isSome {i : Instr} (wf : WellFormed i = true) (request : i.frame?.isSome = true)
    (known : owned i = true) : (frameOf i).request?.isSome = true := by
  obtain ⟨f, hf⟩ := Option.isSome_iff_exists.mp request
  have spelled := request?_of_frame wf hf fun kind tag body h => by
    rw [h] at known
    cases known
  rw [frameOf_eq hf, spelled]
  rfl

end Sys2Proof.Machine
end

section
/-! SUPPORT. The link port's own events and requests: the frame gap, the end of a frame sent, requests that reach no owner,
STORE and RESTART. -/

namespace Sys2Proof.Machine

/-- Settles O8: each expiry is its event at its moment. -/
theorem framerAndTransmitterEvents : Obligations.FramerAndTransmitterEvents := by
  unfold Obligations.FramerAndTransmitterEvents
  refine ⟨fun s bytes h => ?_, fun s r start h => ?_, fun s n sequence dropped start h => ?_⟩
  · have gap : s.dev.gapDeadline = some (s.dev.link.lastByte + 6) := by rw [Device.gapDeadline, h]; rfl
    show run (fun d => expire d.gapDeadline Device.frameTimedOut d) s = _
    rw [run_after, gap, expire_some]
    rfl
  · show run (fun d => expire (d.link.tx.map Transmission.done) Device.frameSent d) s = _
    rw [run_after, h, Option.map_some, expire_some]
    simp [Device.frameSent, h, TxItem.freesPlace, Transmission.done]
  · show run (fun d => expire (d.link.tx.map Transmission.done) Device.frameSent d) s = _
    rw [run_after, h, Option.map_some, expire_some]
    simp [Device.frameSent, h, TxItem.freesPlace, Transmission.done]

/-- A request served: its owner's effect and answer, whole (R189). -/
theorem exec_served {i : Instr} {s : State} (own : Device → Device × Answer) (runs : exec i s = run (fun d => d.ask i own) s)
    (wf : WellFormed i = true) (known : owned i = true) (turn : Turn i s) :
    exec i s = .next (Served i s (own s.dev).1 (own s.dev).2) := by
  rw [runs]
  exact run_ask own turn (request?_isSome wf turn.1 known)

/-- R191 names no written table between 13 and 15, and none from 16 on. -/
theorem tableKnown_of_unwritten {table : Nat} (unwritten : writtenEntrySize table = none) :
    tableKnown table = decide (16 ≤ table ∧ table ≤ 21) := by
  have above : ¬table ≤ 12 := fun le => by
    interval_cases table <;> exact absurd unwritten nofun
  simp [tableKnown, above]

/-- Settles O9: each request of the link port's own, run through the link port. -/
theorem plainRequestsAnswered : Obligations.PlainRequestsAnswered := by
  unfold Obligations.PlainRequestsAnswered
  refine ⟨fun kind tag body s wf turn => ?_, fun kind tag table start count entries s wf turn => ?_, fun tag s turn => ?_,
    fun tag s turn => ?_⟩
  · show run (fun d => d.request (frameOf (.unknownRequest kind tag body)) fun d => ((unknownRequest kind d).1, some (unknownRequest kind d).2)) s = _
    rw [run_after, Device.request_turn _ turn.nextRequest]
    have answer : (unknownRequest kind s.dev).2
        = if 1 ≤ kind.toNat ∧ kind.toNat ≤ 32 then ⟨.lengthError, 0, []⟩ else ⟨.unknownRequest, 0, []⟩ := by
      simp [unknownRequest, kindIsRequest, lengthError]
    rw [← answer]
    rfl
  · rw [exec_served (notWritten table.toNat) rfl wf rfl turn, notWritten_keeps]
    have answer : (notWritten table.toNat s.dev).2
        = if 16 ≤ table.toNat ∧ table.toNat ≤ 21 then wrongState .readOnly else indexRange := by
      simp only [WellFormed, Bool.or_eq_true, Bool.and_eq_true, decide_eq_true_eq, Bool.not_eq_eq_eq_not, Bool.not_true,
        Option.isNone_iff_eq_none] at wf
      obtain ⟨⟨-, unknown⟩, -⟩ | ⟨⟨-, unwritten⟩, -⟩ := wf
      · have outside : ¬(16 ≤ table.toNat ∧ table.toNat ≤ 21) := by
          simp [tableKnown] at unknown
          omega
        rw [notWritten, unknown, if_neg outside]
        rfl
      · rw [notWritten, tableKnown_of_unwritten unwritten]
        by_cases within : 16 ≤ table.toNat ∧ table.toNat ≤ 21 <;> simp [within]
    rw [answer]
  · exact exec_served (serveRead statusAnswer) rfl rfl rfl turn
  · exact exec_served faultRead rfl rfl rfl turn

/-- The store's write ends, while its request is served (R195). -/
theorem Device.endStore_serving {d : Device} {w : StoreWrite} {f : Frame} (writing : d.link.storeWrite = some w)
    (serving : d.serving = some f) (ok : Bool) :
    d.endStore ok = Device.reply f (if ok && d.within w.timer then accepted else wrongState .storeFailed) { d with
      stored := if ok && d.within w.timer then some (storedCopy w.tables) else none
      link := { d.link with storeWrite := none } } := by
  simp only [Device.endStore, writing, serving]

/-- Settles O10, by the end of a write that is served. -/
theorem storeWritesTheCopy : Obligations.StoreWritesTheCopy := by
  unfold Obligations.StoreWritesTheCopy
  refine ⟨fun tag s turn => ?_, fun f w s writing serving => ⟨fun within => ?_, fun past => ?_, ?_, ?_⟩⟩
  · show run (fun d => d.request (frameOf (.store tag)) store) s = _
    rw [run_after, Device.request_turn _ turn.nextRequest]
    rfl
  · show run (Device.endStore true) s = _
    have intime : s.dev.within w.timer = true := decide_eq_true within
    rw [run_after, Device.endStore_serving writing serving, intime]
    rfl
  · show run (Device.endStore true) s = _
    have late : s.dev.within w.timer = false := decide_eq_false (Nat.not_le.mpr past)
    rw [run_after, Device.endStore_serving writing serving, late]
    rfl
  · show run (Device.endStore false) s = _
    rw [run_after, Device.endStore_serving writing serving]
    rfl
  · show run (fun d => expire d.storeDeadline (Device.endStore false) d) s = _
    have deadline : s.dev.storeDeadline = some (w.timer.start + w.timer.limit) := by
      rw [Device.storeDeadline, writing]
      rfl
    rw [run_after, deadline, expire_some, Device.endStore_serving
      (d := { s.dev with time := max s.dev.time (w.timer.start + w.timer.limit) }) writing serving]
    rfl

/-- The transmitter leaves the framer; without a notice it leaves the notice queue and its counts (R190). -/
theorem pump_without_notices {d : Device} (none : d.link.notices = []) :
    d.pump.link.collecting = d.link.collecting ∧ d.pump.link.notices = [] ∧ d.pump.link.droppedSince = d.link.droppedSince
      ∧ d.pump.link.sequence = d.link.sequence := by
  unfold Device.pump
  repeat' split
  case h_2 h =>
    rw [none] at h
    cases h
  all_goals exact ⟨rfl, none, rfl, rfl⟩

/-- The reply of a request that has been served, and what the transmitter begins, change the link only. -/
theorem served_only (i : Instr) (s : State) (d : Device) (a : Answer) :
    (Served i s d a).dev = { d with link := (Served i s d a).dev.link } := by
  show (d.reply (frameOf i) a).pump = _
  rw [Device.pump_link_only]
  rfl

theorem Device.restarted_only (d : Device) : d.restarted = { d with
    log := { kinds := d.log.kinds.map fun _ => ⟨false, 0⟩, first := none }
    link := d.restarted.link
    counts := d.counts.map fun _ => 0
    mail := d.mail ++ [.stop .request, .pressStop] } := by
  have mail : d.restarted.mail = d.mail ++ [.stop .request, .pressStop] := by
    simp [Device.restarted, Device.post, Device.freePlaces, Device.hunt, Device.emptyNotices, Device.emptyLog]
  rw [← mail]
  rfl

/-- Settles O12: RESTART's own changes, and a reply and a transmission, which touch the link only. -/
theorem restartAccepted : Obligations.RestartAccepted := by
  unfold Obligations.RestartAccepted
  intro tag s turn free
  have accepts : restart s.dev = (s.dev.restarted, accepted) := by rw [restart, free]
  have none : (s.dev.restarted.reply (frameOf (.restart tag)) accepted).link.notices = [] := rfl
  obtain ⟨framer, notices, dropped, sequence⟩ := pump_without_notices none
  have replied := Served.replied (.restart tag) s s.dev.restarted accepted
  refine ⟨_, by rw [exec_restart_of_turn turn, accepts], ?_⟩
  refine ⟨?_, ?_, ?_, notices, dropped, framer, ?_, replied, ?_, ?_, ?_, ?_, ?_, ?_, ?_, ?_, ?_, ?_, sequence, ?_, rfl⟩
  all_goals rw [served_only, Device.restarted_only]
  case refine_1 =>
    intro k mem
    obtain ⟨-, -, rfl⟩ := List.mem_map.mp mem
    rfl
  case refine_3 =>
    intro n mem
    obtain ⟨-, -, rfl⟩ := List.mem_map.mp mem
    rfl

end Sys2Proof.Machine
end

section
/-! SUPPORT. The receive framer (R187): a frame's bytes one by one, the frame that they make, and the gap. -/

namespace Sys2Proof.Machine

/-- The bytes of a frame from its length byte on, with the two bytes of a check. -/
def wholeFrame (f : Frame) (check : Half) : List Byte :=
  BitVec.ofNat 8 (f.body.length + 2) :: f.kind :: f.tag :: (f.body ++ check.bytes)

theorem wholeFrame_eq (f : Frame) (check : Half) :
    u8 (f.body.length + 2) ++ [f.kind, f.tag] ++ f.body ++ check.bytes = wholeFrame f check := rfl

section Framer
variable {d : Device} {f : Frame} {check : Half}

theorem lengthByte (fits : f.body.length ≤ 250) : (BitVec.ofNat 8 (f.body.length + 2)).toNat = f.body.length + 2 := by
  rw [BitVec.toNat_ofNat]
  omega

theorem length_wholeFrame : (wholeFrame f check).length = f.body.length + 5 := by
  simp [wholeFrame, Half.bytes]

/-- A frame with its own check is a good one, and one with another is not (R187). -/
theorem goodFrame_wholeFrame (fits : f.body.length ≤ 250) : goodFrame (wholeFrame f check)
    = if check = crc16 (u8 (f.body.length + 2) ++ [f.kind, f.tag] ++ f.body) then some f else none := by
  have size : (BitVec.ofNat 8 (f.body.length + 2)).toNat - 2 = f.body.length := by rw [lengthByte fits]; rfl
  have same (a b : Half) : a.bytes = b.bytes ↔ a = b := by
    refine ⟨fun h => ?_, fun h => by rw [h]⟩
    simp only [Half.bytes, List.cons.injEq, and_true] at h
    rw [← halfOf_low_high a, ← halfOf_low_high b, h.1, h.2]
  simp only [goodFrame, wholeFrame, size, List.drop_left, List.take_left, same]
  rfl

/-- While a frame's bytes are not all there, they are collected (R187). -/
theorem moreBytes_of_part {part rest : List Byte} (fits : f.body.length ≤ 250) (ne : part ≠ []) (more : rest ≠ [])
    (split : part ++ rest = wholeFrame f check) (d : Device) : d.moreBytes part = d.collect part := by
  have short : part.length < f.body.length + 5 := by
    have total := congrArg List.length split
    rw [length_wholeFrame, List.length_append] at total
    have := List.length_pos_iff.mpr more
    omega
  cases part with
  | nil => exact absurd rfl ne
  | cons n part =>
    obtain rfl : n = BitVec.ofNat 8 (f.body.length + 2) := (List.cons.inj split).1
    have size := lengthByte fits
    unfold Device.moreBytes
    dsimp only
    rw [if_neg (by omega), if_neg (by omega)]

/-- With its last byte the frame ends (R187). -/
theorem moreBytes_of_whole (fits : f.body.length ≤ 250) (d : Device) :
    d.moreBytes (wholeFrame f check) = d.endFrame (wholeFrame f check) := by
  have size := lengthByte fits
  have length := length_wholeFrame (f := f) (check := check)
  unfold wholeFrame Device.moreBytes at *
  dsimp only
  rw [if_neg (by omega), if_pos (by omega)]

theorem takeByte_collecting {held : List Byte} (collecting : d.link.collecting = some held) (b : Byte) :
    d.takeByte b = d.moreBytes (held ++ [b]) := by
  simp only [Device.takeByte, collecting]

/-- The bytes of a part of a frame join those held. -/
theorem foldl_part {held part rest : List Byte} (fits : f.body.length ≤ 250) (collecting : d.link.collecting = some held)
    (more : rest ≠ []) (split : held ++ part ++ rest = wholeFrame f check) :
    part.foldl Device.takeByte d = d.collect (held ++ part) := by
  induction part generalizing d held with
  | nil =>
    rw [List.append_nil, List.foldl_nil, Device.collect, ← collecting]
  | cons b part ih =>
    have first : d.takeByte b = d.collect (held ++ [b]) := by
      rw [takeByte_collecting collecting]
      refine moreBytes_of_part (check := check) (rest := part ++ rest) fits (by simp) (by simp [more]) ?_ d
      simpa using split
    rw [List.foldl_cons, first, ih (d := d.collect (held ++ [b])) rfl (by simpa using split), List.append_assoc]
    rfl

/-- The framer's bytes do not matter where a frame ends. -/
theorem endFrame_collect (held whole : List Byte) (d : Device) : (d.collect held).endFrame whole = d.endFrame whole := rfl

/-- The bytes that complete a frame end it. -/
theorem foldl_whole {held bytes : List Byte} (fits : f.body.length ≤ 250) (collecting : d.link.collecting = some held)
    (ne : bytes ≠ []) (split : held ++ bytes = wholeFrame f check) :
    bytes.foldl Device.takeByte d = d.endFrame (wholeFrame f check) := by
  obtain ⟨part, b, rfl⟩ := List.eq_nil_or_concat bytes |>.resolve_left ne
  rw [List.concat_eq_append] at split ⊢
  have joined : held ++ part ++ [b] = wholeFrame f check := by simpa using split
  rw [List.foldl_append, foldl_part fits collecting (by simp) joined, List.foldl_cons, List.foldl_nil,
    takeByte_collecting (d := d.collect _) rfl, joined, moreBytes_of_whole fits, endFrame_collect]

/-- No byte but a marker leaves HUNTING (R187). -/
theorem foldl_hunting {bytes : List Byte} (hunting : d.link.collecting = none) (plain : 0xE7 ∉ bytes) :
    bytes.foldl Device.takeByte d = d := by
  induction bytes with
  | nil => rfl
  | cons b bytes ih =>
    obtain ⟨other, rest⟩ : 0xE7 ≠ b ∧ 0xE7 ∉ bytes := by simpa using plain
    have stays : d.takeByte b = d := by
      simp only [Device.takeByte, hunting]
      exact if_neg (Ne.symm other)
    rw [List.foldl_cons, stays, ih rest]

theorem takeByte_marker (hunting : d.link.collecting = none) : d.takeByte 0xE7 = d.collect [] := by
  simp [Device.takeByte, hunting]

/-- Bytes without a gap before them. -/
theorem takeBytes_of_no_gap {bytes : List Byte} (ne : bytes ≠ []) (gap : ∀ t, d.gapDeadline = some t → d.time < t) :
    d.takeBytes bytes = { bytes.foldl Device.takeByte d with
      link := { (bytes.foldl Device.takeByte d).link with lastByte := (bytes.foldl Device.takeByte d).time } } := by
  have none : d.endGap = d := by
    unfold Device.endGap
    split
    · rename_i t h
      exact if_neg (Nat.not_le.mpr (gap t h))
    · rfl
  simp only [Device.takeBytes, if_neg ne, none]

theorem no_gap_of_hunting (hunting : d.link.collecting = none) (t : Nat) (h : d.gapDeadline = some t) : d.time < t := by
  rw [Device.gapDeadline, hunting] at h
  cases h

theorem no_gap_of_intime (intime : d.time < d.link.lastByte + 6) (t : Nat) (h : d.gapDeadline = some t) : d.time < t := by
  obtain ⟨-, -, rfl⟩ := Option.map_eq_some_iff.mp h
  exact intime

/-- The bytes of a frame that its check completes, from a marker or from the bytes held, are taken as one frame. -/
theorem takeBytes_of_completes {bytes : List Byte} (fits : f.body.length ≤ 250)
    (completes : (d.link.collecting = none ∧ bytes = 0xE7 :: wholeFrame f check)
      ∨ ∃ held, d.link.collecting = some held ∧ d.time < d.link.lastByte + 6 ∧ bytes ≠ []
        ∧ held ++ bytes = wholeFrame f check) :
    d.takeBytes bytes = { d.endFrame (wholeFrame f check) with
      link := { (d.endFrame (wholeFrame f check)).link with lastByte := (d.endFrame (wholeFrame f check)).time } } := by
  obtain ⟨hunting, rfl⟩ | ⟨held, collecting, intime, ne, split⟩ := completes
  · have taken : (0xE7 :: wholeFrame f check).foldl Device.takeByte d = d.endFrame (wholeFrame f check) := by
      rw [List.foldl_cons, takeByte_marker hunting, foldl_whole (d := d.collect []) (f := f) (check := check) fits rfl (by simp [wholeFrame])
          (List.nil_append _),
        endFrame_collect]
    rw [takeBytes_of_no_gap (by simp) (no_gap_of_hunting hunting), taken]
  · rw [takeBytes_of_no_gap ne (no_gap_of_intime intime), foldl_whole fits collecting ne split]

/-- A length outside 2..252 ends the frame at once (R187). -/
theorem takeByte_badLength {n : Byte} (outside : n.toNat < 2 ∨ 252 < n.toNat) (started : d.link.collecting = some []) :
    d.takeByte n = d.badFrame := by
  rw [takeByte_collecting started, List.nil_append, Device.moreBytes, if_pos outside]

theorem time_receive (f : Frame) (d : Device) : (d.receive f).time = d.time := by
  obtain ⟨-, h⟩ | ⟨-, -, h⟩ | ⟨-, -, h⟩ := d.receive_cases f <;> rw [h] <;> rfl

end Framer

/-- Settles O7: the framer's bytes taken one by one, and the frame they make received. -/
theorem hostFrameTaken : Obligations.HostFrameTaken := by
  unfold Obligations.HostFrameTaken
  intro f bytes s fits
  dsimp only
  simp only [wholeFrame_eq]
  have runs : exec (.hostFrame bytes) s = .next (After s (s.dev.takeBytes bytes)) := rfl
  refine ⟨fun completes => ?_, fun check other completes => ?_, fun hunting ne plain => ?_,
    fun part rest hunting marked more split => ?_, fun n outside starts => ?_, fun held collecting gap ne => ?_⟩
  · have good : s.dev.endFrame (wholeFrame f (crc16 (u8 (f.body.length + 2) ++ [f.kind, f.tag] ++ f.body)))
        = s.dev.hunt.receive f := by
      rw [Device.endFrame, goodFrame_wholeFrame fits, if_pos rfl]
    rw [runs, takeBytes_of_completes fits completes, good, time_receive]
    obtain ⟨room, h⟩ | ⟨full, free, h⟩ | ⟨full, waits, h⟩ := s.dev.hunt.receive_cases f <;> rw [h]
    · exact ⟨fun _ => rfl, fun many => absurd room (Nat.not_lt.mpr many), fun many => absurd room (Nat.not_lt.mpr many)⟩
    · refine ⟨fun room => absurd room (Nat.not_lt.mpr full), fun _ _ => rfl, fun _ waits => ?_⟩
      rw [show s.dev.link.queueFull = none from free] at waits
      cases waits
    · refine ⟨fun room => absurd room (Nat.not_lt.mpr full), fun _ free => ?_, fun _ _ => rfl⟩
      rw [show s.dev.hunt.link.queueFull = none from free] at waits
      cases waits
  · have bad : s.dev.endFrame (wholeFrame f check) = s.dev.badFrame := by
      rw [Device.endFrame, goodFrame_wholeFrame fits, if_neg other]
    rw [runs, takeBytes_of_completes fits completes, bad]
    rfl
  · rw [runs, takeBytes_of_no_gap ne (no_gap_of_hunting hunting), foldl_hunting hunting plain]
  · have taken : bytes.foldl Device.takeByte s.dev = s.dev.collect part := by
      rw [marked, List.foldl_cons, takeByte_marker hunting, foldl_part (d := s.dev.collect []) fits rfl more split]
      rfl
    rw [runs, takeBytes_of_no_gap (by rw [marked]; simp) (no_gap_of_hunting hunting), taken]
    rfl
  · obtain ⟨hunting, rfl⟩ | ⟨started, intime, rfl⟩ := starts
    · rw [runs, takeBytes_of_no_gap (by simp) (no_gap_of_hunting hunting), List.foldl_cons, takeByte_marker hunting,
        List.foldl_cons, List.foldl_nil, takeByte_badLength outside rfl]
      rfl
    · rw [runs, takeBytes_of_no_gap (by simp) (no_gap_of_intime intime), List.foldl_cons, List.foldl_nil,
        takeByte_badLength outside started]
      rfl
  · have ended : s.dev.endGap = s.dev.frameTimedOut := by
      have deadline : s.dev.gapDeadline = some (s.dev.link.lastByte + 6) := by rw [Device.gapDeadline, collecting]; rfl
      simp only [Device.endGap, deadline, if_pos gap]
    have hunts : s.dev.frameTimedOut.endGap = s.dev.frameTimedOut := rfl
    have same : s.dev.takeBytes bytes = s.dev.frameTimedOut.takeBytes bytes := by
      simp only [Device.takeBytes, if_neg ne, ended, hunts]
    rw [runs, same]
    rfl

end Sys2Proof.Machine
end

section
/-! SUPPORT. The coding of table entries (R199, section 11.6): an entry's bytes give its fields back, fields in their ranges
pass the checks of a write, and a write of entries reaches its owner with the entries' fields. -/

namespace Sys2Proof.Machine

/-! Reading the fields of an entry's bytes. -/

theorem readValues_u8 (n : Nat) (rest : List Byte) : readValues 1 1 (u8 n ++ rest) = [n % 256] := by
  simp [readValues, u8, leNat]

theorem readValues_u16 (n : Nat) (rest : List Byte) : readValues 2 1 (u16 n ++ rest) = [n % 65536] := by
  simp only [readValues, u16, leNat, List.cons_append, List.nil_append, List.take_succ_cons, List.take_zero,
    BitVec.toNat_ofNat, List.cons.injEq, and_true]
  omega

theorem readValues_list (xs : List Nat) (rest : List Byte) :
    readValues 2 xs.length ((xs.map u16).flatten ++ rest) = xs.map (· % 65536) := by
  induction xs with
  | nil => rfl
  | cons x xs ih =>
    have value : leNat (u16 x) = x % 65536 := by
      simp only [u16, leNat, BitVec.toNat_ofNat]
      omega
    simp only [List.length_cons, List.map_cons, List.flatten_cons, List.append_assoc, readValues]
    rw [show (u16 x ++ ((xs.map u16).flatten ++ rest)).take 2 = u16 x from rfl,
      show (u16 x ++ ((xs.map u16).flatten ++ rest)).drop 2 = (xs.map u16).flatten ++ rest from rfl, value, ih]

theorem readFields_u8 (ok : Nat → Bool) (fs : List FieldSpec) (n : Nat) (rest : List Byte) :
    readFields (⟨1, 1, ok⟩ :: fs) (u8 n ++ rest) = [n % 256] :: readFields fs rest := by
  rw [readFields, readValues_u8]
  rfl

theorem readFields_u16 (ok : Nat → Bool) (fs : List FieldSpec) (n : Nat) (rest : List Byte) :
    readFields (⟨2, 1, ok⟩ :: fs) (u16 n ++ rest) = [n % 65536] :: readFields fs rest := by
  rw [readFields, readValues_u16]
  rfl

theorem length_flatten_u16 (xs : List Nat) : (xs.map u16).flatten.length = 2 * xs.length := by
  induction xs with
  | nil => rfl
  | cons x xs ih =>
    rw [List.map_cons, List.flatten_cons, List.length_append, ih, List.length_cons]
    simp [u16]
    omega

theorem readFields_list {n : Nat} (ok : Nat → Bool) (fs : List FieldSpec) {xs : List Nat} (length : xs.length = n)
    (rest : List Byte) :
    readFields (⟨2, n, ok⟩ :: fs) ((xs.map u16).flatten ++ rest) = xs.map (· % 65536) :: readFields fs rest := by
  subst length
  rw [readFields, readValues_list, List.drop_left' (length_flatten_u16 xs)]

theorem readFields_u8_last (ok : Nat → Bool) (n : Nat) : readFields [⟨1, 1, ok⟩] (u8 n) = [[n % 256]] := by
  simpa [readFields] using readFields_u8 ok [] n []

theorem readFields_u16_last (ok : Nat → Bool) (n : Nat) : readFields [⟨2, 1, ok⟩] (u16 n) = [[n % 65536]] := by
  simpa [readFields] using readFields_u16 ok [] n []

/-! Fields in range. -/

theorem badField?_of_forall {specs : List FieldSpec} {values : List (List Nat)}
    (ok : List.Forall₂ (fun f vs => vs.all f.ok = true) specs values) : badField? specs values = none := by
  refine List.find?_eq_none.mpr fun k _ => ?_
  split
  · rename_i f vs hf hv
    have good := ok.get (i := k) (List.getElem?_eq_some_iff.mp hf).1 (List.getElem?_eq_some_iff.mp hv).1
    simp only [List.get_eq_getElem] at good
    rw [(List.getElem?_eq_some_iff.mp hf).2, (List.getElem?_eq_some_iff.mp hv).2] at good
    simp [good]
  · nofun

/-- How a table's entries are coded: an entry with its values in range has its entry's size, gives its fields back, and
passes the checks. -/
structure Coded {α : Type} (specs : List FieldSpec) (bytes : α → List Byte) (fields : α → List (List Nat)) (e : α) : Prop where
  length : (bytes e).length = entryBytes specs
  read : readFields specs (bytes e) = fields e
  fits : badField? specs (fields e) = none

section Write
variable {α : Type} {specs : List FieldSpec} {bytes : α → List Byte} {fields : α → List (List Nat)} {es : List α}

theorem readEntries_coded (coded : ∀ e ∈ es, Coded specs bytes fields e) :
    readEntries specs es.length (es.map bytes).flatten = es.map fields := by
  induction es with
  | nil => rfl
  | cons e es ih =>
    obtain ⟨length, read, -⟩ := coded e List.mem_cons_self
    rw [List.length_cons, List.map_cons, List.flatten_cons, readEntries, List.take_left' length, List.drop_left' length,
      ih fun x hx => coded x (List.mem_cons_of_mem _ hx), read, List.map_cons]

theorem badEntry?_coded (coded : ∀ e ∈ es, Coded specs bytes fields e) (start : Nat) :
    badEntry? specs start (es.map fields) = none := by
  refine List.findSome?_eq_none_iff.mpr fun p hp => ?_
  obtain ⟨e, he, same⟩ := List.mem_map.mp (List.fst_mem_of_mem_zipIdx hp)
  rw [← same, (coded e he).fits]
  rfl

theorem length_coded (coded : ∀ e ∈ es, Coded specs bytes fields e) :
    (es.map bytes).flatten.length = es.length * entryBytes specs := by
  induction es with
  | nil => simp
  | cons e es ih =>
    rw [List.map_cons, List.flatten_cons, List.length_append, (coded e List.mem_cons_self).length,
      ih fun x hx => coded x (List.mem_cons_of_mem _ hx), List.length_cons]
    ring

/-- A write of entries that exist, with their values in range, reaches its owner with their fields (R189). -/
theorem writeTable_coded (coded : ∀ e ∈ es, Coded specs bytes fields e) (some : es ≠ []) {size start : Nat}
    (exist : start + es.length ≤ size) (own : List (List (List Nat)) → Device → Device × Answer) (d : Device) :
    writeTable specs size start es.length (es.map bytes).flatten own d = own (es.map fields) d := by
  have one : 1 ≤ es.length := List.length_pos_iff.mpr some
  simp only [writeTable, if_pos (And.intro one exist), readEntries_coded coded, badEntry?_coded coded]

end Write

/-! The entries of each table. -/

theorem forall_ok_one {width lo hi n : Nat} (low : lo ≤ n) (high : n ≤ hi) :
    [n].all (ranged width lo hi).ok = true := by
  simp [ranged, low, high]

/-- A DIE_SETTINGS entry's fields. -/
def DieSettings.fields (x : DieSettings) : List (List Nat) := [[x.debounce], [x.carriageLimit]]

theorem DieSettings.coded {x : DieSettings} (debounce : 10 ≤ x.debounce ∧ x.debounce ≤ 2560)
    (limit : 5 ≤ x.carriageLimit ∧ x.carriageLimit ≤ 120) : Coded dieSpec DieSettings.bytes DieSettings.fields x where
  length := rfl
  read := by
    rw [dieSpec, ranged, ranged, DieSettings.bytes, readFields_u16, readFields_u8_last, Nat.mod_eq_of_lt (by omega),
      Nat.mod_eq_of_lt (by omega)]
    rfl
  fits := badField?_of_forall (.cons (forall_ok_one debounce.1 debounce.2) (.cons (forall_ok_one limit.1 limit.2) .nil))

/-- A SAMPLING entry's fields. -/
def SamplingEntry.fields (x : SamplingEntry) : List (List Nat) := [[if x.advanceOn then 0 else 1], [x.period]]

theorem SamplingEntry.coded {x : SamplingEntry} (period : 5 ≤ x.period ∧ x.period ≤ 600) :
    Coded samplingSpec SamplingEntry.bytes SamplingEntry.fields x where
  length := rfl
  read := by
    have on : (if x.advanceOn then 0 else 1) ≤ 1 := by split <;> decide
    rw [samplingSpec, ranged, ranged, SamplingEntry.bytes, readFields_u8, readFields_u16_last, Nat.mod_eq_of_lt (by omega),
      Nat.mod_eq_of_lt (by omega)]
    rfl
  fits := badField?_of_forall (.cons (forall_ok_one (Nat.zero_le _) (by split <;> decide))
    (.cons (forall_ok_one period.1 period.2) .nil))

theorem samplingEntryOf_fields (x : SamplingEntry) : samplingEntryOf x.fields = x := by
  obtain ⟨on, period⟩ := x
  cases on <;> rfl

/-- A PACING entry's fields. -/
def PacingEntry.fields (x : PacingEntry) : List (List Nat) :=
  [[x.mode.ctorIdx], [x.period], [x.pulses], [x.polarity.ctorIdx], [x.moveLimit]]

theorem PacingEntry.coded {x : PacingEntry} (period : x.period ≤ 36000) (pulses : 1 ≤ x.pulses ∧ x.pulses ≤ 65535)
    (limit : 2 ≤ x.moveLimit ∧ x.moveLimit ≤ 60) : Coded pacingSpec PacingEntry.bytes PacingEntry.fields x := by
  have mode : x.mode.ctorIdx ≤ 1 := by cases x.mode <;> decide
  have polarity : x.polarity.ctorIdx ≤ 1 := by cases x.polarity <;> decide
  refine ⟨rfl, ?_, badField?_of_forall ?_⟩
  · simp only [pacingSpec, ranged, PacingEntry.bytes, List.append_assoc]
    rw [readFields_u8, readFields_u16, readFields_u16, readFields_u8, readFields_u8_last, Nat.mod_eq_of_lt (by omega),
      Nat.mod_eq_of_lt (by omega), Nat.mod_eq_of_lt (by omega), Nat.mod_eq_of_lt (by omega), Nat.mod_eq_of_lt (by omega)]
    rfl
  · exact .cons (forall_ok_one (Nat.zero_le _) mode) (.cons (forall_ok_one (Nat.zero_le _) period)
      (.cons (forall_ok_one pulses.1 pulses.2) (.cons (forall_ok_one (Nat.zero_le _) polarity)
        (.cons (forall_ok_one limit.1 limit.2) .nil))))

theorem pacingEntryOf_fields (x : PacingEntry) : pacingEntryOf x.fields = { x with period := max 50 x.period } := by
  obtain ⟨mode, period, pulses, polarity, limit⟩ := x
  cases mode <;> cases polarity <;> rfl

/-- A SPREADER_SETTINGS entry's fields. -/
def SpreaderSettings.fields (x : SpreaderSettings) : List (List Nat) := [[x.loadLimit], [if x.emptyFill then 0 else 1]]

theorem SpreaderSettings.coded {x : SpreaderSettings} (limit : 1 ≤ x.loadLimit ∧ x.loadLimit ≤ 30) :
    Coded spreaderSpec SpreaderSettings.bytes SpreaderSettings.fields x where
  length := rfl
  read := by
    have on : (if x.emptyFill then 0 else 1) ≤ 1 := by split <;> decide
    rw [spreaderSpec, ranged, ranged, SpreaderSettings.bytes, readFields_u8, readFields_u8_last, Nat.mod_eq_of_lt (by omega),
      Nat.mod_eq_of_lt (by omega)]
    rfl
  fits := badField?_of_forall (.cons (forall_ok_one limit.1 limit.2)
    (.cons (forall_ok_one (Nat.zero_le _) (by split <;> decide)) .nil))

theorem spreaderSettingsOf_fields (x : SpreaderSettings) : spreaderSettingsOf x.fields = x := by
  obtain ⟨limit, on⟩ := x
  cases on <;> rfl

/-- A GAUGE_SETTINGS entry's fields. -/
def GaugeSettings.fields (x : GaugeSettings) : List (List Nat) := [[x.position.getD 0xFFFF], [x.limit]]

theorem GaugeSettings.coded {x : GaugeSettings} (limit : 1 ≤ x.limit ∧ x.limit ≤ 60)
    (position : ∀ p, x.position = some p → p ≤ 1535) : Coded gaugeSpec GaugeSettings.bytes GaugeSettings.fields x := by
  have place : x.position.getD 0xFFFF ≤ 1535 ∨ x.position.getD 0xFFFF = 0xFFFF := by
    cases h : x.position with
    | none => exact .inr rfl
    | some p => exact .inl (position p h)
  refine ⟨rfl, ?_, badField?_of_forall (.cons ?_ (.cons (forall_ok_one limit.1 limit.2) .nil))⟩
  · rw [gaugeSpec, ranged, GaugeSettings.bytes, readFields_u16, readFields_u8_last, Nat.mod_eq_of_lt (by omega),
      Nat.mod_eq_of_lt (by omega)]
    rfl
  · simpa using place

theorem gaugeSettingsOf_fields {x : GaugeSettings} (position : ∀ p, x.position = some p → p ≤ 1535) :
    gaugeSettingsOf x.fields = x := by
  obtain ⟨place, limit⟩ := x
  cases place with
  | none => rfl
  | some p =>
    have small : p ≤ 1535 := position p rfl
    have named : p ≠ 0xFFFF := by omega
    simp [gaugeSettingsOf, GaugeSettings.fields, field, named]

/-- An ACCUMULATOR_SETTINGS entry's fields. -/
def AccSettings.fields (x : AccSettings) : List (List Nat) := [[x.stripLimit], [x.returnCap]]

theorem AccSettings.coded {x : AccSettings} (limit : 2 ≤ x.stripLimit ∧ x.stripLimit ≤ 60) (cap : x.returnCap ≤ 1023) :
    Coded accSpec AccSettings.bytes AccSettings.fields x where
  length := rfl
  read := by
    rw [accSpec, ranged, ranged, AccSettings.bytes, readFields_u8, readFields_u16_last, Nat.mod_eq_of_lt (by omega),
      Nat.mod_eq_of_lt (by omega)]
    rfl
  fits := badField?_of_forall (.cons (forall_ok_one limit.1 limit.2) (.cons (forall_ok_one (Nat.zero_le _) cap) .nil))

/-- A FORMAT_MAP entry's fields. -/
def MapEntry.fields (x : MapEntry) : List (List Nat) := [[if x.enabled then 0 else 1], [x.profile]]

theorem MapEntry.coded {x : MapEntry} (profile : x.profile ≤ 7) : Coded formatMapSpec MapEntry.bytes MapEntry.fields x where
  length := rfl
  read := by
    have on : (if x.enabled then 0 else 1) ≤ 1 := by split <;> decide
    rw [formatMapSpec, ranged, ranged, MapEntry.bytes, readFields_u8, readFields_u8_last, Nat.mod_eq_of_lt (by omega),
      Nat.mod_eq_of_lt (by omega)]
    rfl
  fits := badField?_of_forall (.cons (forall_ok_one (Nat.zero_le _) (by split <;> decide))
    (.cons (forall_ok_one (Nat.zero_le _) profile) .nil))

theorem mapEntryOf_fields (x : MapEntry) : mapEntryOf x.fields = x := by
  obtain ⟨on, profile⟩ := x
  cases on <;> rfl

/-- A FAULT_SETTINGS entry's fields. -/
def FaultSetting.fields (x : FaultSetting) : List (List Nat) := [[if x.masked then 0 else 1], [x.severity.ctorIdx]]

theorem FaultSetting.coded (x : FaultSetting) : Coded faultSpec FaultSetting.bytes FaultSetting.fields x where
  length := rfl
  read := by
    obtain ⟨masked, severity⟩ := x
    cases masked <;> cases severity <;> rfl
  fits := by
    obtain ⟨masked, severity⟩ := x
    cases masked <;> cases severity <;> rfl

theorem faultSettingOf_fields (x : FaultSetting) : faultSettingOf x.fields = x := by
  obtain ⟨masked, severity⟩ := x
  cases masked <;> cases severity <;> rfl

/-- A LANES entry's fields. -/
def LaneEntry.fields (x : LaneEntry) : List (List Nat) := [[x.capacity], [x.mode.ctorIdx], [x.weight], [x.dest.ctorIdx]]

theorem LaneEntry.coded {x : LaneEntry} (fits : x.Writable) : Coded laneSpec LaneEntry.bytes LaneEntry.fields x := by
  obtain ⟨capacity, low, high⟩ := fits
  have mode : x.mode.ctorIdx ≤ 1 := by cases x.mode <;> decide
  have dest : x.dest.ctorIdx ≤ 1 := by cases x.dest <;> decide
  refine ⟨rfl, ?_, badField?_of_forall ?_⟩
  · simp only [laneSpec, ranged, LaneEntry.bytes, List.append_assoc]
    rw [readFields_u8, readFields_u8, readFields_u8, readFields_u8_last, Nat.mod_eq_of_lt (by omega),
      Nat.mod_eq_of_lt (by omega), Nat.mod_eq_of_lt (by omega), Nat.mod_eq_of_lt (by omega)]
    rfl
  · exact .cons (forall_ok_one (Nat.zero_le _) capacity) (.cons (forall_ok_one (Nat.zero_le _) mode)
      (.cons (forall_ok_one low high) (.cons (forall_ok_one (Nat.zero_le _) dest) .nil)))

theorem laneEntryOf_fields (x : LaneEntry) : laneEntryOf x.fields = x := by
  obtain ⟨capacity, mode, weight, dest⟩ := x
  cases mode <;> cases dest <;> rfl

theorem disposition_coded {l : Nat} (lane : l ≤ 3) : Coded dispositionSpec u8 (fun l => [[l]]) l where
  length := rfl
  read := by rw [dispositionSpec, ranged, readFields_u8_last, Nat.mod_eq_of_lt (by omega)]
  fits := badField?_of_forall (.cons (forall_ok_one (Nat.zero_le _) lane) .nil)

theorem tunnel_coded {length : Nat} (low : 32 ≤ length) (high : length ≤ 1536) :
    Coded tunnelSpec u16 (fun n => [[n]]) length where
  length := rfl
  read := by rw [tunnelSpec, ranged, readFields_u16_last, Nat.mod_eq_of_lt (by omega)]
  fits := badField?_of_forall (.cons (forall_ok_one low high) .nil)

/-- A ZONE_LAYOUT entry's fields. -/
def ZoneEntry.fields (z : ZoneEntry) : List (List Nat) :=
  [[z.type.ctorIdx], [z.last], [z.governing], [z.relax], [z.trimStep], [z.trimMax], [z.tempBand], [z.humBand],
    [z.edge.ctorIdx], [z.settle]]

theorem ZoneEntry.coded {z : ZoneEntry} (fits : z.Writable) : Coded zoneSpec ZoneEntry.bytes ZoneEntry.fields z := by
  obtain ⟨last, governing, relax, step, trim, temp, hum, settle⟩ := fits
  have type : z.type.ctorIdx ≤ 3 := by cases z.type <;> decide
  have edge : z.edge.ctorIdx ≤ 2 := by cases z.edge <;> decide
  refine ⟨rfl, ?_, badField?_of_forall ?_⟩
  · simp only [zoneSpec, ranged, ZoneEntry.bytes, List.append_assoc, readFields_u8, readFields_u16, readFields_u16_last]
    rw [Nat.mod_eq_of_lt (by omega), Nat.mod_eq_of_lt (by omega), Nat.mod_eq_of_lt (by omega), Nat.mod_eq_of_lt (by omega),
      Nat.mod_eq_of_lt (by omega), Nat.mod_eq_of_lt (by omega), Nat.mod_eq_of_lt (by omega), Nat.mod_eq_of_lt (by omega),
      Nat.mod_eq_of_lt (by omega), Nat.mod_eq_of_lt (by omega)]
    rfl
  · have low {n : Nat} : 0 ≤ n := Nat.zero_le n
    exact .cons (forall_ok_one low type) (.cons (forall_ok_one low last) (.cons (forall_ok_one low governing)
      (.cons (forall_ok_one low relax) (.cons (forall_ok_one low step) (.cons (forall_ok_one low trim)
        (.cons (forall_ok_one low temp) (.cons (forall_ok_one low hum) (.cons (forall_ok_one low edge)
          (.cons (forall_ok_one low settle) .nil)))))))))

theorem zoneEntryOf_fields (z : ZoneEntry) : zoneEntryOf z.fields = z := by
  obtain ⟨type, last, governing, relax, step, trim, temp, hum, edge, settle⟩ := z
  cases type <;> cases edge <;> rfl

/-- A PROFILE entry's fields. -/
def Profile.fields (p : Profile) : List (List Nat) :=
  [[p.m0], [p.target], [p.tolerance], p.eq, p.kbase, [p.gain], [p.ac], [p.weight], [p.limit], p.temp, p.hum, [p.lane],
    [p.band], [p.purge]]

theorem map_mod_eq_self {xs : List Nat} {lo hi : Nat} (within : Within lo hi xs) (high : hi < 65536) :
    xs.map (· % 65536) = xs := by
  conv_rhs => rw [← List.map_id xs]
  refine List.map_congr_left fun x hx => Nat.mod_eq_of_lt ?_
  obtain ⟨-, le⟩ := within x hx
  omega

theorem forall_ok_list {width count lo hi : Nat} {xs : List Nat} (within : Within lo hi xs) :
    xs.all (rangedList width count lo hi).ok = true := by
  rw [List.all_eq_true]
  intro x hx
  obtain ⟨low, high⟩ := within x hx
  simp [rangedList, low, high]

theorem Profile.coded {p : Profile} (fits : p.Writable) : Coded profileSpec Profile.bytes Profile.fields p := by
  obtain ⟨m0, target, tolerance, ⟨eleven, eq⟩, ⟨twelve, kbase⟩, gain, ac, ⟨weightLow, weight⟩, ⟨limitLow, limit⟩,
    ⟨temps, temp⟩, ⟨hums, hum⟩, lane, band, purge⟩ := fits
  have low {n : Nat} : 0 ≤ n := Nat.zero_le n
  refine ⟨?_, ?_, badField?_of_forall ?_⟩
  · simp only [Profile.bytes, List.length_append, u16_length, u8_length, length_flatten_u16, eleven, twelve, temps, hums]
    rfl
  · simp only [profileSpec, ranged, rangedList, unranged, Profile.bytes, List.append_assoc, readFields_u8, readFields_u16,
      readFields_u8_last]
    rw [readFields_list _ _ eleven, readFields_list _ _ twelve]
    simp only [readFields_u8, readFields_u16]
    rw [readFields_list _ _ temps, readFields_list _ _ hums]
    simp only [readFields_u8, readFields_u16, readFields_u8_last]
    rw [map_mod_eq_self eq (by decide), map_mod_eq_self kbase (by decide), map_mod_eq_self temp (by decide),
      map_mod_eq_self hum (by decide)]
    rw [Nat.mod_eq_of_lt (by omega), Nat.mod_eq_of_lt (by omega), Nat.mod_eq_of_lt (by omega), Nat.mod_eq_of_lt (by omega),
      Nat.mod_eq_of_lt (by omega), Nat.mod_eq_of_lt (by omega), Nat.mod_eq_of_lt (by omega), Nat.mod_eq_of_lt (by omega),
      Nat.mod_eq_of_lt (by omega), Nat.mod_eq_of_lt (by omega)]
    rfl
  · have any {xs : List Nat} {width count : Nat} : xs.all (unranged width count).ok = true := by simp [unranged]
    exact .cons (forall_ok_one low m0) (.cons (forall_ok_one low target) (.cons (forall_ok_one low tolerance)
      (.cons (forall_ok_list eq) (.cons (forall_ok_list kbase) (.cons (forall_ok_one low gain) (.cons (forall_ok_one low ac)
        (.cons (forall_ok_one weightLow weight) (.cons (forall_ok_one limitLow limit) (.cons any (.cons any
          (.cons (forall_ok_one low lane) (.cons (forall_ok_one low band) (.cons any .nil)))))))))))))

theorem profileOf_fields (p : Profile) :
    profileOf p.fields = { p with ac := max 1 p.ac, temp := p.temp.map (min 1200), hum := p.hum.map (min 1000) } := rfl

end Sys2Proof.Machine
end

section
/-! SUPPORT. The writes of each table, run through the link port (R1, R50 to R58, R67, R68, R95, R114, R136, R149, R151, R158,
R166, R175, R189). -/

namespace Sys2Proof.Machine

section Served
variable {α : Type} {specs : List FieldSpec} {bytes : α → List Byte} {fields : α → List (List Nat)} {es : List α}
  {start : Half} {i : Instr} {s : State}

/-- A count of fewer entries than a byte can hold is the byte's value. -/
theorem count_toNat {n : Nat} (small : n < 256) : (BitVec.ofNat 8 n).toNat = n := by
  rw [BitVec.toNat_ofNat, Nat.mod_eq_of_lt small]

theorem entriesFit_coded (coded : ∀ e ∈ es, Coded specs bytes fields e) (body : es.length * entryBytes specs ≤ 246)
    (small : es.length < 256) : entriesFit (entryBytes specs) (BitVec.ofNat 8 es.length) (es.map bytes).flatten = true := by
  rw [entriesFit, count_toNat small, length_coded coded, Bool.and_eq_true, decide_eq_true_eq, decide_eq_true_eq]
  exact ⟨rfl, Nat.add_le_add_right body 4⟩

/-- A write of entries in range is served by its table's owner (R189). -/
theorem exec_write (coded : ∀ e ∈ es, Coded specs bytes fields e) (ne : es ≠ []) {size : Nat}
    (exist : start.toNat + es.length ≤ size) (body : es.length * entryBytes specs ≤ 246) (small : es.length < 256)
    {own : List (List (List Nat)) → Device → Device × Answer}
    (runs : exec i s = run (fun d => d.ask i (writeTable specs size start.toNat (BitVec.ofNat 8 es.length).toNat
      (es.map bytes).flatten own)) s)
    (wf : WellFormed i = entriesFit (entryBytes specs) (BitVec.ofNat 8 es.length) (es.map bytes).flatten)
    (known : owned i = true) (turn : Turn i s) :
    exec i s = .next (Served i s (own (es.map fields) s.dev).1 (own (es.map fields) s.dev).2) := by
  rw [exec_served _ runs (wf.trans (entriesFit_coded coded body small)) known turn, count_toNat small,
    writeTable_coded coded ne exist]

/-- A write of the one entry of a table. -/
theorem exec_writeOne {x : α} (coded : Coded specs bytes fields x) (body : entryBytes specs ≤ 246)
    {own : List (List (List Nat)) → Device → Device × Answer}
    (runs : exec i s = run (fun d => d.ask i (writeTable specs 1 0 1 (bytes x) own)) s)
    (wf : WellFormed i = entriesFit (entryBytes specs) 1 (bytes x))
    (known : owned i = true) (turn : Turn i s) :
    exec i s = .next (Served i s (own [fields x] s.dev).1 (own [fields x] s.dev).2) := by
  have flat : ([x].map bytes).flatten = bytes x := by simp
  refine exec_write (bytes := bytes) (es := [x]) (start := 0) (size := 1) (fun e he => ?_) (by simp) (by simp) (by simpa using body) (by simp)
    ?_ ?_ known turn
  · rw [List.mem_singleton.mp he]
    exact coded
  · rw [flat]
    exact runs
  · rw [flat]
    exact wf

end Served

/-- Settles O14: the named entries are replaced, at one owner each. -/
theorem mapAndFaultSettingsWrites : Obligations.MapAndFaultSettingsWrites := by
  unfold Obligations.MapAndFaultSettingsWrites
  refine ⟨fun tag start es s ne exist profile => ?_, fun tag start es s ne exist => ?_⟩ <;> intro i turn
  · rw [exec_write (fun e he => MapEntry.coded (profile e he)) ne exist
      (by simp [entryBytes, formatMapSpec, ranged]; omega) (by omega) rfl rfl rfl turn]
    simp only [formatMapOwn, replaceAt, List.map_map, Function.comp_def, mapEntryOf_fields, List.map_id']
    rfl
  · rw [exec_write (fun e _ => FaultSetting.coded e) ne exist (by simp [entryBytes, faultSpec, ranged]; omega)
      (by omega) rfl rfl rfl turn]
    simp only [faultSettingsOwn, replaceAt, List.map_map, Function.comp_def, faultSettingOf_fields, List.map_id']
    rfl

/-- A fill decision draws nothing where it may not (R137). -/
theorem fill_none {d : Device} (no : ¬(d.spread.slot = .none ∧ d.spread.hold = false ∧ 0 < d.acc.returnCount)) :
    d.fill = d := by
  obtain h | ⟨slot, hold, some, -⟩ := d.fill_cases
  · exact h
  · exact absurd ⟨slot, hold, some⟩ no

/-- Outside extrusion a fill decision with empty fill ON stages an empty rod (R137). -/
theorem fill_empty {d : Device} (slot : d.spread.slot = .none) (hold : d.spread.hold = false) (some : 0 < d.acc.returnCount)
    (on : d.tables.spreader.emptyFill = true) (idle : ¬(d.die.press = .running ∧ d.die.active.isSome)) :
    d.fill = { d.drawRod with spread := { d.spread with slot := .emptyStaged } } := by
  simp only [Device.fill, slot, hold, and_self, if_true, Device.decideFill, if_neg idle, on, some]

/-- During extrusion a fill decision starts a load (R137, R139). -/
theorem fill_load {d : Device} {i : Identity} (slot : d.spread.slot = .none) (hold : d.spread.hold = false)
    (some : 0 < d.acc.returnCount) (extruding : d.die.press = .running ∧ d.die.active.isSome)
    (identity : d.die.identity = .some i) : d.fill = d.drawRod.startLoad i := by
  simp only [Device.fill, slot, hold, and_self, if_true, Device.decideFill, if_pos extruding, identity, some]

/-- Settles O13: each owner's act on the fields of its entry. -/
theorem singleEntryTableWrites : Obligations.SingleEntryTableWrites := by
  unfold Obligations.SingleEntryTableWrites
  intro tag s
  refine ⟨fun x d1 d2 c1 c2 => ?_, fun x p1 p2 => ?_, fun x p q1 q2 m1 m2 => ?_, fun x l1 l2 => ?_, fun x l1 l2 place => ?_,
    fun x l1 l2 cap count => ?_⟩
  · intro i turn
    rw [exec_writeOne (DieSettings.coded ⟨d1, d2⟩ ⟨c1, c2⟩) (by decide) rfl rfl rfl turn]
    rfl
  · intro i turn
    rw [exec_writeOne (SamplingEntry.coded ⟨p1, p2⟩) (by decide) rfl rfl rfl turn]
    simp only [samplingOwn, firstEntry, List.getD_cons_zero, samplingEntryOf_fields]
    rfl
  · intro i d turn
    rw [exec_writeOne (PacingEntry.coded p ⟨q1, q2⟩ ⟨m1, m2⟩) (by decide) rfl rfl rfl turn]
    simp only [pacingOwn, firstEntry, List.getD_cons_zero, pacingEntryOf_fields]
    rfl
  · intro i d fills extruding n drawn turn
    have writes : exec i s = .next (Served i s (d.fillIf x.emptyFill) accepted) := by
      rw [exec_writeOne (SpreaderSettings.coded ⟨l1, l2⟩) (by decide) rfl rfl rfl turn]
      simp only [spreaderSettingsOwn, firstEntry, List.getD_cons_zero, spreaderSettingsOf_fields]
      rfl
    refine ⟨fun no => ?_, fun yes idle => ?_, fun who yes running identity => ?_⟩ <;> rw [writes]
    · cases on : x.emptyFill with
      | false => rfl
      | true => rw [Device.fillIf, if_pos rfl, fill_none fun yes => no ⟨on, yes⟩]
    · obtain ⟨on, slot, hold, some⟩ := yes
      rw [Device.fillIf, if_pos on, fill_empty slot hold some on idle]
      rfl
    · obtain ⟨on, slot, hold, some⟩ := yes
      rw [Device.fillIf, if_pos on, fill_load slot hold some running identity]
      rfl
  · intro i turn
    have position (p : Nat) (h : x.position = some p) : p ≤ 1535 := (place p h).1
    rw [exec_writeOne (GaugeSettings.coded ⟨l1, l2⟩ position) (by decide) rfl rfl rfl turn]
    have inside : (x.position.any fun p => decide (s.dev.tables.length - 1 < p)) = false := by
      cases h : x.position with
      | none => rfl
      | some p => simpa using (place p h).2
    simp only [gaugeSettingsOwn, firstEntry, List.getD_cons_zero, gaugeSettingsOf_fields position, inside]
    rfl
  · intro i turn
    rw [exec_writeOne (AccSettings.coded ⟨l1, l2⟩ cap) (by decide) rfl rfl rfl turn]
    have room : ¬(accSettingsOf x.fields).returnCap < s.dev.acc.returnCount := Nat.not_lt.mpr count
    simp only [accSettingsOwn, firstEntry, List.getD_cons_zero, if_neg room]
    rfl

/-- Settles O16: the four conditions of R1's table, each of which fails. -/
theorem tunnelWriteMovesTheEnd : Obligations.TunnelWriteMovesTheEnd := by
  unfold Obligations.TunnelWriteMovesTheEnd
  intro tag length first z s low high unknown zones before governing gauge i turn
  rw [exec_writeOne (tunnel_coded low high) (by decide) rfl rfl rfl turn]
  have value : field (firstEntry [[[length]]]) 0 = length := rfl
  have forgotten : ¬s.dev.known = true := by
    simpa [Device.known] using unknown
  have above : ¬(s.dev.lastBefore.any fun p => decide (length - 1 ≤ p)) = true := by
    intro below
    obtain ⟨p, last, le⟩ := (Option.any_eq_true _ _).mp below
    rw [Device.lastBefore, zones, List.length_append, List.length_singleton] at last
    split at last
    · obtain ⟨y, hy, rfl⟩ := Option.map_eq_some_iff.mp last
      have inside : first.length + 1 - 2 < first.length := by omega
      rw [List.getElem?_append_left inside] at hy
      have above := before y (by rw [List.getLast?_eq_getElem?]; exact hy)
      rw [decide_eq_true_eq] at le
      omega
    · cases last
  have governed : ¬length - 1 < s.dev.lastGoverning := by
    simpa [Device.lastGoverning, zones] using governing
  have gauged : ¬(s.dev.tables.gauge.position.any fun p => decide (length - 1 < p)) = true := by
    cases h : s.dev.tables.gauge.position with
    | none => nofun
    | some p => simpa using gauge p h
  have ends : endAt (length - 1) s.dev.tables.zones = first ++ [{ z with last := length - 1 }] := by
    rw [zones, endAt, List.length_append, List.length_singleton, Nat.add_sub_cancel, List.modify_eq_take_cons_drop (by simp)]
    simp
  simp only [tunnelOwn, value, if_neg forgotten, if_neg above, if_neg governed, if_neg gauged]
  simp only [Device.setLength, Device.setTables, ends]

/-- Settles O18: the refusals of R149 and R151, none of which holds. -/
theorem laneTableWrites : Obligations.LaneTableWrites := by
  unfold Obligations.LaneTableWrites
  refine ⟨fun tag start es s ne exist fits => ?_, fun tag start ls s ne exist fits => ?_⟩
  · intro lanes room sum unnamed i turn
    rw [exec_write (fun e he => LaneEntry.coded (fits e he)) ne exist (by simp [entryBytes, laneSpec, ranged]; omega)
      (by omega) rfl rfl rfl turn]
    have replaced : replaceAt s.dev.tables.lanes start.toNat ((es.map LaneEntry.fields).map laneEntryOf) = lanes := by
      simp only [replaceAt, List.map_map, Function.comp_def, laneEntryOf_fields, List.map_id']
      rfl
    have full : s.dev.overfullLane lanes = none := by
      refine List.find?_eq_none.mpr fun l hl => ?_
      simpa [LaneRt.load] using room l (List.mem_range.mp hl)
    have free : s.dev.lanesConflict start.toNat (BitVec.ofNat 8 es.length).toNat lanes = none := by
      rw [Device.lanesConflict, if_neg (Nat.not_lt.mpr sum), Option.map_eq_none_iff]
      refine List.find?_eq_none.mpr fun l hl => ?_
      simp only [Bool.and_eq_true, decide_eq_true_eq, not_and, Device.laneNamed, Bool.or_eq_true, List.any_eq_true]
      rintro empty (⟨p, hp, named⟩ | ⟨x, hx, named⟩)
      · exact (unnamed l (List.mem_range.mp hl) empty).1 p hp named
      · exact (unnamed l (List.mem_range.mp hl) empty).2 x hx named
    simp only [lanesOwn, replaced, full, free]
    rfl
  · intro i turn
    rw [exec_write (fun e he => disposition_coded (fits e he).1) ne exist
      (by simp [entryBytes, dispositionSpec, ranged]; omega) (by omega) rfl rfl rfl turn]
    have live : s.dev.deadDisposition start.toNat ls = none := by
      refine List.findSome?_eq_none_iff.mpr fun p hp => if_neg ?_
      exact (fits p.1 (List.fst_mem_of_mem_zipIdx hp)).2
    have values : (ls.map fun l => [[l]]).map (fun v => field v 0) = ls := by
      simp [Function.comp_def, field]
    simp only [dispositionOwn, values, live]
    rfl

end Sys2Proof.Machine
end

section
/-! SUPPORT. The PROFILE write (R50, R51, R53), and that a table write which is not accepted changes nothing (R189). -/

namespace Sys2Proof.Machine

/-- The orders of a profile write, in index order (R53). -/
theorem foldl_orderProfile (ps : List Nat) (d : Device) : ps.foldl orderProfile d
    = { d with mail := d.mail ++ (ps.map fun p => [Mail.reset p, Mail.recompute p]).flatten } := by
  induction ps generalizing d with
  | nil => simp
  | cons p ps ih =>
    rw [List.foldl_cons, ih]
    simp [orderProfile, Device.post]

/-- Settles O15: the profile owner's act on the fields of the entries. -/
theorem profileWriteReplacesAndOrders : Obligations.ProfileWriteReplacesAndOrders := by
  unfold Obligations.ProfileWriteReplacesAndOrders
  intro tag start es s ne two exist fits i held clamps d turn
  have coded (p : Profile) (hp : p ∈ es) : Coded profileSpec Profile.bytes Profile.fields p := Profile.coded (fits p hp).1
  have count : (BitVec.ofNat 8 es.length).toNat = es.length := count_toNat (by omega)
  refine ⟨?_, fun p low high => ?_⟩
  · have body : es.length * entryBytes profileSpec ≤ 246 := Nat.le_trans (Nat.mul_le_mul_right 110 two) (by decide)
    rw [exec_served (i := i) (profileWrite start.toNat (BitVec.ofNat 8 es.length).toNat (es.map Profile.bytes).flatten) rfl
      (entriesFit_coded coded body (by omega)) rfl turn, count, profileWrite, if_pos two, writeTable_coded coded ne exist]
    have profiles : (es.map Profile.fields).map profileOf = es.map held := by
      rw [List.map_map]
      rfl
    have live : s.dev.deadNormalLane start.toNat (es.map held) = none := by
      refine List.findSome?_eq_none_iff.mpr fun q hq => if_neg ?_
      obtain ⟨p, hp, same⟩ := List.mem_map.mp (List.fst_mem_of_mem_zipIdx hq)
      rw [← same]
      exact (fits p hp).2
    have clamped : ((es.map Profile.fields).map profileClamps).sum = clamps := by
      rw [List.map_map]
      rfl
    simp only [profileOwn, profiles, live, clamped, foldl_orderProfile, replaceAt, List.length_map]
    rfl
  · have ordered : Mail.reset p ∈ d.mail := by
      refine List.mem_append_right _ (List.mem_flatten.mpr ⟨_, List.mem_map.mpr ⟨p, ?_, rfl⟩, List.mem_cons_self⟩)
      rw [List.mem_range'_1]
      exact ⟨low, high⟩
    exact if_pos ordered

/-- What an owner refuses it leaves as it was (R189). -/
def Refuses (r : Device × Answer) (d : Device) : Prop :=
  r.2.status ≠ .accepted → r.2.status ≠ .acceptedClamped → r.1 = d

section Refusals
variable {d : Device}

theorem refuses_same (a : Answer) : Refuses (d, a) d := fun _ _ => rfl

theorem refuses_accepted {r : Device × Answer} (h : r.2.status = .accepted ∨ r.2.status = .acceptedClamped) : Refuses r d :=
  fun no clamped => (h.elim no clamped).elim

theorem writeTable_refuses {specs : List FieldSpec} {size start count : Nat} {entries : List Byte}
    {own : List (List (List Nat)) → Device → Device × Answer} (refuses : ∀ values, Refuses (own values d) d) :
    Refuses (writeTable specs size start count entries own d) d := by
  unfold writeTable
  split
  · dsimp only
    split
    · exact refuses_same _
    · exact refuses _
  · exact refuses_same _

end Refusals

/-- Settles O19: each owner acts only where it accepts. -/
theorem refusedTableWriteChangesNothing : Obligations.RefusedTableWriteChangesNothing := by
  unfold Obligations.RefusedTableWriteChangesNothing
  intro i s write wf turn
  have serves {own : Device → Device × Answer} (runs : exec i s = run (fun d => d.ask i own) s) (known : owned i = true)
      (refuses : Refuses (own s.dev) s.dev) : ∃ d a, exec i s = .next (Served i s d a)
        ∧ (a.status ≠ .accepted → a.status ≠ .acceptedClamped → d = s.dev) :=
    ⟨_, _, exec_served own runs wf known turn, refuses⟩
  cases i
  case unknownRequest kind tag body =>
    refine ⟨s.dev, (unknownRequest kind s.dev).2, ?_, fun _ _ => rfl⟩
    show run (fun d => d.request (frameOf (.unknownRequest kind tag body)) fun d =>
      ((unknownRequest kind d).1, some (unknownRequest kind d).2)) s = _
    rw [run_after, Device.request_turn _ turn.nextRequest]
    rfl
  case tableWriteNotWritten => exact serves rfl rfl fun _ _ => notWritten_keeps _ _
  case tableWriteTunnel =>
    refine serves rfl rfl (writeTable_refuses fun values => ?_)
    unfold tunnelOwn
    dsimp only
    repeat' split
    case isFalse.isFalse.isFalse.isFalse => exact refuses_accepted (.inl rfl)
    all_goals exact refuses_same _
  case tableWriteProfile =>
    refine serves rfl rfl ?_
    unfold profileWrite
    split
    · refine writeTable_refuses fun values => ?_
      unfold profileOwn
      dsimp only
      split
      · exact refuses_same _
      · refine refuses_accepted ?_
        dsimp only
        split
        · exact .inl rfl
        · exact .inr rfl
    · exact refuses_same _
  case tableWriteFormatMap => exact serves rfl rfl (writeTable_refuses fun _ => refuses_accepted (.inl rfl))
  case tableWriteZoneLayout =>
    refine serves rfl rfl ?_
    unfold zoneLayoutWrite
    dsimp only
    split
    · exact refuses_same _
    split
    · exact refuses_same _
    split
    · exact refuses_same _
    split
    · exact refuses_same _
    · exact refuses_accepted (.inl rfl)
  case tableWriteLanes =>
    refine serves rfl rfl (writeTable_refuses fun values => ?_)
    unfold lanesOwn
    dsimp only
    split
    · exact refuses_same _
    split
    · exact refuses_same _
    · exact refuses_accepted (.inl rfl)
  case tableWriteDisposition =>
    refine serves rfl rfl (writeTable_refuses fun values => ?_)
    unfold dispositionOwn
    dsimp only
    split
    · exact refuses_same _
    · exact refuses_accepted (.inl rfl)
  case tableWritePacing =>
    refine serves rfl rfl (writeTable_refuses fun values => refuses_accepted ?_)
    unfold pacingOwn
    dsimp only
    split
    · exact .inr rfl
    · exact .inl rfl
  case tableWriteSampling => exact serves rfl rfl (writeTable_refuses fun _ => refuses_accepted (.inl rfl))
  case tableWriteFaultSettings => exact serves rfl rfl (writeTable_refuses fun _ => refuses_accepted (.inl rfl))
  case tableWriteDieSettings => exact serves rfl rfl (writeTable_refuses fun _ => refuses_accepted (.inl rfl))
  case tableWriteGaugeSettings =>
    refine serves rfl rfl (writeTable_refuses fun values => ?_)
    unfold gaugeSettingsOwn
    dsimp only
    split
    · exact refuses_same _
    · exact refuses_accepted (.inl rfl)
  case tableWriteSpreaderSettings => exact serves rfl rfl (writeTable_refuses fun _ => refuses_accepted (.inl rfl))
  case tableWriteAccumulatorSettings =>
    refine serves rfl rfl (writeTable_refuses fun values => ?_)
    unfold accSettingsOwn
    dsimp only
    split
    · exact refuses_same _
    · exact refuses_accepted (.inl rfl)
  all_goals simp [Instr.frame?, readFrame] at write

end Sys2Proof.Machine
end

section
/-! SUPPORT. The reads of the tables (R191): the entries named, as many as fit. -/

namespace Sys2Proof.Machine

theorem readTable_eq {α : Type} (before : List Byte) (bytes : α → List Byte) (xs : List α) (start count : Nat) :
    readTable before bytes xs start count = if 1 ≤ count ∧ start + count ≤ (xs.map bytes).length then
      acceptedWith (readData before (((xs.map bytes).drop start).take count)) else indexRange := by
  simp only [readTable, named, List.length_map, List.map_drop, List.map_take]

/-- The entries carried are the longest run of the entries named that fits (R191). -/
theorem fitEntries_eq (room : Nat) (entries : List (List Byte)) : ∃ n, n ≤ entries.length
    ∧ fitEntries room entries = entries.take n ∧ (entries.take n).flatten.length ≤ room
    ∧ (n < entries.length → room < (entries.take (n + 1)).flatten.length) := by
  induction entries generalizing room with
  | nil => exact ⟨0, Nat.le_refl 0, rfl, Nat.zero_le _, fun h => absurd h (Nat.not_lt_zero 0)⟩
  | cons e es ih =>
    by_cases fits : e.length ≤ room
    · obtain ⟨n, le, carried, total, maximal⟩ := ih (room - e.length)
      refine ⟨n + 1, Nat.succ_le_succ le, ?_, ?_, fun more => ?_⟩
      · rw [fitEntries, if_pos fits, carried, List.take_succ_cons]
      · rw [List.take_succ_cons, List.flatten_cons, List.length_append]
        omega
      · have next := maximal (Nat.lt_of_succ_lt_succ more)
        rw [List.take_succ_cons, List.flatten_cons, List.length_append]
        omega
    · refine ⟨0, Nat.zero_le _, ?_, Nat.zero_le _, fun _ => ?_⟩
      · rw [fitEntries, if_neg fits, List.take_zero]
      · simpa using fits

theorem readData_fits (before : List Byte) (entries : List (List Byte)) (short : before.length ≤ 3) : ∃ n, n ≤ entries.length
    ∧ readData before entries = u8 n ++ before ++ (entries.take n).flatten
    ∧ 4 + (readData before entries).length ≤ 250
    ∧ (n < entries.length → 250 < 5 + before.length + (entries.take (n + 1)).flatten.length) := by
  obtain ⟨n, le, carried, total, maximal⟩ := fitEntries_eq (maxBody - 5 - before.length) entries
  have room : maxBody - 5 - before.length = 245 - before.length := rfl
  have data : readData before entries = u8 n ++ before ++ (entries.take n).flatten := by
    rw [readData, carried, List.length_take_of_le le]
  refine ⟨n, le, data, ?_, fun more => ?_⟩
  · rw [data, List.length_append, List.length_append, u8_length]
    omega
  · have := maximal more
    omega

/-- A read is served with the entries named, and changes nothing. -/
theorem exec_read {i : Instr} {s : State} {α : Type} (before : Device → List Byte) (bytes : Device → α → List Byte)
    (xs : Device → List α) {start count : Nat}
    (runs : exec i s = run (fun d => d.ask i (serveRead fun d => readTable (before d) (bytes d) (xs d) start count)) s)
    (wf : WellFormed i = true) (known : owned i = true) (turn : Turn i s) :
    exec i s = .next (Served i s s.dev
      (if 1 ≤ count ∧ start + count ≤ ((xs s.dev).map (bytes s.dev)).length then
        acceptedWith (readData (before s.dev) ((((xs s.dev).map (bytes s.dev)).drop start).take count))
       else indexRange)) := by
  rw [exec_served _ runs wf known turn, ← readTable_eq]
  rfl

/-- Settles O20: each table's read through one rule, and the fit of the entries carried. -/
theorem tableReadsCarryEntries : Obligations.TableReadsCarryEntries := by
  unfold Obligations.TableReadsCarryEntries
  refine ⟨fun tag start count lane s => ?_, readData_fits⟩
  intro d reads
  have table {α : Type} {i : Instr} (before : Device → List Byte) (bytes : Device → α → List Byte) (xs : Device → List α)
      (runs : exec i s = run (fun d => d.ask i (serveRead fun d =>
        readTable (before d) (bytes d) (xs d) start.toNat count.toNat)) s)
      (wf : WellFormed i = true) (known : owned i = true) : reads i (before d) ((xs d).map (bytes d)) :=
    fun turn => exec_read before bytes xs runs wf known turn
  have profiles (turn : Turn (.tableReadProfile tag start count) s) := exec_served
    (serveRead (profileRead start.toNat count.toNat)) rfl rfl rfl turn
  refine ⟨table (fun _ => []) (fun _ => u16) (fun d => [d.tables.length]) rfl rfl rfl, fun two turn => ?_,
    fun three turn => ?_,
    table (fun _ => []) (fun _ => MapEntry.bytes) (fun d => d.tables.formatMap) rfl rfl rfl,
    table (fun d => u8 d.tables.zones.length) (fun _ => ZoneEntry.bytes) (fun d => d.tables.zones) rfl rfl rfl,
    table (fun _ => []) (fun _ => LaneEntry.bytes) (fun d => d.tables.lanes) rfl rfl rfl,
    table (fun _ => []) (fun _ => u8) (fun d => d.tables.dispositions) rfl rfl rfl,
    table (fun _ => []) (fun _ => PacingEntry.bytes) (fun d => [d.tables.pacing]) rfl rfl rfl,
    table (fun _ => []) (fun _ => SamplingEntry.bytes) (fun d => [d.tables.sampling]) rfl rfl rfl,
    table (fun _ => []) (fun _ => FaultSetting.bytes) (fun d => d.tables.faults) rfl rfl rfl,
    table (fun _ => []) (fun _ => DieSettings.bytes) (fun d => [d.tables.die]) rfl rfl rfl,
    table (fun _ => []) (fun _ => GaugeSettings.bytes) (fun d => [d.tables.gauge]) rfl rfl rfl,
    table (fun _ => []) (fun _ => SpreaderSettings.bytes) (fun d => [d.tables.spreader]) rfl rfl rfl,
    table (fun _ => []) (fun _ => AccSettings.bytes) (fun d => [d.tables.acc]) rfl rfl rfl,
    table (fun _ => []) (fun _ => Content.bytes) (fun d => d.track.positions) rfl rfl rfl,
    table (fun _ => []) zoneStateBytes Device.zoneIndices rfl rfl rfl,
    table (fun _ => []) dieStationBytes (fun d => [d.die.stationA, d.die.stationB]) rfl rfl rfl,
    table (fun _ => []) (fun _ => u16) (fun d => d.gauge.factors) rfl rfl rfl,
    table (fun _ => []) (fun _ => u32) Device.counts rfl rfl rfl, fun turn => ?_⟩
  · rw [profiles turn, serveRead, profileRead, if_pos two, readTable_eq]
  · rw [profiles turn, serveRead, profileRead, if_neg (Nat.not_le.mpr three)]
  · rw [exec_served (serveRead (laneContentRead start.toNat count.toNat lane.toNat)) rfl rfl rfl turn, serveRead,
      laneContentRead]
    by_cases named : lane.toNat ≤ 3 ∧ 1 ≤ count.toNat
    · rw [if_pos named, if_neg (by omega)]
      rfl
    · rw [if_neg named, if_pos (by omega)]

end Sys2Proof.Machine
end

section
/-! SUPPORT. The ZONE_LAYOUT write (R89, R90, R107): the zones below the new Z are relaid one by one, between two runs of the
settle timers. -/

namespace Sys2Proof.Machine

section Layout
variable {d : Device} {zs : List ZoneEntry} {carried : Nat → Bool}

/-- The part as an accepted layout write meets its zones: its run-out settle timers noted, and its layout the new one. -/
def Device.onLayout (zs : List ZoneEntry) (d : Device) : Device := d.runOut.setTables fun t => { t with zones := zs }

/-- The part with its zones relaid, before the settle timers are run out again. -/
def Device.relaidZones (zs : List ZoneEntry) (carried : Nat → Bool) (d : Device) : Device :=
  (List.range zs.length).foldl (relayZone d.tables.zones carried) (d.onLayout zs)

theorem Device.setLayout_eq : d.setLayout zs carried = (d.relaidZones zs carried).runOut := rfl

theorem Device.relaidZones_tables : (d.relaidZones zs carried).tables = { d.tables with zones := zs }
    ∧ (d.relaidZones zs carried).sec = d.sec := by
  have relay := (zone_relay d.tables.zones carried (d.onLayout zs) zs.length 0).1.1
  have layout : d.relaidZones zs carried = { d.onLayout zs with
    climate := { (d.onLayout zs).climate with zones := (d.relaidZones zs carried).climate.zones } } := relay
  rw [layout]
  exact ⟨rfl, rfl⟩

/-- Whether a zone's structure is changed by a new entry, or it had none (R90). -/
theorem restructured_iff {old : List ZoneEntry} {z : Nat} {e : ZoneEntry} :
    restructured old z e = true ↔ ∀ o, old[z]? = some o → structureDiffers o e = true := by
  unfold restructured
  cases old[z]? with
  | none => exact ⟨fun _ => nofun, fun _ => rfl⟩
  | some o => exact ⟨fun h p hp => Option.some.inj hp ▸ h, fun h => h o rfl⟩

/-- A settle timer that has been run out where it no longer counts. -/
def ZoneRt.ranOut (out : Prop) [Decidable out] (x : ZoneRt) : ZoneRt := if out then { x with settleFrom := none } else x

theorem ZoneRt.ranOut_eq (out : Prop) [Decidable out] (x : ZoneRt) :
    x.ranOut out = { x with settleFrom := if out then none else x.settleFrom } := by
  unfold ZoneRt.ranOut
  split <;> rfl

theorem Device.zone_onLayout (z : Nat) : (d.onLayout zs).zone z
    = (d.zone z).ranOut (z < d.tables.zones.length ∧ d.settleCounting z = false) := d.zone_runOut z

/-- A zone of the new layout, after the write (R90). -/
theorem Device.zone_setLayout (twelve : d.climate.zones.length = 12) (few : zs.length ≤ 12) (z : Nat) :
    (d.setLayout zs carried).zone z = if z < zs.length then
        ((d.onLayout zs).relaid d.tables.zones carried z ((d.onLayout zs).zone z)).ranOut
          ((d.relaidZones zs carried).settleCounting z = false)
      else (d.onLayout zs).zone z := by
  have length : (d.onLayout zs).climate.zones.length = 12 := by
    simpa [Device.onLayout, Device.setTables, Device.runOut] using twelve
  have relay : (d.relaidZones zs carried).zone z = _ := (zone_relay d.tables.zones carried (d.onLayout zs) zs.length z).2
  rw [Device.setLayout_eq, Device.zone_runOut, Device.relaidZones_tables.1, relay, length]
  by_cases inside : z < zs.length
  · rw [if_pos inside, if_pos (⟨inside, by omega⟩ : z < zs.length ∧ z < 12)]
    simp only [inside, true_and]
    rfl
  · rw [if_neg inside, if_neg fun h => inside h.1, if_neg fun h => inside h.1]

/-- The seconds of settle left, for a zone of the layout (R112). -/
theorem Device.settleLeft_eq {z : Nat} {e : ZoneEntry} (entry : d.tables.zones[z]? = some e) :
    d.settleLeft z = ((d.zone z).settleFrom.map fun t => t + e.settle - d.sec).getD 0 := by
  unfold Device.settleLeft
  rw [entry]
  show (match (d.zone z).settleFrom, some e with
    | some t, some e => t + e.settle - d.sec
    | _, _ => 0) = _
  cases (d.zone z).settleFrom <;> rfl

theorem Device.settleCounting_eq_false {z : Nat} : d.settleCounting z = false ↔ d.settleLeft z = 0 := by
  unfold Device.settleCounting Device.settleLeft
  split
  · rw [decide_eq_false_iff_not]
    omega
  · exact iff_of_true rfl rfl

/-- Running settle timers out leaves the seconds that they have left. -/
theorem Device.settleLeft_runOut (z : Nat) : d.runOut.settleLeft z = d.settleLeft z := by
  cases entry : d.tables.zones[z]? with
  | none =>
    have off (e : Device) (h : e.tables.zones[z]? = none) : e.settleLeft z = 0 := by
      unfold Device.settleLeft
      rw [h]
      split <;> simp_all
    rw [off d entry, off d.runOut entry]
  | some e =>
    have inside : z < d.tables.zones.length := (List.getElem?_eq_some_iff.mp entry).1
    rw [Device.settleLeft_eq (d := d.runOut) (e := e) entry, Device.zone_runOut]
    split
    · rename_i out
      rw [Device.settleCounting_eq_false.mp out.2]
      rfl
    · rw [Device.settleLeft_eq entry]
      rfl

/-- A zone that keeps its structure keeps its settle timer, which counts to the new settle time; one with another structure
starts it (R90, R107). -/
theorem Device.settleLeft_setLayout (twelve : d.climate.zones.length = 12) (few : zs.length ≤ 12) {z : Nat} {e : ZoneEntry}
    (entry : zs[z]? = some e) : (d.setLayout zs carried).settleLeft z
      = if restructured d.tables.zones z e then e.settle
        else if d.settleLeft z = 0 then 0 else (d.zone z).settleFrom.getD 0 + e.settle - d.sec := by
  have inside : z < zs.length := (List.getElem?_eq_some_iff.mp entry).1
  have length : (d.onLayout zs).climate.zones.length = 12 := by
    simpa [Device.onLayout, Device.setTables, Device.runOut] using twelve
  have relay : (d.relaidZones zs carried).zone z = _ := (zone_relay d.tables.zones carried (d.onLayout zs) zs.length z).2
  rw [if_pos (⟨inside, by omega⟩ : z < zs.length ∧ z < (d.onLayout zs).climate.zones.length)] at relay
  have named : (d.onLayout zs).tables.zones.getD z default = e := by
    show zs.getD z default = e
    rw [List.getD_eq_getElem?_getD, entry]
    rfl
  have laid : (d.relaidZones zs carried).tables.zones[z]? = some e := by rw [Device.relaidZones_tables.1]; exact entry
  rw [Device.setLayout_eq, Device.settleLeft_runOut, Device.settleLeft_eq laid, relay, Device.relaidZones_tables.2]
  unfold Device.relaid
  rw [named]
  by_cases changed : restructured d.tables.zones z e = true
  · simp only [if_pos changed, Device.settled, Option.map_some, Option.getD_some]
    show d.sec + e.settle - d.sec = e.settle
    omega
  · simp only [if_neg changed]
    have kept (x : ZoneRt) : (if carried z = true ∧ e.trimMax < x.trim then
          (d.onLayout zs).setpoints z { (if carried z = true then { x with tempOut := false, humOut := false } else x) with
            trim := e.trimMax }
        else if carried z = true then { x with tempOut := false, humOut := false } else x).settleFrom = x.settleFrom := by
      repeat' split
      all_goals rfl
    rw [kept, Device.zone_onLayout, ZoneRt.ranOut_eq]
    obtain ⟨o, old, -⟩ : ∃ o, d.tables.zones[z]? = some o ∧ ¬structureDiffers o e = true := by
      rw [restructured_iff] at changed
      push Not at changed
      exact changed
    have before : z < d.tables.zones.length := (List.getElem?_eq_some_iff.mp old).1
    simp only [before, true_and, Device.settleCounting_eq_false]
    by_cases out : d.settleLeft z = 0
    · simp only [if_pos out]
      rfl
    · simp only [if_neg out]
      rw [Device.settleLeft_eq old] at out
      cases h : (d.zone z).settleFrom with
      | none => rw [h] at out; exact absurd rfl out
      | some t => rfl

end Layout

/-- Settles O17: the layout owner's checks pass, and each zone is relaid on its own. -/
theorem zoneLayoutWriteRelaysZones : Obligations.ZoneLayoutWriteRelaysZones := by
  unfold Obligations.ZoneLayoutWriteRelaysZones
  intro tag start es zs s sixteen fits layout unstructural free twelve few i turn
  have coded (e : ZoneEntry) (he : e ∈ es) : Coded zoneSpec ZoneEntry.bytes ZoneEntry.fields e := ZoneEntry.coded (fits e he)
  have count : (BitVec.ofNat 8 es.length).toNat = es.length := count_toNat (by omega)
  have body : es.length * entryBytes zoneSpec ≤ 246 := Nat.le_trans (Nat.mul_le_mul_right 15 sixteen) (by decide)
  have values : (es.map ZoneEntry.fields).map zoneEntryOf = es := by
    simp only [List.map_map, Function.comp_def, zoneEntryOf_fields, List.map_id']
  have refusal : ¬(structural s.dev.tables.zones zs = true ∧ s.dev.anyLoaded = true) := by
    rintro ⟨a, b⟩
    rcases unstructural with h | h
    · rw [h] at a; cases a
    · rw [h] at b; cases b
  have writes : zoneLayoutWrite start.toNat (BitVec.ofNat 8 es.length).toNat (es.map ZoneEntry.bytes).flatten s.dev
      = (s.dev.setLayout zs fun z => decide (start.toNat ≤ z) && decide (z < start.toNat + es.length), accepted) := by
    rw [count]
    simp only [zoneLayoutWrite, readEntries_coded coded, values, layout, badEntry?_coded coded, if_neg refusal, free]
  have served : exec i s = _ := exec_served (i := i)
    (zoneLayoutWrite start.toNat (BitVec.ofNat 8 es.length).toNat (es.map ZoneEntry.bytes).flatten) rfl
    (entriesFit_coded coded body (by omega)) rfl turn
  rw [writes] at served
  generalize hc : (fun z => decide (start.toNat ≤ z) && decide (z < start.toNat + es.length)) = carried at served
  have named (z : Nat) : carried z = true ↔ start.toNat ≤ z ∧ z < start.toNat + es.length := by
    rw [← hc]
    simp
  refine ⟨_, served, ?_⟩
  have zone (z : Nat) : (Served i s (s.dev.setLayout zs carried) accepted).dev.zone z = (s.dev.setLayout zs carried).zone z := by
    rw [served_only]
    rfl
  have left (z : Nat) : (Served i s (s.dev.setLayout zs carried) accepted).dev.settleLeft z
      = (s.dev.setLayout zs carried).settleLeft z := by
    rw [served_only]
    rfl
  refine ⟨?_, ?_, ?_, ?_, ?_, ?_, ?_, ?_, ?_, ?_, ?_, ?_, ?_, ?_, ?_, ?_, rfl, fun z above => ?_, fun z e entry => ?_⟩
  case refine_17 =>
    rw [zone, Device.zone_setLayout twelve few, if_neg (Nat.not_lt.mpr above), Device.zone_onLayout, ZoneRt.ranOut_eq]
  case refine_18 =>
    have inside : z < zs.length := (List.getElem?_eq_some_iff.mp entry).1
    have entered : (s.dev.onLayout zs).tables.zones.getD z default = e := by
      show zs.getD z default = e
      rw [List.getD_eq_getElem?_getD, entry]
      rfl
    have profile (p : Nat) : (s.dev.onLayout zs).profile p = s.dev.profile p := rfl
    rw [zone, left, Device.settleLeft_setLayout twelve few entry, Device.zone_setLayout twelve few, if_pos inside,
      Device.zone_onLayout]
    simp only [ZoneRt.ranOut_eq, ← restructured_iff, ← named]
    unfold Device.relaid
    rw [entered]
    by_cases changed : restructured s.dev.tables.zones z e = true <;> by_cases here : carried z = true <;>
      by_cases above : e.trimMax < (s.dev.zone z).trim <;>
      simp [changed, here, above, Device.settled, Device.setpoints, profile]
  all_goals rw [served_only, Device.setLayout_only]

end Sys2Proof.Machine
end


section
/-! SUPPORT. The line state: LINE_RUN and the stop orders. -/

namespace Sys2Proof.Machine

/-- The answer of an owner that leaves the part as it was. -/
theorem exec_answered {i : Instr} {s : State} {own : Device → Device × Answer} {d : Device} {a : Answer}
    (runs : exec i s = run (fun d => d.ask i own) s) (wf : WellFormed i = true) (known : owned i = true) (turn : Turn i s)
    (answers : own s.dev = (d, a)) : exec i s = .next (Served i s d a) := by
  rw [exec_served own runs wf known turn, answers]

/-- Some lane or the return buffer is undeclared exactly if not all of them are declared (R64). -/
theorem Device.undeclared_eq_false {d : Device} :
    d.undeclared = false ↔ (∀ l ∈ d.acc.lanes, l.declared = true) ∧ d.acc.returnDeclared = true := by
  simp [Device.undeclared]

/-- LINE_RUN's start, with the IDLE pacer's change made in place (R64). -/
theorem lineRun_started {d : Device} (stopped : d.pace.line = .stopped) (declared : d.undeclared = false)
    (clear : d.stopFault = none) (resolved : d.pace.pacer ≠ .unresolved) :
    lineRun d = (Device.notifyLine .lineChange { d with pace := { d.pace with
      line := .running
      cause := .none
      force := ⟨d.tables.pacing.mode, d.tables.pacing.period, d.tables.pacing.pulses, d.tables.pacing.polarity⟩
      pitch := ⟨0, if d.tables.pacing.mode = .fixed then some d.time else none⟩
      pulses := 0
      lastEdge := none
      pacer := if d.pace.pacer = .idle then .waiting else d.pace.pacer } }, accepted) := by
  simp only [lineRun, stopped, declared, clear, resolved, if_false, reduceCtorEq, Bool.false_eq_true]
  split <;> rfl

/-- Settles O21: the reasons in their order, each with the ones before it excluded, and the start. -/
theorem lineRunStartsOrNamesReason : Obligations.LineRunStartsOrNamesReason := by
  intro tag s turn i d w declared
  have answered {e : Device} {a : Answer} : lineRun d = (e, a) → exec i s = .next (Served i s e a) :=
    exec_answered rfl rfl rfl turn
  have held : declared → d.undeclared = false := Device.undeclared_eq_false.mpr
  refine ⟨fun running => answered ?_, fun stopped missing => answered ?_, fun k stopped all fault => answered ?_,
    fun stopped all clear unresolved => answered ?_, fun stopped all clear resolved => answered ?_⟩
  · simp [lineRun, running]
  · have : d.undeclared = true := by
      simpa using mt Device.undeclared_eq_false.mp missing
    simp [lineRun, stopped, this]
  · simp [lineRun, stopped, held all, fault]
  · simp [lineRun, stopped, held all, clear, unresolved]
  · exact lineRun_started stopped (held all) clear resolved

/-- A part as a stop order leaves it, before its notice: the order's cause is held (R65). -/
def Device.stoppedBy (cause : StopCause) (d : Device) : Device :=
  { d with pace := { d.pace with
    line := .stopped
    cause := cause
    due := false
    pitch := ⟨d.watch d.pace.pitch, none⟩
    pacer := if d.pace.pacer = .moving ∨ d.pace.pacer = .unresolved then d.pace.pacer else .idle
    reason := none } }

/-- The first stop order names the cause and sends a LINE_STATE notice (R65). -/
theorem Device.stopLine_running {d : Device} (cause : StopCause) (running : d.pace.line = .running) :
    d.stopLine cause = (d.stoppedBy cause).notifyLine .lineChange := by
  simp only [Device.stopLine, Device.stoppedBy, running, if_true]
  cases d.pace.pacer <;> rfl

/-- A stop order that finds the line STOPPED keeps the cause (R65). -/
theorem Device.stopLine_stopped {d : Device} (cause : StopCause) (stopped : d.pace.line = .stopped) :
    d.stopLine cause = d.stoppedBy d.pace.cause := by
  simp only [Device.stopLine, Device.stoppedBy, stopped, if_false, reduceCtorEq]
  cases d.pace.pacer <;> rfl

/-- Settles O22: the stop order of either source, on a line that runs and on one that is STOPPED. -/
theorem stopOrderStopsTheLine : Obligations.StopOrderStopsTheLine := by
  refine ⟨fun tag s turn => ⟨fun running => ?_, fun stopped => ?_⟩, fun cause s => ⟨fun running => ?_, fun stopped => ?_⟩⟩
  · exact exec_answered (own := lineStop) rfl rfl rfl turn
      (congrArg (fun d => (d, accepted)) (Device.stopLine_running .request running))
  · exact exec_answered (own := lineStop) rfl rfl rfl turn
      (congrArg (fun d => (d, accepted)) (Device.stopLine_stopped .request stopped))
  · show run (fun d => (d.take (.stop cause)).stopLine cause) s = _
    rw [run_after, Device.stopLine_running (d := s.dev.take (.stop cause)) cause running]
    rfl
  · show run (fun d => (d.take (.stop cause)).stopLine cause) s = _
    rw [run_after, Device.stopLine_stopped (d := s.dev.take (.stop cause)) cause stopped]
    rfl

end Sys2Proof.Machine
end


section
/-! SUPPORT. The drying model against the one the statements write out: `Dried`, `Updated` and `ExitChecked`. -/

namespace Sys2Proof.Machine

/-- The reading an update takes for a zone: its last one while it is VALID (R29). -/
def Device.seen (d : Device) (z : Nat) : Option Reading := if (d.zone z).valid then (d.zone z).reading else none

/-- The climate of a zone is the reading, or the effective setpoints, which give ESTIMATED (R29). -/
theorem Device.air_eq (d : Device) (z : Nat) : d.air z =
    ⟨min 1200 (((d.seen z).map Reading.temp).getD (d.zone z).effTemp),
      min 1000 (((d.seen z).map Reading.hum).getD (d.zone z).effHum), (d.seen z).isNone⟩ := by
  unfold Device.air Device.seen
  dsimp only
  cases (d.zone z).valid <;> cases (d.zone z).reading <;> rfl

/-- The stress relaxes in a RELAX zone only (R36, R37). -/
theorem newStress_eq (type : ZoneType) (relax weight dt stress excess : Nat) :
    newStress type relax weight dt stress excess =
      if type = .relax then min 65535 (stress + excess * weight) - relax * dt / 60
      else min 65535 (stress + excess * weight) := by
  cases type <;> rfl

/-- One rod's stages are the ones that `Dried` writes out (R28 to R39). -/
theorem dryRod_eq (d : Device) (dt z : Nat) (r : Rod) : dryRod d dt z r = Dried d dt z r := by
  unfold dryRod Dried
  cases r.product with
  | none => rfl
  | some x =>
    simp only [dryProduct, Device.air_eq, newStress_eq]
    rfl

/-- What an update makes of a content (R28 to R39). -/
def driedContent (d : Device) (dt : Nat) (p : Content × Nat) : Content :=
  match p.1 with
  | .loaded r => .loaded (Dried d dt (zoneOf d.tables.zones p.2) r).1
  | c => c

/-- The raise of a rod that gains STRESSED (R38). -/
theorem dryPosition_stressed (d : Device) (dt : Nat) (p : Content × Nat) :
    ((dryPosition d dt p).stressed.map fun id => Mail.raise .rodStressed { rod := some id }) =
      p.1.rod?.bind fun r =>
        if (Dried d dt (zoneOf d.tables.zones p.2) r).1.flags.stressed = true ∧ r.flags.stressed = false then
          some (.raise .rodStressed { rod := some r.id })
        else none := by
  unfold dryPosition
  cases p.1 with
  | loaded r =>
    simp only [dryRod_eq, Content.rod?, Option.bind_some]
    split <;> rfl
  | empty => rfl
  | gap => rfl
  | unknown => rfl

/-- The content an update leaves at a position. -/
theorem dryPosition_content (d : Device) (dt : Nat) (p : Content × Nat) :
    (dryPosition d dt p).content = driedContent d dt p := by
  unfold dryPosition driedContent
  cases p.1 <;> simp [dryRod_eq]

/-- The zone whose tallies count a position is the one of its span, for a rod only (R40). -/
theorem dryPosition_zone (d : Device) (dt z : Nat) (p : Content × Nat) :
    decide ((dryPosition d dt p).zone = some z) = (p.1.rod?.isSome && decide (zoneOf d.tables.zones p.2 = z)) := by
  unfold dryPosition
  cases p.1 <;> simp [Content.rod?]

/-- A position exceeds where its rod's excess is above 0 (R40). -/
theorem dryPosition_exceeds (d : Device) (dt : Nat) (p : Content × Nat) : (dryPosition d dt p).exceeds =
    p.1.rod?.any fun r => decide (0 < (Dried d dt (zoneOf d.tables.zones p.2) r).2) := by
  unfold dryPosition
  cases p.1 <;> simp [Content.rod?, dryRod_eq]

/-- An update is the one that `Updated` writes out (R26, R27, R38, R40). -/
theorem update_eq (d : Device) : update d = Updated d := by
  simp only [update, Updated]
  split
  · rename_i still
    exact (if_pos still).symm
  · rename_i moves
    refine Eq.trans ?_ (if_neg moves).symm
    have raises (l : List (Content × Nat)) (dt : Nat) :
        ((l.map (dryPosition d dt)).filterMap DryOut.stressed).map
          (fun id => Mail.raise .rodStressed { rod := some id }) = l.filterMap fun p =>
            (dryPosition d dt p).stressed.map fun id => Mail.raise .rodStressed { rod := some id } := by
      rw [List.filterMap_map, List.map_filterMap]
      rfl
    rw [raiseStressed_mail, raises]
    simp only [dryPosition_stressed, talliesOf, List.countP_map, Function.comp_def, dryPosition_zone, dryPosition_exceeds,
      List.map_map, dryPosition_content]
    rfl

/-- An exit check is the one that `ExitChecked` writes out (R41). -/
theorem exitCheck_eq (d : Device) : exitCheck d = ExitChecked d := by
  have moist (r : Rod) : d.overMoist r = r.product.any fun x =>
      decide ((d.tables.profiles.getD x.profile default).target + (d.tables.profiles.getD x.profile default).tolerance
        < x.moisture) := by
    unfold Device.overMoist Device.profile
    cases r.product <;> rfl
  unfold exitCheck ExitChecked Device.exitContent
  cases d.track.positions.getLast? with
  | none => rfl
  | some c =>
    cases c with
    | loaded r =>
      simp only [Option.getD_some, moist]
      split <;> rfl
    | empty => rfl
    | gap => rfl
    | unknown => rfl

/-- Settles O29: the expiry of the standstill timer, whose moment is never past without it having run out. -/
theorem standstillRunsAnUpdate : Obligations.StandstillRunsAnUpdate := by
  intro s
  show run (fun d => expire (some d.standstillDeadline) update d) s = _
  rw [run_after, expire_some, update_eq]
  rfl

/-- Where a position stands after an update (R26, R27). -/
theorem update_positions (d : Device) : (update d).track.positions =
    if d.interval = 0 then d.track.positions else d.track.positions.zipIdx.map (driedContent d d.interval) := by
  simp only [update]
  split
  · rfl
  · rw [raiseStressed_mail]
    simp [Device.post, Function.comp_def, dryPosition_content]

/-- The stages of a rod with a product: its identity stays, its moisture falls no lower than the equilibrium moisture, and
STRESSED is never lost (R28 to R39). -/
theorem dried_product (d : Device) (dt z : Nat) {r : Rod} {x : Product} (product : r.product = some x) :
    let r' := (Dried d dt z r).1
    ∃ y, r'.product = some y ∧ r'.id = r.id ∧ r'.born = r.born ∧ y.batch = x.batch ∧ y.profile = x.profile
      ∧ y.moisture ≤ x.moisture ∧ min x.moisture (equilibrium (d.profile x.profile).eq (d.air z).hum) ≤ y.moisture
      ∧ (r.flags.stressed = true → r'.flags.stressed = true) ∧ r'.flags.hostmark = r.flags.hostmark := by
  rw [← dryRod_eq]
  unfold dryRod
  rw [product]
  refine ⟨_, rfl, rfl, rfl, rfl, rfl, Nat.sub_le _ _, ?_, fun held => by simp [held], rfl⟩
  simp only [dryProduct, moistureLoss]
  omega

/-- Settles O30: both are the ones written out, and a position's rod keeps its identity through an update. -/
theorem updateNeverRaisesMoisture : Obligations.UpdateNeverRaisesMoisture := by
  intro d
  have exits : exitCheck d = { d with track := (exitCheck d).track, mail := (exitCheck d).mail } := by
    obtain h | ⟨r, _, _, _, h⟩ := exitCheck_cases d <;> rw [h]
    rfl
  refine ⟨update_eq d, exitCheck_eq d, update_only d, exits, fun k c at_k => ⟨fun rodless => ?_, fun r x loaded product => ?_⟩⟩
  · rw [update_positions]
    split
    · exact at_k
    · cases c with
      | loaded r => cases rodless
      | empty => simp [at_k, driedContent]
      | gap => simp [at_k, driedContent]
      | unknown => simp [at_k, driedContent]
  · intro dt
    subst loaded
    have stands : (update d).track.positions[k]? =
        some (.loaded (if dt = 0 then r else (Dried d dt (zoneOf d.tables.zones k) r).1)) := by
      rw [update_positions]
      by_cases still : dt = 0
      · rw [if_pos still, if_pos (show d.interval = 0 from still)]
        exact at_k
      · rw [if_neg still, if_neg (show ¬d.interval = 0 from still)]
        simp [at_k, driedContent, dt, Device.interval, size32]
    refine ⟨stands, ?_⟩
    by_cases still : dt = 0
    · exact ⟨r, x, by rw [stands, if_pos still], product, rfl, rfl, rfl, rfl, le_rfl, min_le_left _ _, id, rfl⟩
    · obtain ⟨y, kept⟩ := dried_product d dt (zoneOf d.tables.zones k) product
      exact ⟨_, y, by rw [stands, if_neg still], kept⟩

end Sys2Proof.Machine
end


section
/-! SUPPORT. The advance attempt and the pitch interval against what the statements write out: `Attempted`, `Begun`,
`PacedAttempt`. -/

namespace Sys2Proof.Machine

/-- The update and the exit check of an attempt are the ones written out. -/
theorem attempted_eq (d : Device) : exitCheck (update d.setHold) = Attempted d := by
  rw [update_eq, exitCheck_eq]
  rfl

/-- An attempt up to its move sets the chain hold, and changes the track and the mail beside it. -/
theorem attempted_only (d : Device) :
    Attempted d = { d.setHold with track := (Attempted d).track, mail := (Attempted d).mail } := by
  rw [← attempted_eq]
  exact exitCheck_update_only d.setHold

/-- The chain hold is set once an attempt has run its update. -/
theorem attempted_hold (d : Device) : (Attempted d).spread.hold = true := by
  rw [attempted_only]
  rfl

/-- A move begins as written out (R76). -/
theorem Device.startMove_eq (kind : MoveKind) (reservation : Option Nat) (disposition : Option Disposition) (e : Device) :
    e.startMove kind reservation disposition = Begun kind reservation disposition e := by
  cases kind <;> rfl

/-- A set chain hold is cleared with a fill decision (R138). -/
theorem Device.clearHold_set {e : Device} (held : e.spread.hold = true) : e.clearHold = Cleared e := if_pos held

/-- With no record at the exit a move starts without a reservation (R74). -/
theorem Device.reserveAndMove_recordless {kind : MoveKind} {e : Device} (recordless : e.exitContent.rod? = none) :
    e.reserveAndMove kind = (Begun kind none none e, .started) := by
  rw [← Device.startMove_eq]
  obtain ⟨r, _, content, _⟩ | ⟨r, content, _⟩ | ⟨-, moves⟩ := e.reserveAndMove_cases kind
  · rw [content] at recordless
    cases recordless
  · rw [content] at recordless
    cases recordless
  · exact moves

/-- An exit record whose lane has room moves with a reservation there (R74). -/
theorem Device.reserveAndMove_room {kind : MoveKind} {e : Device} {r : Rod} (content : e.exitContent = .loaded r)
    (room : e.hasRoom (e.laneFor (dispositionOf r) r) = true) :
    e.reserveAndMove kind = (Begun kind (some (e.laneFor (dispositionOf r) r)) (some (dispositionOf r))
      (Reserved (e.laneFor (dispositionOf r) r) e), .started) := by
  rw [← Device.startMove_eq, Device.reserveAndMove, content]
  exact if_pos room

/-- An exit record whose lane has none starts no move (R74). -/
theorem Device.reserveAndMove_full {kind : MoveKind} {e : Device} {r : Rod} (content : e.exitContent = .loaded r)
    (full : e.hasRoom (e.laneFor (dispositionOf r) r) = false) : e.reserveAndMove kind = (e, .ended .laneFull) := by
  rw [Device.reserveAndMove, content]
  exact if_neg (by simp [full])

/-- An attempt with the slot LOADING ends without an update (R73). -/
theorem Device.attempt_loading {d : Device} {kind : MoveKind} (loading : d.spread.slot = .loading) :
    d.attempt kind = (d, .ended .loadInFlight) := if_pos loading

/-- Any other attempt comes to its exit with the update and the exit check made (R74). -/
theorem Device.attempt_runs {d : Device} {kind : MoveKind} (idle : d.spread.slot ≠ .loading) :
    d.attempt kind = (Attempted d).reserveAndMove kind := by
  rw [Device.attempt, if_neg idle, attempted_eq]

/-- A PACED attempt that starts its move. -/
theorem Device.pacedAttempt_started {d e : Device} (started : d.attempt .paced = (e, .started)) : d.pacedAttempt = e := by
  rw [Device.pacedAttempt, started]

/-- A PACED attempt that finds no room defers beside the pace as it was, and clears the chain hold (R74, R138). -/
theorem Device.pacedAttempt_full {d e : Device} {p : Pace} (full : d.attempt .paced = (e, .ended .laneFull))
    (kept : e.pace = p) (held : e.spread.hold = true) : d.pacedAttempt =
      Cleared { e.bump .deferrals with pace := { p with pacer := .deferred, reason := some .laneFull } } := by
  subst kept
  rw [Device.pacedAttempt, full]
  exact Device.clearHold_set (e := e.deferPace .laneFull) held

/-- The pace is as it was until an attempt's move begins. -/
theorem attempted_pace (d : Device) : (Attempted d).pace = d.pace := by
  rw [attempted_only]
  rfl

/-- The pacing unit's PACED attempt is the one written out (R72 to R76, R138). -/
theorem Device.pacedAttempt_law (d : Device) : PacedAttempt d d.pacedAttempt := by
  refine ⟨fun loading => ?_, fun idle recordless => ?_, fun r idle content => ⟨fun room => ?_, fun full => ?_⟩⟩
  · rw [Device.pacedAttempt, Device.attempt_loading loading]
    rfl
  · exact Device.pacedAttempt_started
      ((Device.attempt_runs idle).trans (Device.reserveAndMove_recordless recordless))
  · exact Device.pacedAttempt_started ((Device.attempt_runs idle).trans (Device.reserveAndMove_room content room))
  · exact Device.pacedAttempt_full ((Device.attempt_runs idle).trans (Device.reserveAndMove_full content full))
      (attempted_pace d) (attempted_hold d)

/-- What JOG makes of its attempt's end (R81). -/
def jogEnd (e : Device) : AttemptEnd → Device × Answer
  | .started => (e, accepted)
  | .ended .loadInFlight => (e, wrongState .loadInFlight)
  | .ended .laneFull => (e.clearHold, wrongState .laneFull)

/-- JOG comes to its attempt where no move and no HALT kind stand in its way (R81). -/
theorem jog_attempts {d e : Device} {a : AttemptEnd} (may : d.pace.pacer = .idle ∨ d.pace.pacer = .waiting)
    (clear : d.haltFault = none) (attempt : d.attempt .jog = (e, a)) :
    jog d = jogEnd e a := by
  have free : ¬(d.pace.pacer = .moving ∨ d.pace.pacer = .unresolved ∨ d.pace.pacer = .deferred) := by
    rcases may with h | h <;> simp [h]
  rw [jog, if_neg free, clear, attempt]
  cases a with
  | started => rfl
  | ended reason => cases reason <;> rfl

/-- JOG's refusal with LANE_FULL clears the chain hold that the attempt set (R81, R138). -/
theorem jog_full {d e : Device} (may : d.pace.pacer = .idle ∨ d.pace.pacer = .waiting) (clear : d.haltFault = none)
    (full : d.attempt .jog = (e, .ended .laneFull)) (held : e.spread.hold = true) :
    jog d = (Cleared e, wrongState .laneFull) := by
  rw [← Device.clearHold_set held]
  exact jog_attempts may clear full

/-- Settles O23: the refusals in their order, then the attempt by what stands at the exit. -/
theorem jogAndRetryAttemptAMove : Obligations.JogAndRetryAttemptAMove := by
  refine ⟨fun tag s turn => ?_, fun report s deferred retried => ⟨_, ?_, Device.pacedAttempt_law _⟩⟩
  · have answers {e : Device} {a : Answer} :
        jog s.dev = (e, a) → exec (.jog tag) s = .next (Served (.jog tag) s e a) := exec_answered rfl rfl rfl turn
    refine ⟨fun busy => answers (if_pos busy), fun k free fault => answers ?_,
      fun ⟨free, clear⟩ loading => answers (jog_attempts free clear (Device.attempt_loading loading)),
      fun ⟨free, clear⟩ idle recordless => answers (jog_attempts free clear
        ((Device.attempt_runs idle).trans (Device.reserveAndMove_recordless recordless))),
      fun r ⟨free, clear⟩ idle content =>
        ⟨fun room => answers (jog_attempts free clear
          ((Device.attempt_runs idle).trans (Device.reserveAndMove_room content room))),
        fun full => answers (jog_full free clear
          ((Device.attempt_runs idle).trans (Device.reserveAndMove_full content full)) (attempted_hold s.dev))⟩⟩
    have : ¬(s.dev.pace.pacer = .moving ∨ s.dev.pace.pacer = .unresolved ∨ s.dev.pace.pacer = .deferred) := by
      rcases free with h | h <;> simp [h]
    rw [jog, if_neg this, fault]
  · show run (fun d => (d.take (.retry report)).retry report) s = _
    rw [run_after]
    exact congrArg (fun d => Host.Outcome.next (After s d)) (if_pos ⟨deferred, retried⟩)

/-- The written settings as they come into force (R68). -/
def Device.written (d : Device) : InForce :=
  ⟨d.tables.pacing.mode, d.tables.pacing.period, d.tables.pacing.pulses, d.tables.pacing.polarity⟩

/-- The next interval starts from 0 under the written settings; a change to FOLLOW leaves no edge held (R68 to R70). -/
theorem Device.nextInterval_eq (d : Device) : d.nextInterval = { d with pace := { d.pace with
    force := d.written
    pitch := ⟨0, if d.tables.pacing.mode = .fixed then some d.time else none⟩
    pulses := 0
    lastEdge := if d.pace.force.mode = .follow ∨ d.tables.pacing.mode = .fixed then d.pace.lastEdge else none } } := by
  unfold Device.nextInterval Device.bringIntoForce Device.startInterval Device.clearReference Device.written
  cases before : d.pace.force.mode <;> cases after : d.tables.pacing.mode <;> simp [after]

/-- A due in WAITING makes an attempt, is kept during a move, and is lost where one is kept or an attempt deferred (R72). -/
theorem Device.due_law (d : Device) :
    (d.pace.pacer = .waiting → d.due = d.pacedAttempt)
      ∧ (d.pace.pacer = .moving ∨ d.pace.pacer = .unresolved → d.pace.due = false →
        d.due = { d with pace := { d.pace with due := true } })
      ∧ ((d.pace.pacer = .moving ∨ d.pace.pacer = .unresolved) ∧ d.pace.due = true ∨ d.pace.pacer = .deferred →
        d.due = d.loseDue) := by
  unfold Device.due
  cases d.pace.pacer <;> cases d.pace.due <;> simp

/-- A counted edge of the press screw (R70). -/
theorem Device.pulse_counted {d : Device} (running : d.pace.line = .running) (follow : d.pace.force.mode = .follow)
    (late : ∀ last, d.pace.lastEdge = some last → last + 2 ≤ d.time) : d.pulse d.pace.force.polarity =
      let counted := { d with pace := { d.pace with lastEdge := some d.time, pulses := d.pace.pulses + 1 } }
      if d.pace.force.pulses ≤ d.pace.pulses + 1 then counted.nextInterval.due else counted := by
  have apart : d.tooSoon = false := by
    unfold Device.tooSoon
    cases edge : d.pace.lastEdge with
    | none => rfl
    | some last => simpa using late last edge
  exact if_pos ⟨running, follow, rfl, apart⟩

/-- Settles O24: the restart, the timer's expiry and the completing edge, which both come to a due. -/
theorem pitchIntervalAndDues : Obligations.PitchIntervalAndDues := by
  unfold Obligations.PitchIntervalAndDues
  intro force started during overrun
  refine ⟨fun tag s turn => ⟨fun running => ?_, fun stopped => ?_⟩, fun s since running fixed counts => ?_,
    fun s wait running follow late => ?_⟩
  · exact exec_answered (own := paceRestart) rfl rfl rfl turn (congrArg (·, accepted) (if_pos running))
  · exact exec_answered (own := paceRestart) rfl rfl rfl turn (congrArg (·, accepted) (if_neg (by simp [stopped])))
  · intro time d
    have runs : exec .pitchTimerExpiry s = .next (After s d.due) := by
      show run (fun d => expire d.pitchDeadline Device.pitchExpired d) s = _
      have deadline : s.dev.pitchDeadline = some (since + (s.dev.pace.force.period * 100 - s.dev.pace.pitch.base)) := by
        simp [Device.pitchDeadline, running, fixed, counts]
      rw [run_after, deadline, expire_some, Device.pitchExpired, Device.nextInterval_eq]
      simp [d, time, force, started, Device.written, fixed]
    rw [runs]
    obtain ⟨waiting, kept, lost⟩ := d.due_law
    refine ⟨fun h => ⟨d.pacedAttempt, by rw [waiting h], d.pacedAttempt_law⟩, fun h no => by rw [kept h no],
      fun h => by rw [lost h]; rfl⟩
  · intro edge time
    have runs : exec (.pressScrewPulse edge wait) s = .next (After s ({ s.dev with time := time }.pulse edge)) := rfl
    rw [runs, Device.pulse_counted (d := { s.dev with time := time }) running follow late]
    refine ⟨fun before => ?_, fun completes => ?_⟩
    · dsimp only
      rw [if_neg (Nat.not_le.mpr before)]
    · intro d
      have due : ({ s.dev with time := time, pace := { s.dev.pace with
          lastEdge := some time, pulses := s.dev.pace.pulses + 1 } } : Device).nextInterval = d := by
        rw [Device.nextInterval_eq]
        simp [d, force, started, Device.written, follow]
      dsimp only
      rw [if_pos completes, due]
      obtain ⟨waiting, kept, lost⟩ := d.due_law
      refine ⟨fun h => ⟨d.pacedAttempt, by rw [waiting h], d.pacedAttempt_law⟩, fun h no => by rw [kept h no],
        fun h => by rw [lost h]; rfl⟩

end Sys2Proof.Machine
end


section
/-! SUPPORT. The shift and its exit reconciliation against what the statements write out: `Delivered`, `ToReturn`,
`LaneOrSpill` and their like. -/

namespace Sys2Proof.Machine

/-- The tunnel moves on as written out (R7, R144). -/
theorem Device.advance_eq (d : Device) : d.advance = Delivered d := rfl

/-- An empty rod is returned as written out (R14, R163). -/
theorem Device.returnRod_eq (m : Move) (e : Device) : e.returnRod (moveContext m.number) = ToReturn m e := rfl

/-- A reservation is released as written out (R11). -/
theorem Device.releaseReservation_eq (m : Move) (e : Device) : e.releaseReservation m.reservation = Released m e := by
  unfold Device.releaseReservation Released
  cases m.reservation <;> rfl

/-- A record without a reservation is discharged as written out (R11, R15). -/
theorem Device.dischargeFree_eq (disp : Disposition) (l : Nat) (r : Rod) (e : Device) :
    e.dischargeFree disp l r = LaneOrSpill disp l r e := rfl

/-- A rod that no record stands for is discharged as written out (R15). -/
theorem Device.dischargeUntracked_eq (e : Device) : e.dischargeUntracked = NewUntracked e := rfl

/-- A rod more in the inventory count (R17). -/
theorem Device.inventoryAdd_eq (n : Nat) (e : Device) : e.inventoryAdd n = Counted n e := rfl

/-- A rod fewer in the inventory count is 2³² − 1 more, as the count wraps (R17, log entry 37). -/
theorem Device.inventorySub_eq (e : Device) : e.inventorySub 1 = Counted 4294967295 e := by
  have wraps : e.track.inventory + size32 - 1 % size32 = e.track.inventory + 4294967295 := by
    simp only [size32]
    omega
  rw [Device.inventorySub, wraps]
  rfl

section Reconcile
variable {m : Move} {r : Rod} {e : Device} {c : Nat}

/-- A LOADED exit whose rod is seen with its strands, with a reservation (R11). -/
theorem reconcile_reserved {l : Nat} {seen : Option Sighting} (now : e.clock = c) (reserved : m.reservation = some l)
    (strands : seen.getD .strands = .strands) : e.reconcile (m.order seen) (.loaded r) =
      Joined 1 l { r with exit := some ⟨c, m.disposition.getD (dispositionOf r), .lane l⟩ } e := by
  subst now
  simp only [Device.reconcile, Device.reconcileLoaded, Move.order, reserved, strands]
  rfl

/-- A LOADED exit whose rod is seen with its strands, without a reservation (R11). -/
theorem reconcile_unreserved {seen : Option Sighting} (free : m.reservation = none)
    (strands : seen.getD .strands = .strands) : e.reconcile (m.order seen) (.loaded r) =
      LaneOrSpill (m.disposition.getD (dispositionOf r)) (e.laneFor (m.disposition.getD (dispositionOf r)) r) r e := by
  simp only [Device.reconcile, Device.reconcileLoaded, Move.order, free, strands, Device.dischargeFree_eq]

/-- A LOADED exit whose rod is seen bare (R11). -/
theorem reconcile_bare (now : e.clock = c) : e.reconcile (m.order (some .bare)) (.loaded r) =
    Mismatched m r.id (Released m (ToReturn m
      (Closed .lost { r with exit := some ⟨c, m.disposition.getD (dispositionOf r), .returned⟩ } e))) := by
  subst now
  rw [← Device.returnRod_eq, ← Device.releaseReservation_eq]
  rfl

/-- A LOADED exit where no rod is seen (R11). -/
theorem reconcile_missing (now : e.clock = c) : e.reconcile (m.order (some .noRod)) (.loaded r) =
    Counted 4294967295 (Mismatched m r.id (Released m
      (Closed .lost { r with exit := some ⟨c, m.disposition.getD (dispositionOf r), .none⟩ } e))) := by
  subst now
  rw [← Device.releaseReservation_eq, ← Device.inventorySub_eq]
  rfl

/-- An EMPTY exit where no rod is seen (R12). -/
theorem reconcileEmpty_missing : e.reconcile (m.order (some .noRod)) .empty = Mismatched m 0 (Counted 4294967295 e) := by
  rw [← Device.inventorySub_eq]
  rfl

/-- An EMPTY exit whose rod is seen bare, or not looked for (R12). -/
theorem reconcileEmpty_bare {seen : Option Sighting} (bare : seen.getD .bare = .bare) :
    e.reconcile (m.order seen) .empty = ToReturn m e := by
  simp only [Device.reconcile, Device.reconcileEmpty, Move.order, bare, Device.returnRod_eq]

/-- An EMPTY exit whose rod is seen with strands (R12). -/
theorem reconcileEmpty_strands : e.reconcile (m.order (some .strands)) .empty = Mismatched m 0 (NewUntracked e) := by
  rw [← Device.dischargeUntracked_eq]
  rfl

/-- A GAP exit whose rod is seen bare (R13). -/
theorem reconcileGap_bare : e.reconcile (m.order (some .bare)) .gap =
    Mismatched m 0 (Counted 1 (ToReturn m e)) := by
  rw [← Device.returnRod_eq, ← Device.inventoryAdd_eq]
  rfl

/-- A GAP exit whose rod is seen with strands (R13). -/
theorem reconcileGap_strands :
    e.reconcile (m.order (some .strands)) .gap = Mismatched m 0 (Counted 1 (NewUntracked e)) := by
  rw [← Device.dischargeUntracked_eq, ← Device.inventoryAdd_eq]
  rfl

/-- A GAP or UNKNOWN exit where no rod is seen, or looked for (R13, R14). -/
theorem reconcile_nothing {stood : Content} {seen : Option Sighting} (nothing : stood = .gap ∨ stood = .unknown)
    (missing : seen.getD .noRod = .noRod) : e.reconcile (m.order seen) stood = e := by
  rcases nothing with rfl | rfl
  · simp only [Device.reconcile, Device.reconcileGap, Move.order, missing]
  · simp only [Device.reconcile, Device.reconcileUnknown, Move.order, missing]

/-- An UNKNOWN exit whose rod is seen bare (R14). -/
theorem reconcileUnknown_bare : e.reconcile (m.order (some .bare)) .unknown = ToReturn m e := by
  rw [← Device.returnRod_eq]
  rfl

/-- An UNKNOWN exit whose rod is seen with strands (R14). -/
theorem reconcileUnknown_strands : e.reconcile (m.order (some .strands)) .unknown = NewUntracked e := by
  rw [← Device.dischargeUntracked_eq]
  rfl

end Reconcile

/-- The steps of a shift after the tunnel has moved on: the positions and the chain hold stay, and no message is taken
from the mail. -/
structure Rolls (d e : Device) : Prop where
  positions : e.track.positions = d.track.positions
  hold : e.spread.hold = d.spread.hold
  mail : d.mail ⊆ e.mail

namespace Rolls

theorem trans {d e f : Device} (first : Rolls d e) (second : Rolls e f) : Rolls d f :=
  ⟨second.positions.trans first.positions, second.hold.trans first.hold, List.Subset.trans first.mail second.mail⟩

/-- A step that leaves the spreader unit, the positions and the mail alone. -/
theorem of_still {d e : Device} (positions : e.track.positions = d.track.positions) (spread : e.spread = d.spread)
    (mail : e.mail = d.mail) : Rolls d e := ⟨positions, by rw [spread], by rw [mail]; exact List.Subset.refl _⟩

theorem post (x : Mail) (d : Device) : Rolls d (d.post x) := ⟨rfl, rfl, List.subset_append_left _ _⟩

theorem fill (d : Device) : Rolls d d.fill := by
  refine ⟨by simp, ?_, by simp⟩
  obtain h | ⟨-, -, -, ⟨i, -, -, -, h⟩ | ⟨-, -, h⟩⟩ := d.fill_cases <;> rw [h] <;> rfl

theorem returnRod (c : Context) (d : Device) : Rolls d (d.returnRod c) := by
  obtain ⟨-, -, h⟩ | ⟨-, h⟩ := d.returnRod_cases c <;> rw [h]
  · exact trans (e := { d with acc := { d.acc with returnCount := d.acc.returnCount + 1 } }) (of_still rfl rfl rfl) (fill _)
  · exact trans (e := d.spillRod) (of_still rfl rfl rfl) (post _ _)

theorem dischargeFree (disp : Disposition) (l : Nat) (r : Rod) (d : Device) : Rolls d (d.dischargeFree disp l r) := by
  refine of_still ?_ (by simp) (by simp)
  unfold Device.dischargeFree
  split <;> simp

theorem dischargeUntracked (d : Device) : Rolls d d.dischargeUntracked :=
  trans (e := d.assignId) (of_still rfl rfl rfl) (dischargeFree _ _ _ _)

theorem inventorySub (n : Nat) (d : Device) : Rolls d (d.inventorySub n) := by
  rw [Device.inventorySub_only]
  exact of_still rfl rfl rfl

theorem inventoryAdd (n : Nat) (d : Device) : Rolls d (d.inventoryAdd n) := by
  rw [Device.inventoryAdd_only]
  exact of_still rfl rfl rfl

theorem closeRod (outcome : CloseOutcome) (r : Rod) (d : Device) : Rolls d (d.closeRod outcome r) :=
  of_still (by simp [Device.closeRod]) (by simp [Device.closeRod]) (by simp [Device.closeRod])

theorem releaseReservation (l : Option Nat) (d : Device) : Rolls d (d.releaseReservation l) :=
  of_still (by simp) (by simp) (by simp)

theorem raise (k : FaultKind) (c : Context) (d : Device) : Rolls d (d.raise k c) := post _ d

/-- The reconciliation of any exit content. -/
theorem reconcile (o : ShiftOrder) (c : Content) (d : Device) : Rolls d (d.reconcile o c) := by
  cases c with
  | loaded r =>
    simp only [Device.reconcile, Device.reconcileLoaded]
    split
    · split
      · exact of_still rfl rfl rfl
      · exact dischargeFree _ _ _ d
    · exact (closeRod _ _ d).trans ((returnRod _ _).trans ((releaseReservation _ _).trans (raise _ _ _)))
    · exact (closeRod _ _ d).trans ((releaseReservation _ _).trans ((raise _ _ _).trans (inventorySub _ _)))
  | empty =>
    simp only [Device.reconcile, Device.reconcileEmpty]
    split
    · exact returnRod _ d
    · exact (dischargeUntracked d).trans (raise _ _ _)
    · exact (inventorySub _ d).trans (raise _ _ _)
  | gap =>
    simp only [Device.reconcile, Device.reconcileGap]
    split
    · exact of_still rfl rfl rfl
    · exact (returnRod _ d).trans ((inventoryAdd _ _).trans (raise _ _ _))
    · exact (dischargeUntracked d).trans ((inventoryAdd _ _).trans (raise _ _ _))
  | unknown =>
    simp only [Device.reconcile, Device.reconcileUnknown]
    split
    · exact of_still rfl rfl rfl
    · exact returnRod _ d
    · exact dischargeUntracked d

theorem accEnd (freed : Bool) (d : Device) : Rolls d (d.accEnd freed) := by
  refine ⟨by simp, by simp, ?_⟩
  obtain ⟨e, grant, h⟩ | ⟨-, h⟩ := d.accEnd_cases freed <;> rw [h]
  · obtain ⟨-, -, -, -, -, -, -, -, -, -, -, -, mail⟩ := Device.grant_frame grant
    simp [mail]
  · cases freed <;> simp

theorem establish (d : Device) : Rolls d d.establish := of_still (by simp) (by simp) (by simp)

/-- All of a shift after the tunnel has moved on. -/
theorem shift (o : ShiftOrder) (d : Device) : Rolls d.advance (d.shift o) :=
  (reconcile o d.exitContent d.advance).trans ((accEnd (releases o d.exitContent) _).trans (establish _))

end Rolls

/-- The tunnel has shifted, with the chain hold clear (R7, R144). -/
theorem Device.shift_shifted (o : ShiftOrder) (d : Device) : Shifted d (d.shift o) := by
  have clear : d.advance.spread.hold = false := by
    unfold Device.advance
    dsimp only
    rw [(Rolls.fill _).hold]
    split <;> rfl
  obtain ⟨positions, hold, -⟩ := Rolls.shift o d
  exact ⟨by rw [positions]; simp, hold.trans clear⟩

/-- A shift order is carried out and reported, the chain hold being clear already (R78, log entry 12). -/
theorem Device.shiftAndReport_eq (o : ShiftOrder) (late : Bool) (d : Device) : d.shiftAndReport o late =
    Device.post (.shiftDone late) (Device.establish (Device.accEnd (releases o d.exitContent)
      ((Delivered d).reconcile o d.exitContent))) := by
  have clear : (d.shift o).clearHold = d.shift o := if_neg (by simp [(d.shift_shifted o).2])
  rw [Device.shiftAndReport, clear]
  rfl

/-- A reported shift has shifted, keeps the pace, and hands on what waited with the report behind it. -/
theorem Device.shiftAndReport_keeps (o : ShiftOrder) (late : Bool) (d : Device) :
    Shifted d (d.shiftAndReport o late) ∧ d.mail ⊆ (d.shiftAndReport o late).mail
      ∧ Mail.shiftDone late ∈ (d.shiftAndReport o late).mail := by
  have shifted := d.shift_shifted o
  have clear : (d.shift o).clearHold = d.shift o := if_neg (by simp [shifted.2])
  have mail : d.mail ⊆ (d.shift o).mail := by
    have := (Rolls.shift o d).mail
    simpa using this
  rw [Device.shiftAndReport, clear]
  exact ⟨shifted, List.Subset.trans mail (List.subset_append_left _ _), by simp⟩

end Sys2Proof.Machine
end


section
/-! SUPPORT. Move-done messages (R78 to R86), by the pacer's state and the number they carry. -/

namespace Sys2Proof.Machine

/-- The part that a step leaves, but for the link: the one its event left. -/
theorem after_only (s : State) (d : Device) : (After s d).dev = { d with link := (After s d).dev.link } :=
  d.pump_link_only

/-- A shift is one of the track and the spreader unit alone. -/
theorem Shifted.congr {d d' e e' : Device} (shifted : Shifted d e) (track : d'.track = d.track)
    (spread : d'.spread = d.spread) (tables : d'.tables = d.tables) (track' : e'.track = e.track)
    (spread' : e'.spread = e.spread) : Shifted d' e' := by
  unfold Shifted at *
  rw [track, spread, tables, track', spread']
  exact shifted

/-- A move-done message that carries the number of the move in flight ends it with its shift (R78). -/
theorem Device.moveDone_moving {d : Device} {m : Move} (seen : Sighting) (moving : d.pace.pacer = .moving)
    (flies : d.pace.inFlight = some m) :
    d.moveDone m.number seen = d.endMove.shiftAndReport (m.order (some seen)) false := by
  simp [Device.moveDone, moving, flies]

/-- A move-done message that carries the number of the unresolved move ends it with a LINE_STATE notice (R85). -/
theorem Device.moveDone_unresolved {d : Device} {m : Move} (seen : Sighting) (unresolved : d.pace.pacer = .unresolved)
    (flies : d.pace.inFlight = some m) : d.moveDone m.number seen =
      (d.endMove.notifyLine .unresolvedLeave).shiftAndReport (m.order (some seen)) false := by
  simp [Device.moveDone, unresolved, flies]

/-- A part that holds the late window open no more, with CHAIN_LATE_DONE raised (R86). -/
def Device.lateClosed (n : Nat) (d : Device) : Device :=
  { d with
    pace := { d.pace with lateWindow := none }
    mail := d.mail ++ [.raise .chainLateDone { move := some n }] }

/-- A move-done message that carries the late window's number shifts late (R86). -/
theorem Device.moveDone_late {d : Device} {n : Nat} (seen : Sighting) (window : d.pace.lateWindow = some n)
    (still : d.pace.pacer = .idle ∨ d.pace.pacer = .waiting ∨ d.pace.pacer = .deferred) :
    d.moveDone n seen = (d.lateClosed n).shiftAndReport ((⟨n, none, none⟩ : Move).order (some seen)) true := by
  have late : d.moveDone n seen = d.lateDone n seen := by
    unfold Device.moveDone
    rcases still with h | h | h <;> simp [h]
  rw [late, Device.lateDone, if_pos window]
  rfl

/-- A move-done message that carries neither number is counted only (R80). -/
theorem Device.moveDone_ignored {d : Device} {n : Nat} (seen : Sighting)
    (foreign : ∀ m, d.pace.inFlight = some m → m.number ≠ n) (closed : d.pace.lateWindow ≠ some n) :
    d.moveDone n seen = d.bump .lateDones := by
  have late : d.lateDone n seen = d.bump .lateDones := if_neg closed
  unfold Device.moveDone
  rw [late]
  cases flies : d.pace.inFlight with
  | none => cases d.pace.pacer <;> rfl
  | some m =>
    have other : m.number ≠ n := foreign m flies
    cases d.pace.pacer <;> simp [other, Device.ignoreDone]

/-- What a reported shift leaves, beside the exit's reconciliation: the tunnel shifted from `d`, the pace of its start, and
the mail of its start with the report. -/
theorem reported_shift {d start : Device} (s : State) (o : ShiftOrder) (late : Bool) (track : start.track = d.track)
    (spread : start.spread = d.spread) (tables : start.tables = d.tables) :
    let t := After s (start.shiftAndReport o late)
    Shifted d t.dev ∧ t.dev.pace = start.pace ∧ start.mail ⊆ t.dev.mail ∧ Mail.shiftDone late ∈ t.dev.mail := by
  intro t
  obtain ⟨shifted, mail, report⟩ := start.shiftAndReport_keeps o late
  have pace := (Device.shiftAndReport_frame o late start).2.2.2.1
  have only : t.dev = _ := after_only s (start.shiftAndReport o late)
  rw [only]
  exact ⟨shifted.congr track.symm spread.symm tables.symm rfl rfl, pace, mail, report⟩

/-- Settles O25: the three messages that shift, by what they saw of each exit content, and the one that is counted. -/
theorem moveDoneShiftsTheTunnel : Obligations.MoveDoneShiftsTheTunnel := by
  intro number seen s d ended exits reconciled
  have law (m : Move) (late : Bool) (start : Device) (content : start.exitContent = d.exitContent)
      (clock : (Delivered start).clock = d.clock) (runs : exec (.moveDone number seen) s =
        .next (After s (start.shiftAndReport (m.order (some seen)) late))) : reconciled m late start := by
    have closes {c : Content} {freed : Bool} {e : Device} (stood : d.exitContent = c)
        (frees : releases (m.order (some seen)) c = freed)
        (reconciles : (Delivered start).reconcile (m.order (some seen)) c = e) : exec (.moveDone number seen) s =
          .next (After s (Device.post (.shiftDone late) (Device.establish (Device.accEnd freed e)))) := by
      rw [runs, Device.shiftAndReport_eq, content, stood, frees, reconciles]
    refine ⟨fun r loaded => ⟨fun l strands reserved => ?_, fun strands free => ?_, fun bare => ?_, fun missing => ?_⟩,
      fun empty => ⟨fun bare => ?_, fun strands => ?_, fun missing => ?_⟩,
      fun gap => ⟨fun bare => ?_, fun strands => ?_, fun missing => ?_⟩,
      fun unknown => ⟨fun bare => ?_, fun strands => ?_, fun missing => ?_⟩⟩
    · exact closes loaded (by simp [releases, Move.order, strands])
        (reconcile_reserved clock reserved (by rw [strands]; rfl))
    · exact closes loaded (by simp [releases, Move.order, strands]) (reconcile_unreserved free (by rw [strands]; rfl))
    · exact closes loaded (by simp [releases, Move.order, bare]) (by rw [bare]; exact reconcile_bare clock)
    · exact closes loaded (by simp [releases, Move.order, missing]) (by rw [missing]; exact reconcile_missing clock)
    · exact closes empty rfl (by rw [bare]; exact reconcileEmpty_bare rfl)
    · exact closes empty rfl (by rw [strands]; exact reconcileEmpty_strands)
    · exact closes empty rfl (by rw [missing]; exact reconcileEmpty_missing)
    · exact closes gap rfl (by rw [bare]; exact reconcileGap_bare)
    · exact closes gap rfl (by rw [strands]; exact reconcileGap_strands)
    · exact closes gap rfl (by rw [missing]; exact reconcile_nothing (by simp) rfl)
    · exact closes unknown rfl (by rw [bare]; exact reconcileUnknown_bare)
    · exact closes unknown rfl (by rw [strands]; exact reconcileUnknown_strands)
    · exact closes unknown rfl (by rw [missing]; exact reconcile_nothing (by simp) rfl)
  have clock (start : Device) (time : start.time = d.time) : (Delivered start).clock = d.clock := by
    rw [← Device.advance_eq]
    simp [Device.clock, Device.sec, time]
  have runs : exec (.moveDone number seen) s = .next (After s (d.moveDone number.toNat seen)) := rfl
  refine ⟨fun m flies same => ?_, fun window still => ?_, fun foreign closed => ?_⟩
  · have moved (moving : d.pace.pacer = .moving) : exec (.moveDone number seen) s =
        .next (After s (ended.shiftAndReport (m.order (some seen)) false)) := by
      rw [runs, ← same, Device.moveDone_moving seen moving flies]
      rfl
    have resolved (unresolved : d.pace.pacer = .unresolved) : exec (.moveDone number seen) s =
        .next (After s ((ended.notifyLine .unresolvedLeave).shiftAndReport (m.order (some seen)) false)) := by
      rw [runs, ← same, Device.moveDone_unresolved seen unresolved flies]
      rfl
    refine ⟨fun moving => law m false _ rfl (clock _ rfl) (moved moving), fun unresolved => law m false _
      (by simp [ended, Device.exitContent]) (clock _ (by simp [ended])) (resolved unresolved), fun either => ?_⟩
    rcases either with moving | unresolved
    · obtain ⟨shifted, pace, -, report⟩ := reported_shift (d := d) (start := ended) s (m.order (some seen)) false rfl rfl rfl
      exact ⟨_, moved moving, shifted, by rw [pace], by rw [pace], by rw [pace], by rw [pace], by rw [pace], report⟩
    · obtain ⟨shifted, pace, -, report⟩ := reported_shift (d := d) (start := ended.notifyLine .unresolvedLeave) s
        (m.order (some seen)) false (by simp [ended]) (by simp [ended]) (by simp [ended])
      rw [Device.notifyLine_pace] at pace
      exact ⟨_, resolved unresolved, shifted, by rw [pace], by rw [pace], by rw [pace], by rw [pace], by rw [pace], report⟩
  · have lateRuns := runs.trans (congrArg (fun e => Host.Outcome.next (After s e)) (Device.moveDone_late seen window still))
    obtain ⟨shifted, pace, mail, report⟩ := reported_shift (d := d) (start := d.lateClosed number.toNat) s
      ((⟨number.toNat, none, none⟩ : Move).order (some seen)) true rfl rfl rfl
    refine ⟨law ⟨number.toNat, none, none⟩ true _ rfl (clock _ rfl) lateRuns, _, lateRuns, shifted, by rw [pace]; rfl,
      by rw [pace]; rfl, mail (by simp [Device.lateClosed]), report⟩
  · rw [runs, Device.moveDone_ignored seen foreign closed]

end Sys2Proof.Machine
end


section
/-! SUPPORT. The exit rod of a reserved move, the move limit and MOVE_RESOLVE (R82 to R84). -/

namespace Sys2Proof.Machine

/-- A busy stripper leaves the end of an event its free-place report (R152, R156). -/
theorem Device.accEnd_busy {d : Device} (freed : Bool) (busy : d.acc.stripper ≠ .idle) :
    d.accEnd freed = if freed then d.post (.retry .freePlace) else d := by
  obtain ⟨e, grant, -⟩ | ⟨-, h⟩ := d.accEnd_cases freed
  · exact absurd (Device.grant_some grant).1 busy
  · exact h

/-- A count is not the one of another kind. -/
theorem Device.bump_other {c : Count} {k : Nat} (d : Device) (other : c.index ≠ k) :
    (d.bump c).counts.getD k 0 = d.counts.getD k 0 := by
  simp [List.getElem?_modify, other]

/-- A count risen by one, wherever it stood the same before. -/
theorem Device.bump_congr {d e : Device} {c : Count} {k : Nat} (same : e.counts.getD k 0 = d.counts.getD k 0)
    (index : c.index = k) (length : e.counts.length = d.counts.length) :
    (e.bump c).counts.getD k 0 = (d.bump c).counts.getD k 0 := by
  subst index
  simp only [List.getD_eq_getElem?_getD, Device.bump_counts, List.getElem?_modify_eq] at same ⊢
  by_cases small : c.index < d.counts.length
  · have small' : c.index < e.counts.length := length ▸ small
    simp_all
  · have : ¬c.index < e.counts.length := length ▸ small
    simp_all

/-- The test for establishment counts at most a notice that was dropped (R16). -/
theorem Device.establish_counts (d : Device) {k : Nat} (other : Count.noticesDropped.index ≠ k) :
    d.establish.counts.getD k 0 = d.counts.getD k 0 := by
  obtain h | ⟨-, -, h⟩ := d.establish_cases <;> rw [h]
  rw [Device.notifyLine]
  obtain ⟨-, n⟩ | ⟨-, n⟩ := Device.notify_cases _ _ <;> rw [n]
  exact Device.bump_other _ other

/-- The tunnel's move counts at most a gap (R7). -/
theorem delivered_counts (d : Device) {k : Nat} (other : Count.gapsEntered.index ≠ k) :
    (Delivered d).counts.getD k 0 = d.counts.getD k 0 ∧ (Delivered d).counts.length = d.counts.length := by
  rw [← Device.advance_eq]
  unfold Device.advance
  dsimp only
  rw [(Device.fill_frame _).2.2.2.2.2.2.2.2.2.2.1]
  split
  · exact ⟨Device.bump_other _ other, by simp⟩
  · exact ⟨rfl, rfl⟩

/-- The end of the event that reconciles a reserved exit rod, for a stripper that is busy. -/
theorem reserved_ends {d base : Device} {l : Nat} {r : Rod} (lanes : base.acc.lanes = d.acc.lanes)
    (busy : base.acc.stripper ≠ .idle) (exists_l : l < d.acc.lanes.length) :
    let e := (Joined 1 l r base).accEnd false |>.establish
    e.lane l = { d.lane l with records := (d.lane l).records ++ [r], reservations := (d.lane l).reservations - 1 }
      ∧ (∀ k, k ≠ l → e.lane k = d.lane k)
      ∧ ∀ k, Count.noticesDropped.index ≠ k → e.counts.getD k 0 = (base.bump (exitedCount l)).counts.getD k 0 := by
  intro e
  have still : (Joined 1 l r base).accEnd false = Joined 1 l r base := Device.accEnd_busy false busy
  have same (k : Nat) : base.lane k = d.lane k := by rw [Device.lane, lanes, Device.lane]
  have lane (k : Nat) : e.lane k = (base.modifyLane l (LaneRt.join true r)).lane k := by
    have acc (f : Device) : f.establish.acc = f.acc := by simp
    rw [Device.lane, acc, still]
    rfl
  refine ⟨?_, fun k other => ?_, fun k kept => ?_⟩
  · rw [lane, Device.lane_modifyLane, if_pos ⟨rfl, lanes ▸ exists_l⟩, same]
    rfl
  · rw [lane, Device.lane_modifyLane, if_neg fun h => other h.1, same]
  · rw [Device.establish_counts _ kept, still]
    rfl

/-- The transmitter leaves the lanes alone. -/
theorem after_lane (s : State) (d : Device) (k : Nat) : (After s d).dev.lane k = d.lane k := by
  rw [after_only]
  rfl

/-- The transmitter leaves the counts alone. -/
theorem after_counts (s : State) (d : Device) : (After s d).dev.counts = d.counts := by
  rw [after_only]

/-- A lane's count of rods exited (R192). -/
theorem exitedCount_index {l : Nat} (small : l < 4) : (exitedCount l).index = 12 + l := by
  interval_cases l <;> rfl

/-- Settles O26: the reconciliation of a reserved exit rod, seen through the ends of its event. -/
theorem exitRodJoinsReservedLane : Obligations.ExitRodJoinsReservedLane := by
  intro number l disp r s small four moving flies stood busy
  have clock : (Delivered s.dev.endMove).clock = s.dev.clock := by
    rw [← Device.advance_eq]
    simp [Device.clock, Device.sec, Device.endMove]
  have acc := s.dev.endMove.advance_acc
  rw [Device.advance_eq] at acc
  have runs : exec (.moveDone number .strands) s = .next (After s ((((Joined 1 l
      { r with exit := some ⟨s.dev.clock, disp, .lane l⟩ } (Delivered s.dev.endMove)).accEnd false).establish).post
        (.shiftDone false))) := by
    show Host.Outcome.next (After s (s.dev.moveDone number.toNat .strands)) = _
    rw [Device.moveDone_moving .strands moving flies, Device.shiftAndReport_eq,
      show s.dev.endMove.exitContent = .loaded r from stood, reconcile_reserved clock rfl rfl]
    rfl
  obtain ⟨joined, others, counted⟩ := reserved_ends (d := s.dev)
    (r := { r with exit := some ⟨s.dev.clock, disp, .lane l⟩ }) (base := Delivered s.dev.endMove) (l := l)
    (by rw [acc]; rfl) (by rw [acc]; exact busy) (four ▸ small)
  have gap : Count.gapsEntered.index ≠ 12 + l := by
    show 11 ≠ 12 + l
    omega
  have dropped : Count.noticesDropped.index ≠ 12 + l := by
    show 3 ≠ 12 + l
    omega
  obtain ⟨gaps, length⟩ := delivered_counts s.dev.endMove gap
  refine ⟨_, runs, ?_, fun k other => ?_, ?_⟩
  · rw [after_lane]
    exact joined
  · rw [after_lane]
    exact others k other
  · rw [after_counts]
    exact (counted (12 + l) dropped).trans (Device.bump_congr gaps (exitedCount_index small) length)

end Sys2Proof.Machine
end


section
/-! SUPPORT. The move limit and the two answers of MOVE_RESOLVE (R82 to R84). -/

namespace Sys2Proof.Machine

/-- The limit of a move in flight is reached (R82). -/
theorem Device.moveExpired_flying {d : Device} {m : Move} (flies : d.pace.inFlight = some m) : d.moveExpired =
    Device.notifyLine .unresolvedEnter { d with
      pace := { d.pace with pacer := .unresolved, timer := none }
      mail := d.mail ++ [.raise .chainStall { move := some m.number }] } := by
  simp only [Device.moveExpired, flies]
  rfl

/-- An exit that is not looked at raises no mismatch and leaves the inventory as it was (R9). -/
theorem reconcile_unseen (m : Move) (stood : Content) (e : Device) :
    (∀ c, Mail.raise .trackMismatch c ∈ (e.reconcile (m.order none) stood).mail → Mail.raise .trackMismatch c ∈ e.mail)
      ∧ (e.reconcile (m.order none) stood).track.established = e.track.established
      ∧ (e.reconcile (m.order none) stood).track.inventory = e.track.inventory := by
  have free (disp : Disposition) (l : Nat) (r : Rod) : (e.dischargeFree disp l r).track.established = e.track.established
      ∧ (e.dischargeFree disp l r).track.inventory = e.track.inventory := by
    unfold Device.dischargeFree
    split <;> simp
  have returned : (∀ c, Mail.raise .trackMismatch c ∈ (e.returnRod (moveContext m.number)).mail →
      Mail.raise .trackMismatch c ∈ e.mail)
      ∧ (e.returnRod (moveContext m.number)).track.established = e.track.established
      ∧ (e.returnRod (moveContext m.number)).track.inventory = e.track.inventory := by
    obtain ⟨-, -, h⟩ | ⟨-, h⟩ := e.returnRod_cases (moveContext m.number) <;> rw [h] <;> simp
  cases stood with
  | loaded r =>
    cases reserved : m.reservation with
    | some l =>
      rw [reconcile_reserved rfl reserved rfl]
      exact ⟨fun c => id, rfl, rfl⟩
    | none =>
      rw [reconcile_unreserved reserved rfl, ← Device.dischargeFree_eq]
      exact ⟨fun c => by simp, free _ _ _⟩
  | empty =>
    rw [reconcileEmpty_bare rfl, ← Device.returnRod_eq]
    exact returned
  | gap =>
    rw [reconcile_nothing (.inl rfl) rfl]
    exact ⟨fun c => id, rfl, rfl⟩
  | unknown =>
    rw [reconcile_nothing (.inr rfl) rfl]
    exact ⟨fun c => id, rfl, rfl⟩

/-- An exit that is not looked at releases no reservation (R9, R11). -/
theorem releases_unseen (m : Move) (stood : Content) : releases (m.order none) stood = false := by
  cases stood <;> simp [releases, Move.order]

/-- A shift without an observation raises no mismatch, and leaves an established inventory as it was (R9). -/
theorem shiftAndReport_unseen (m : Move) (late : Bool) (d : Device) :
    (∀ c, Mail.raise .trackMismatch c ∈ (d.shiftAndReport (m.order none) late).mail → Mail.raise .trackMismatch c ∈ d.mail)
      ∧ (d.track.established = true →
        (d.shiftAndReport (m.order none) late).track.inventory = d.track.inventory) := by
  obtain ⟨mail, established, inventory⟩ := reconcile_unseen m d.exitContent (Delivered d)
  rw [Device.shiftAndReport_eq, releases_unseen]
  generalize (Delivered d).reconcile (m.order none) d.exitContent = e at mail established inventory
  rw [← Device.advance_eq] at mail established inventory
  refine ⟨fun c h => ?_, fun held => ?_⟩
  · have : Mail.raise .trackMismatch c ∈ (e.accEnd false).mail := by simpa using h
    have : Mail.raise .trackMismatch c ∈ e.mail := by
      obtain ⟨f, grant, same⟩ | ⟨-, same⟩ := e.accEnd_cases false <;> rw [same] at this
      · obtain ⟨-, -, -, -, -, -, -, -, -, -, -, -, kept⟩ := Device.grant_frame grant
        simpa [kept] using this
      · exact this
    simpa using mail c this
  · have still : (e.accEnd false).establish = e.accEnd false := by
      refine if_neg fun h => ?_
      have := h.1
      simp_all
    rw [still]
    simp [inventory]

/-- An unresolved move that is resolved as not moved leaves its state with the notice (R84). -/
def Device.unmoved (m : Move) (d : Device) : Device :=
  Device.notifyLine .unresolvedLeave { Released m d with pace := { d.pace with
    inFlight := none
    timer := none
    lateWindow := some m.number
    pacer := if d.pace.line = .running then .waiting else .idle
    reason := none } }

/-- The chain hold is cleared then (R84, R138). -/
def Device.unheld (m : Move) (d : Device) : Device :=
  if d.spread.hold = true then Device.fill { d.unmoved m with spread := { d.spread with hold := false } } else d.unmoved m

theorem Device.released_only (m : Move) (d : Device) : Released m d = { d with acc := (Released m d).acc } := by
  unfold Released
  split <;> rfl

theorem Device.unmoved_spread (m : Move) (d : Device) : (d.unmoved m).spread = d.spread := by
  rw [Device.unmoved, Device.notifyLine_spread, Device.released_only]

theorem Device.unheld_eq (m : Move) (d : Device) : d.unheld m = (d.unmoved m).clearHold := by
  rw [Device.unheld, Device.clearHold, Device.unmoved_spread]

/-- The pacer then proceeds (R84). -/
theorem Device.notMoved_eq (m : Move) (d : Device) : d.notMoved m = (d.unheld m).proceed := by
  rw [Device.unheld_eq, Device.notMoved, Device.releaseReservation_eq, Device.unmoved, Device.released_only]
  rfl

/-- The pace is as the resolution left it. -/
theorem Device.unheld_pace (m : Move) (d : Device) : (d.unheld m).pace = { d.pace with
    inFlight := none
    timer := none
    lateWindow := some m.number
    pacer := if d.pace.line = .running then .waiting else .idle
    reason := none } := by
  rw [Device.unheld_eq]
  simp [Device.unmoved]

/-- The pacer rests already when the resolution proceeds. -/
theorem Device.unheld_rest (m : Move) (d : Device) : (d.unheld m).rest = d.unheld m := by
  have pace := d.unheld_pace m
  have : { (d.unheld m).pace with
      pacer := if (d.unheld m).pace.line = .running then .waiting else .idle, reason := none } = (d.unheld m).pace := by
    rw [pace]
  rw [Device.rest, this]

/-- What a resolution as not moved keeps: the track, and every lane but for its reservation (R84). -/
theorem Device.unheld_keeps (m : Move) (d : Device) :
    (d.unheld m).track = d.track ∧ (d.unheld m).spread.hold = false
      ∧ (∀ l, m.reservation = some l → ((d.unheld m).lane l).reservations = (d.lane l).reservations - 1)
      ∧ ∀ l, m.reservation ≠ some l → (d.unheld m).lane l = d.lane l := by
  have track : (d.unheld m).track = d.track := by
    rw [Device.unheld_eq, Device.unmoved, Device.released_only]
    simp
  have hold : (d.unheld m).spread.hold = false := by
    rw [Device.unheld_eq]
    obtain ⟨h, same⟩ | ⟨-, same⟩ := (d.unmoved m).clearHold_cases <;> rw [same]
    · exact h
    · exact (Rolls.fill _).hold
  have lane (l : Nat) : (d.unheld m).lane l = (Released m d).lane l := by
    have unmoved : (d.unmoved m).lane l = (Released m d).lane l := by simp [Device.lane, Device.unmoved]
    rw [Device.unheld_eq, ← unmoved]
    obtain ⟨-, same⟩ | ⟨-, same⟩ := (d.unmoved m).clearHold_cases <;> rw [same]
    exact Device.lane_fill l _
  refine ⟨track, hold, fun l reserved => ?_, fun l other => ?_⟩
  · rw [lane, ← Device.releaseReservation_eq, reserved]
    show ((d.modifyLane l LaneRt.release).lane l).reservations = _
    rw [Device.lane_modifyLane]
    split
    · rfl
    · rename_i absent
      rw [Device.lane_eq_default (by simpa using absent)]
      rfl
  · rw [lane, ← Device.releaseReservation_eq]
    cases reserved : m.reservation with
    | none => rfl
    | some k =>
      show (d.modifyLane k LaneRt.release).lane l = _
      rw [Device.lane_modifyLane, if_neg]
      rintro ⟨rfl, -⟩
      exact other reserved

/-- A part that a resolution leaves with its chain hold clear makes no further attempt without a due (R84). -/
theorem moveResolveNotMoved_accepted {d : Device} {m : Move} (unresolved : d.pace.pacer = .unresolved)
    (flies : d.pace.inFlight = some m) : moveResolveNotMoved 1 d = (d.notMoved m, accepted) := by
  simp [moveResolveNotMoved, unresolved, flies]

theorem Device.notMoved_rests {m : Move} {d : Device} (none_due : d.pace.due = false) : d.notMoved m = d.unheld m := by
  rw [Device.notMoved_eq, Device.proceed, Device.unheld_rest, if_neg]
  rw [Device.unheld_pace]
  simp [none_due]

theorem Device.notMoved_attempts {m : Move} {d : Device} (due : d.pace.due = true) : d.notMoved m =
    Device.pacedAttempt { d.unheld m with pace := { (d.unheld m).pace with due := false } } := by
  rw [Device.notMoved_eq, Device.proceed, Device.unheld_rest, if_pos]
  rw [Device.unheld_pace]
  exact due

/-- Settles O27: the limit, then each resolution with its refusals. -/
theorem moveLimitAndResolution : Obligations.MoveLimitAndResolution := by
  refine ⟨fun s m limit moving flies counts => ?_, fun tag s turn => ?_, fun tag outcome s turn => ?_⟩
  · show run (fun d => expire d.moveDeadline Device.moveExpired d) s = _
    have deadline : s.dev.moveDeadline = some (limit.start + limit.limit) := by
      simp [Device.moveDeadline, moving, counts, Timer.deadline]
    rw [run_after, deadline, expire_some,
      Device.moveExpired_flying (d := { s.dev with time := max s.dev.time (limit.start + limit.limit) }) flies]
  · intro d i
    have answers {e : Device} {a : Answer} : moveResolveMoved d = (e, a) → exec i s = .next (Served i s e a) :=
      exec_answered rfl rfl rfl turn
    refine ⟨fun other => answers (if_neg other), fun m unresolved flies => ?_⟩
    intro base ends
    have resolves : exec i s = .next (Served i s
        ((d.endMove.notifyLine .unresolvedLeave).shiftAndReport (m.order none) false) accepted) :=
      answers (by simp [moveResolveMoved, unresolved, flies])
    let left := d.endMove.notifyLine .unresolvedLeave
    have content : left.exitContent = d.exitContent := by simp [left, Device.exitContent, Device.endMove]
    have clock : (Delivered left).clock = d.clock := by
      rw [← Device.advance_eq]
      simp [left, Device.clock, Device.sec, Device.endMove]
    have closes {c : Content} {e : Device} (stood : d.exitContent = c)
        (reconciles : (Delivered left).reconcile (m.order none) c = e) : ends e := by
      show exec i s = _
      rw [resolves, Device.shiftAndReport_eq, releases_unseen, content, stood, reconciles]
    refine ⟨fun r l loaded reserved => closes loaded (reconcile_reserved clock reserved rfl),
      fun r loaded free => closes loaded (reconcile_unreserved free rfl),
      fun empty => closes empty (reconcileEmpty_bare rfl),
      fun nothing => closes rfl (reconcile_nothing nothing rfl), _, resolves, ?_⟩
    obtain ⟨shifted, mail, report⟩ := left.shiftAndReport_keeps (m.order none) false
    obtain ⟨mismatch, inventory⟩ := shiftAndReport_unseen m false left
    have pace : (left.shiftAndReport (m.order none) false).pace = d.endMove.pace := by
      rw [(Device.shiftAndReport_frame _ _ _).2.2.2.1]
      simp [left]
    have track : left.track = d.track := by simp [left, Device.endMove]
    generalize left.shiftAndReport (m.order none) false = x at shifted mail report mismatch inventory pace
    refine ⟨?_, ?_, ?_, ?_, ?_, ?_, ?_, Served.replied i s _ accepted⟩ <;>
      rw [served_only]
    · exact shifted.congr track.symm (by simp [left, Device.endMove]) (by simp [left, Device.endMove]) rfl rfl
    · show x.pace.inFlight = none
      rw [pace]
      rfl
    · show x.pace.line = d.pace.line
      rw [pace]
      rfl
    · show x.pace.lateWindow = d.pace.lateWindow
      rw [pace]
      rfl
    · exact report
    · intro c raised
      simpa [left, Device.endMove] using mismatch c raised
    · intro established
      exact (inventory (by rw [track]; exact established)).trans (by rw [track])
  · intro d i
    have answers {e : Device} {a : Answer} (named : outcome ≠ 0) :
        moveResolveNotMoved outcome d = (e, a) → exec i s = .next (Served i s e a) :=
      exec_answered rfl (by simpa [i, WellFormed] using named) rfl turn
    refine ⟨fun beyond => ?_, fun one other => ?_, fun m one unresolved flies => ?_⟩
    · have foreign : outcome ≠ 1 := by rintro rfl; simp at beyond
      have named : outcome ≠ 0 := by rintro rfl; simp at beyond
      exact answers named (if_neg foreign)
    · subst one
      exact answers (by decide) (by simp [moveResolveNotMoved, other])
    · subst one
      intro left cleared
      have resolves := answers (by decide) (moveResolveNotMoved_accepted unresolved flies)
      obtain ⟨track, hold, reservations, lanes⟩ := d.unheld_keeps m
      have pace := d.unheld_pace m
      refine ⟨fun rests => ⟨by rw [resolves, Device.notMoved_rests rests]; rfl, track, congrArg Pace.inFlight pace,
        congrArg Pace.lateWindow pace, congrArg Pace.pacer pace, reservations, lanes, hold⟩,
        fun due => ⟨Device.pacedAttempt { d.unheld m with pace := { (d.unheld m).pace with due := false } },
          by rw [resolves, Device.notMoved_attempts due], Device.pacedAttempt_law _⟩⟩

end Sys2Proof.Machine
end


section
/-! SUPPORT. The units that take a report of a shift: the adoptions, the gauge and the ADVANCE trigger (R92, R96, R167). -/

namespace Sys2Proof.Machine

/-- A zone whose governing position holds a rod of another profile adopts it (R92). -/
theorem Device.zone_adopts {d : Device} {z p : Nat} (twelve : d.climate.zones.length = 12)
    (fits : d.tables.zones.length ≤ 12) (governs : d.governing z = some p) (other : p ≠ (d.zone z).profile) :
    d.adoptions.zone z = { d.zone z with
      profile := p, trim := 0, effTemp := (d.profile p).temp.getD z 0
      effHum := min 1000 ((d.profile p).hum.getD z 0), settleFrom := some d.sec } := by
  have inside : z < d.tables.zones.length := by
    by_contra outside
    have : d.tables.zones[z]? = none := List.getElem?_eq_none (Nat.le_of_not_lt outside)
    simp [Device.governing, this] at governs
  rw [Device.zone_adoptions, if_pos ⟨inside, by omega⟩, Device.examined, governs]
  exact if_neg (Ne.symm other)

/-- A zone without a rod of another profile at its governing position stays as it was (R92). -/
theorem Device.zone_keeps {d : Device} {z : Nat}
    (rests : d.governing z = none ∨ d.governing z = some (d.zone z).profile) : d.adoptions.zone z = d.zone z := by
  rw [Device.zone_adoptions]
  split
  · rcases rests with none | same
    · rw [Device.examined, none]
    · rw [Device.examined, same]
      exact if_pos rfl
  · rfl

/-! The gauge and the trigger. -/

theorem Device.examineGauge_measures {d : Device} {r : Rod} (stands : d.gaugeRod = some r) (fresh : r.flags.gauged = false)
    (free : d.gauge.inFlight = none) : d.examineGauge = d.measure r := by
  simp [Device.examineGauge, stands, fresh, free]

theorem Device.examineGauge_skips {d : Device} {r : Rod} (stands : d.gaugeRod = some r) (fresh : r.flags.gauged = false)
    (busy : d.gauge.inFlight.isSome) : d.examineGauge = d.bump .gaugeSkipped := by
  simp [Device.examineGauge, stands, fresh, busy]

theorem Device.examineGauge_passes {d : Device} (done : ∀ r, d.gaugeRod = some r → r.flags.gauged = true) :
    d.examineGauge = d := by
  unfold Device.examineGauge
  split
  · rfl
  · rename_i r stands
    exact if_pos (done r stands)

/-- The trigger counts at most a round that could not start (R96). -/
theorem Device.advanceTrigger_counts (d : Device) {k : Nat} (other : Count.sampleOverruns.index ≠ k) :
    d.advanceTrigger.counts.getD k 0 = d.counts.getD k 0 := by
  unfold Device.advanceTrigger Device.trigger
  split
  · split
    · exact Device.bump_other d other
    · rfl
  · rfl

/-- The trigger's messages follow those that wait on the bus (R96). -/
theorem Device.advanceTrigger_bus (d : Device) : d.bus ⊆ d.advanceTrigger.bus := by
  unfold Device.advanceTrigger Device.trigger
  split
  · split
    · exact List.Subset.refl _
    · exact List.subset_append_left _ _
  · exact List.Subset.refl _

/-- The gauge counts at most a rod that was skipped (R167). -/
theorem Device.examineGauge_counts (d : Device) {k : Nat} (other : Count.gaugeSkipped.index ≠ k) :
    d.examineGauge.counts.getD k 0 = d.counts.getD k 0 ∧ d.examineGauge.counts.length = d.counts.length := by
  unfold Device.examineGauge
  repeat' split
  · exact ⟨rfl, rfl⟩
  · exact ⟨rfl, rfl⟩
  · exact ⟨Device.bump_other d other, by simp⟩
  · exact ⟨rfl, rfl⟩

/-! The three units together. -/

/-- The report of a shift at the zone and gauge units (R92, R96, R167). -/
def Device.unitsTake (d : Device) : Device := d.adoptions.examineGauge.advanceTrigger

section Units
variable {d : Device}

theorem Device.zone_unitsTake (d : Device) (z : Nat) : d.unitsTake.zone z = d.adoptions.zone z := by
  simp [Device.unitsTake, Device.zone]

theorem Device.gaugeRod_adoptions (d : Device) : d.adoptions.gaugeRod = d.gaugeRod := by
  rw [Device.adoptions_only]
  rfl

theorem Device.unitsTake_measures {r : Rod} (stands : d.gaugeRod = some r) (fresh : r.flags.gauged = false)
    (free : d.gauge.inFlight = none) : d.unitsTake.gauge.inFlight =
      some ⟨(d.gauge.number + 1) % 256, r.id, r.born, ⟨d.time, d.tables.gauge.limit * 1000⟩⟩
        ∧ BusMessage.measure ((d.gauge.number + 1) % 256) r.id ∈ d.unitsTake.bus := by
  have measures : d.adoptions.examineGauge = d.adoptions.measure r :=
    Device.examineGauge_measures (d.gaugeRod_adoptions.trans stands) fresh (by simpa using free)
  refine ⟨?_, Device.advanceTrigger_bus _ ?_⟩
  · rw [Device.unitsTake, (Device.advanceTrigger_frame _).2.2.2.2.2.2.2.2.1, measures, Device.adoptions_only]
    rfl
  · rw [measures, Device.adoptions_only]
    exact List.mem_append_right _ (List.mem_singleton_self _)

theorem Device.unitsTake_skips {r : Rod} (stands : d.gaugeRod = some r) (fresh : r.flags.gauged = false)
    (busy : d.gauge.inFlight.isSome) : d.unitsTake.gauge = d.gauge
      ∧ d.unitsTake.counts.getD Count.gaugeSkipped.index 0 = (d.bump .gaugeSkipped).counts.getD Count.gaugeSkipped.index 0 := by
  have skips : d.adoptions.examineGauge = d.adoptions.bump .gaugeSkipped :=
    Device.examineGauge_skips (d.gaugeRod_adoptions.trans stands) fresh (by simpa using busy)
  refine ⟨?_, ?_⟩
  · simp [Device.unitsTake, skips]
  · rw [Device.unitsTake, Device.advanceTrigger_counts _ (by decide), skips, Device.adoptions_only]
    rfl

theorem Device.unitsTake_passes (done : ∀ r, d.gaugeRod = some r → r.flags.gauged = true) :
    d.unitsTake.gauge = d.gauge := by
  have passes : d.adoptions.examineGauge = d.adoptions :=
    Device.examineGauge_passes (d.gaugeRod_adoptions ▸ done)
  simp [Device.unitsTake, passes]

/-- What the trigger meets: the sampling settings, the round and the periodic timer as they were. -/
theorem Device.gauged_climate (d : Device) : d.adoptions.examineGauge.tables = d.tables
    ∧ d.adoptions.examineGauge.climate.round = d.climate.round
    ∧ d.adoptions.examineGauge.climate.exchange = d.climate.exchange
    ∧ d.adoptions.examineGauge.climate.periodicFrom = d.climate.periodicFrom
    ∧ d.adoptions.examineGauge.time = d.time := by
  obtain ⟨time, tables, -, -, -, climate, -⟩ := d.adoptions.examineGauge_frame
  rw [tables, climate, time, Device.adoptions_only]
  exact ⟨rfl, rfl, rfl, rfl, rfl⟩

theorem Device.unitsTake_starts (on : d.tables.sampling.advanceOn = true) (idle : d.climate.round = none) :
    d.unitsTake.climate.round = some ⟨.advance, d.clock, 0, .read, (d.climate.exchange + 1) % 256, ⟨d.time, 250⟩, []⟩
      ∧ d.unitsTake.climate.periodicFrom = d.time := by
  obtain ⟨tables, round, exchange, -, time⟩ := d.gauged_climate
  have starts : d.unitsTake = d.adoptions.examineGauge.startRound .advance := by
    simp [Device.unitsTake, Device.advanceTrigger, Device.trigger, tables, on, round, idle]
  rw [starts]
  simp [Device.startRound, Device.sendRead, Device.nextExchange, Device.clock, Device.sec, exchange, time, Device.timer,
    replyLimit]

theorem Device.unitsTake_overruns (on : d.tables.sampling.advanceOn = true) (busy : d.climate.round.isSome) :
    d.unitsTake.climate.round = d.climate.round ∧ d.unitsTake.climate.periodicFrom = d.climate.periodicFrom
      ∧ d.unitsTake.counts.getD Count.sampleOverruns.index 0
        = (d.bump .sampleOverruns).counts.getD Count.sampleOverruns.index 0 := by
  obtain ⟨tables, round, -, periodic, -⟩ := d.gauged_climate
  have overruns : d.unitsTake = d.adoptions.examineGauge.bump .sampleOverruns := by
    simp [Device.unitsTake, Device.advanceTrigger, Device.trigger, tables, on, round, busy]
  obtain ⟨same, length⟩ := d.adoptions.examineGauge_counts (k := Count.sampleOverruns.index) (by decide)
  have counts : d.adoptions.counts = d.counts := by simp
  rw [overruns]
  refine ⟨by simp [round], by simp [periodic], Device.bump_congr ?_ rfl (length.trans (by rw [counts]))⟩
  rw [same, counts]

theorem Device.unitsTake_off (off : d.tables.sampling.advanceOn = false) : d.unitsTake.climate.round = d.climate.round := by
  obtain ⟨tables, round, -⟩ := d.gauged_climate
  simp [Device.unitsTake, Device.advanceTrigger, tables, off, round]

end Units

/-- A report at the pacing unit, of a late shift or of one with no due pending (R75, R79). -/
theorem Device.shiftReported_still {d : Device} {late : Bool}
    (rests : late = false → d.pace.pacer = .moving ∧ d.pace.inFlight = none ∧ d.pace.due = false) :
    d.shiftReported late = { d with
      mail := d.mail ++ if late then [.retry .lateShift] else []
      pace := if late then d.pace else { d.pace with
        pacer := if d.pace.line = .running then .waiting else .idle, reason := none } } := by
  cases late with
  | true => rfl
  | false =>
    obtain ⟨moving, ended, undue⟩ := rests rfl
    simp [Device.shiftReported, moving, ended, Device.proceed, undue, Device.rest]

/-- Settles O28: what the units make of a report, then what the pacing unit made of it before them. -/
theorem shiftReportProceeds : Obligations.ShiftReportProceeds := by
  unfold Obligations.ShiftReportProceeds
  intro rested counted units
  have law (d : Device) (mail : List Mail) (pace : Pace) (link : Link) (twelve : d.climate.zones.length = 12)
      (fits : d.tables.zones.length ≤ 12) :
      units d { ({ d with mail := mail, pace := pace } : Device).unitsTake with link := link } := by
    let x : Device := { d with mail := mail, pace := pace }
    refine ⟨fun z p governs other => ?_, fun z rests => ?_, fun r stands fresh free => ?_, fun r stands fresh busy => ?_,
      fun done => ?_, fun on idle => ?_, fun on busy => ?_, fun off => ?_⟩
    · exact (x.zone_unitsTake z).trans (Device.zone_adopts (d := x) twelve fits governs other)
    · exact (x.zone_unitsTake z).trans (Device.zone_keeps (d := x) rests)
    · exact Device.unitsTake_measures (d := x) stands fresh free
    · exact Device.unitsTake_skips (d := x) stands fresh busy
    · exact Device.unitsTake_passes (d := x) done
    · exact Device.unitsTake_starts (d := x) on idle
    · exact Device.unitsTake_overruns (d := x) on busy
    · exact Device.unitsTake_off (d := x) off
  refine ⟨fun late s rests twelve fits _ => ?_, fun s moving ended due => ?_⟩
  · let mail := s.dev.mail.erase (.shiftDone late) ++ if late then [.retry .lateShift] else []
    let pace := if late then s.dev.pace else rested s.dev
    let x : Device := { s.dev with mail := mail, pace := pace }
    have still := Device.shiftReported_still (d := s.dev.take (.shiftDone late)) rests
    have runs : exec (.shiftDoneReport late) s = .next (After s x.unitsTake) := by
      show run (fun d => (d.take (.shiftDone late)).shiftDone late) s = _
      rw [run_after, Device.shiftDone, still]
      rfl
    have kept : x.unitsTake.track = x.track ∧ x.unitsTake.pace = x.pace ∧ x.unitsTake.mail = x.mail := by
      simp [Device.unitsTake]
    obtain ⟨track, paced, mailed⟩ := kept
    refine ⟨_, runs, ?_, ?_, ?_, ?_⟩
    · rw [after_only]
      exact track
    · rw [after_only]
      exact paced
    · rw [after_only]
      exact mailed
    · rw [after_only]
      exact law s.dev mail pace _ twelve fits
  · refine ⟨_, Device.pacedAttempt_law _, ?_, fun twelve fits _ => ?_⟩
    · show run (fun d => (d.take (.shiftDone false)).shiftDone false) s = _
      have proceeds : (s.dev.take (.shiftDone false)).shiftReported false = Device.pacedAttempt { s.dev with
          mail := s.dev.mail.erase (.shiftDone false)
          pace := { rested s.dev with due := false } } := by
        simp only [Device.shiftReported, Device.take_pace, moving, ended, and_self, if_true, Device.proceed, due,
          Bool.false_eq_true, if_false]
        rfl
      rw [run_after, Device.shiftDone, proceeds]
    · exact law _ _ _ _ twelve fits

end Sys2Proof.Machine
end


section
/-! SUPPORT. The zone unit's timers, tallies and requests (R53, R94, R96, R102, R107). -/

namespace Sys2Proof.Machine

/-- A zone with a pair of tallies and a trim, its setpoints recomputed where the trim changed (R94). -/
def Device.retrimmed (d : Device) (z : Nat) (pair : Nat × Nat) (trim : Nat) (x : ZoneRt) : ZoneRt :=
  { x with
    tallies := pair
    trim := trim
    effTemp := if trim = x.trim then x.effTemp else (d.profile x.profile).temp.getD z 0
    effHum := if trim = x.trim then x.effHum else min 1000 ((d.profile x.profile).hum.getD z 0 + trim) }

/-- What a pair of tallies makes of a zone of the layout (R94). -/
theorem Device.tallied_eq {d : Device} {z n e : Nat} {entry : ZoneEntry} (x : ZoneRt)
    (stands : d.tables.zones[z]? = some entry) : d.tallied ((n, e), z) x =
      let trim :=
        if entry.type = .relax ∨ entry.type = .cool then x.trim
        else if 0 < n ∧ n < 2 * e then min entry.trimMax (x.trim + entry.trimStep)
        else if e = 0 then x.trim - entry.trimStep
        else x.trim
      { x with
        tallies := (n, e)
        trim := trim
        effTemp := if trim = x.trim then x.effTemp else (d.profile x.profile).temp.getD z 0
        effHum := if trim = x.trim then x.effHum else min 1000 ((d.profile x.profile).hum.getD z 0 + trim) } := by
  have stays (type : entry.type = .relax ∨ entry.type = .cool) : d.tallied ((n, e), z) x = { x with tallies := (n, e) } := by
    rcases type with h | h <;> simp [Device.tallied, stands, h]
  have moves (type : ¬(entry.type = .relax ∨ entry.type = .cool)) : d.tallied ((n, e), z) x =
      if trimmed entry (n, e) x.trim = x.trim then { x with tallies := (n, e) }
      else d.setpoints z { x with tallies := (n, e), trim := trimmed entry (n, e) x.trim } := by
    unfold Device.tallied
    simp only [stands]
    cases h : entry.type <;> simp_all
  by_cases type : entry.type = .relax ∨ entry.type = .cool
  · simp [stays type, if_pos type]
  · rw [moves type, if_neg type]
    change _ = d.retrimmed z (n, e) (trimmed entry (n, e) x.trim) x
    generalize trimmed entry (n, e) x.trim = trim
    by_cases same : trim = x.trim
    · simp [same, Device.retrimmed]
    · simp [same, Device.retrimmed, Device.setpoints]

/-- Settles O32: the zones take their pairs one by one. -/
theorem talliesMoveTrim : Obligations.TalliesMoveTrim := by
  intro pairs s twelve fits
  have runs : exec (.talliesHanded pairs) s = .next (After s ((s.dev.take (.tallies pairs)).takeTallies pairs)) := rfl
  refine ⟨_, runs, ?_⟩
  have only := Device.takeTallies_only pairs (s.dev.take (.tallies pairs))
  have zone (z : Nat) (p : Nat × Nat) (pair : pairs[z]? = some p) (inside : z < s.dev.climate.zones.length) :
      (After s ((s.dev.take (.tallies pairs)).takeTallies pairs)).dev.zone z = s.dev.tallied (p, z) (s.dev.zone z) := by
    rw [after_only]
    exact Device.zone_takeTallies pairs (s.dev.take (.tallies pairs)) z p pair inside
  refine ⟨?_, ?_, ?_, ?_, ?_, fun z n e entry stands pair => ?_⟩
  iterate 5
    rw [after_only, only]
    rfl
  have inside : z < s.dev.tables.zones.length := (List.getElem?_eq_some_iff.mp stands).1
  rw [zone z (n, e) pair (by omega), Device.tallied_eq _ stands]

/-- A round begins as written out, and the periodic timer with it (R96, R97). -/
theorem Device.startRound_eq (trigger : Trigger) (d : Device) : d.startRound trigger =
    let n := (d.climate.exchange + 1) % 256
    { d with
      climate := { d.climate with
        periodicFrom := d.time
        exchange := n
        round := some ⟨trigger, d.clock, 0, .read, n, ⟨d.time, 250⟩, []⟩ }
      bus := d.bus ++ [.zoneRead 0 n] } := rfl

/-- A zone that an order to recompute reaches (R53). -/
theorem Device.zone_reordered {d : Device} (p z : Nat) (twelve : d.climate.zones.length = 12)
    (fits : d.tables.zones.length ≤ 12) : (d.recomputeProfile p).zone z =
      if z < d.tables.zones.length ∧ (d.zone z).profile = p then { d.zone z with
        effTemp := (d.profile p).temp.getD z 0
        effHum := min 1000 ((d.profile p).hum.getD z 0 + (d.zone z).trim)
        settleFrom := some d.sec }
      else d.zone z := by
  rw [Device.zone_recomputeProfile]
  by_cases inside : z < d.tables.zones.length
  · by_cases named : (d.zone z).profile = p
    · rw [if_pos ⟨inside, by omega⟩, if_pos ⟨inside, named⟩, Device.reordered, if_pos named, ← named]
      rfl
    · rw [if_pos ⟨inside, by omega⟩, if_neg fun h => named h.2, Device.reordered, if_neg named]
  · rw [if_neg fun h => inside h.1, if_neg fun h => inside h.1]

/-- A sampling trigger with a round in flight, and with none (R96). -/
theorem Device.trigger_eq (t : Trigger) (d : Device) :
    (d.climate.round = none → d.trigger t = d.startRound t)
      ∧ (d.climate.round.isSome → d.trigger t = d.bump .sampleOverruns) := by
  unfold Device.trigger
  exact ⟨fun h => by simp [h], fun h => if_pos h⟩

/-- Settles O45: the timers, the order to recompute, and the two requests. -/
theorem zoneTimersAndRequests : Obligations.ZoneTimersAndRequests := by
  intro s d begun due unlearned
  have periodic : exec .periodicTimerExpiry s = .next (After s due.periodicExpired) := rfl
  refine ⟨fun idle => ?_, fun busy => ?_, fun tag turn => ⟨fun idle => ?_, fun busy => ?_⟩, fun z e start stands counts => ?_,
    fun p rest waits twelve fits => ?_, fun tag zone turn twelve fits => ⟨fun all => ?_, fun inside => ?_, fun one beyond => ?_⟩⟩
  · rw [periodic, Device.periodicExpired, (Device.trigger_eq _ { due with climate := { due.climate with periodicFrom := due.time } }).1 idle]
    rfl
  · rw [periodic, Device.periodicExpired, (Device.trigger_eq _ { due with climate := { due.climate with periodicFrom := due.time } }).2 busy]
  · exact exec_answered (own := sampleNow) rfl rfl rfl turn (by
      rw [sampleNow, if_neg (by simp [show s.dev.climate.round = none from idle])]
      rfl)
  · exact exec_answered (own := sampleNow) rfl rfl rfl turn (if_pos busy)
  · show run (fun d => expire (d.settleDeadline z) (Device.settleExpired z) d) s = _
    have deadline : s.dev.settleDeadline z = some ((start + e.settle) * 1000) := by
      simp only [Device.settleDeadline, show (s.dev.zone z).settleFrom = some start from counts,
        show s.dev.tables.zones[z]? = some e from stands]
    rw [run_after, deadline, expire_some]
    rfl
  · have runs : exec (.setpointRecomputeOrder p) s = .next (After s ((s.dev.take (.recompute p)).recomputeProfile p)) := rfl
    have only := Device.recomputeProfile_only p (s.dev.take (.recompute p))
    have taken : s.dev.mail.erase (.recompute p) = rest := by
      rw [show s.dev.mail = .recompute p :: rest from waits]
      exact List.erase_cons_head ..
    refine ⟨_, runs, ?_, ?_, ?_, ?_, fun z => ?_⟩
    · rw [after_only, only]
      exact taken
    iterate 3
      rw [after_only, only]
      rfl
    rw [after_only]
    exact Device.zone_reordered (d := s.dev.take (.recompute p)) p z twelve fits
  · have answered := exec_answered (own := zoneAccept zone) rfl rfl rfl turn
      (show zoneAccept zone s.dev = (s.dev.zoneIndices.foldl Device.acceptZone s.dev, accepted) from if_pos all)
    have only : s.dev.zoneIndices.foldl Device.acceptZone s.dev = _ := foldl_zones_only Device.acceptZone_only _ s.dev
    refine ⟨_, answered, Served.replied _ _ _ accepted, ?_, ?_, fun z => ?_⟩
    · rw [served_only, only]
    · rw [served_only, only]
    · rw [served_only]
      refine (Device.zone_acceptAll s.dev z).trans ?_
      by_cases inside : z < s.dev.tables.zones.length
      · rw [if_pos ⟨inside, lt_of_lt_of_le inside (fits.trans twelve.ge)⟩]
        exact (if_pos inside).symm
      · rw [if_neg fun h => inside h.1]
        exact (if_neg inside).symm
  · have one : zone ≠ 0xFF := by
      rintro rfl
      exact absurd (lt_of_lt_of_le inside fits) (by decide)
    exact exec_answered (own := zoneAccept zone) rfl rfl rfl turn (by
      rw [zoneAccept, if_neg one, if_pos inside, Device.acceptZone_eq]
      rfl)
  · exact exec_answered (own := zoneAccept zone) rfl rfl rfl turn (by
      rw [zoneAccept, if_neg one, if_neg (Nat.not_lt.mpr beyond)])

end Sys2Proof.Machine
end


section
/-! SUPPORT. Missed READs, ended SETs, and how a round goes on (R97, R99, R103). -/

namespace Sys2Proof.Machine

/-- A round goes on to the next zone, or ends with its notice (R97). -/
def Device.roundGoesOn (r : Round) (result : ZoneResult) (e : Device) : Device :=
  let n := (e.climate.exchange + 1) % 256
  if r.zone + 1 < e.tables.zones.length then { e with
    climate := { e.climate with
      exchange := n
      round := some ⟨r.trigger, r.start, r.zone + 1, .read, n, ⟨e.time, 250⟩, r.results ++ [result]⟩ }
    bus := e.bus ++ [.zoneRead (r.zone + 1) n] }
  else Device.notify
    (.sampleRound r.trigger r.start e.clock ((r.results ++ [result]).map fun q =>
      ⟨q, (e.zone q.zone).valid, (e.zone q.zone).profile, (e.zone q.zone).trim⟩))
    (Device.bump .sampleRounds { e with climate := { e.climate with round := none } })

theorem Device.nextZone_eq (r : Round) (outcome : ReadOutcome) (set : Option Bool) (e : Device) :
    e.nextZone r outcome set = e.roundGoesOn r ⟨r.zone, outcome, set⟩ := rfl

/-- A miss is counted, and the third in a row of a VALID zone loses its module (R99). -/
theorem Device.miss_eq (z : Nat) (d : Device) :
    let lost := (d.zone z).valid = true ∧ (d.zone z).misses = 2
    d.miss z = { d.bump .readMisses with
      climate := { d.climate with zones := d.climate.zones.modify z fun y =>
        if lost then { y with misses := 3, valid := false, settling := true } else { y with misses := min 3 (y.misses + 1) } }
      mail := d.mail ++ if lost then [.raise .zoneModuleLost { zone := some z }] else [] } := by
  intro lost
  have modified (f : ZoneRt → ZoneRt) : (d.bump .readMisses).modifyZone z f =
      { d.bump .readMisses with climate := { d.climate with zones := d.climate.zones.modify z f } } := rfl
  simp only [Device.miss]
  by_cases third : (d.zone z).valid = true ∧ (d.zone z).misses = 2
  · rw [if_pos third, Device.modifyZone_twice]
    rw [Device.modifyZone_congr (g := fun y => { y with misses := 3, valid := false, settling := true }), modified]
    · simp only [lost, if_pos third]
      rfl
    · show ({ (d.zone z) with misses := min 3 ((d.zone z).misses + 1), valid := false, settling := true } : ZoneRt) = _
      rw [third.2]
      rfl
  · rw [if_neg third, modified]
    simp [lost, if_neg third]

/-- Settles O47: the limit of a READ, the two ends of a SET, and the answers that are ignored. -/
theorem missesAndSetsEnd : Obligations.MissesAndSetsEnd := by
  intro s r flies d n x late goesOn lost missed
  refine ⟨fun reads _ => ?_, fun outcome sets => ⟨fun number ok same within => ?_, ?_⟩, fun number ok ignored => ?_⟩
  · show run (fun d => expire d.readDeadline Device.readExpired d) s = _
    have deadline : s.dev.readDeadline = some (r.timer.start + r.timer.limit) := by
      simp [Device.readDeadline, flies, reads, Timer.deadline]
    have expires : Device.readExpired late = (late.miss r.zone).nextZone r .miss none := by
      simp only [Device.readExpired, late, d, flies]
    rw [run_after, deadline, expire_some]
    refine congrArg (fun e => Host.Outcome.next (After s e)) (expires.trans ?_)
    rw [Device.miss_eq, Device.nextZone_eq]
    rfl
  · show run (fun d => d.setReply number.toNat ok) s = _
    have within : s.dev.within r.timer = true := (Device.within_iff _ _).mpr within
    have ends : s.dev.setReply number.toNat ok = s.dev.nextZone r outcome (some ok) := by
      simp only [Device.setReply, Device.endSet, flies, sets, same, within, and_self, if_true]
    rw [run_after, ends, Device.nextZone_eq]
    rfl
  · show run (fun d => expire d.setDeadline (Device.endSet false) d) s = _
    have deadline : s.dev.setDeadline = some (r.timer.start + r.timer.limit) := by
      simp [Device.setDeadline, flies, sets, Timer.deadline]
    have ends : Device.endSet false late = late.nextZone r outcome (some false) := by
      simp only [Device.endSet, late, d, flies, sets]
    rw [run_after, deadline, expire_some]
    exact congrArg (fun e => Host.Outcome.next (After s e)) ends
  · show run (fun d => d.setReply number.toNat ok) s = _
    have stays : s.dev.setReply number.toNat ok = s.dev := by
      simp only [Device.setReply, flies]
      split
      · rename_i answers
        have within : d.time ≤ r.timer.start + r.timer.limit := (Device.within_iff _ _).mp answers.2
        rcases ignored with other | reads | passed
        · exact absurd answers.1 other
        · simp only [Device.endSet, flies, reads]
        · omega
      · rfl
    rw [run_after, stays]

end Sys2Proof.Machine
end


section
/-! SUPPORT. READ replies (R97, R98, R100, R101, R104 to R106): what they make of their zone, what they hand on, and the
notices they place. -/

namespace Sys2Proof.Machine

/-- What the taking of a reply makes of the part: the zone `z` becomes `y` and no other zone changes, and these messages
and notices join those that wait. -/
structure Heard (d : Device) (z : Nat) (y : ZoneRt) (mail : List Mail) (notices : List Notice) (e : Device) : Prop where
  time : e.time = d.time
  tables : e.tables = d.tables
  length : e.climate.zones.length = d.climate.zones.length
  zone : e.zone z = y
  others : ∀ k, k ≠ z → e.zone k = d.zone k
  mailed : e.mail = d.mail ++ mail
  tx : e.link.tx = d.link.tx
  noted : d.link.notices.length + notices.length ≤ 32 → e.link.notices = d.link.notices ++ notices
  counts : ∀ k, Count.noticesDropped.index ≠ k → e.counts.getD k 0 = d.counts.getD k 0
  counted : e.counts.length = d.counts.length

namespace Heard
variable {d e f : Device} {z : Nat} {y y' : ZoneRt} {m m' : List Mail} {n n' : List Notice}

theorem refl (d : Device) (z : Nat) : Heard d z (d.zone z) [] [] d :=
  ⟨rfl, rfl, rfl, rfl, fun _ _ => rfl, by simp, rfl, by simp, fun _ _ => rfl, rfl⟩

theorem trans (first : Heard d z y m n e) (second : Heard e z y' m' n' f) : Heard d z y' (m ++ m') (n ++ n') f where
  time := second.time.trans first.time
  tables := second.tables.trans first.tables
  length := second.length.trans first.length
  zone := second.zone
  others k other := (second.others k other).trans (first.others k other)
  mailed := by rw [second.mailed, first.mailed, List.append_assoc]
  tx := second.tx.trans first.tx
  noted room := by
    rw [List.length_append] at room
    have early := first.noted (by omega)
    rw [second.noted (by rw [early, List.length_append]; omega), early, List.append_assoc]
  counts k other := (second.counts k other).trans (first.counts k other)
  counted := second.counted.trans first.counted

/-- A change of the zone alone. -/
theorem modifyZone (g : ZoneRt → ZoneRt) (inside : z < d.climate.zones.length) :
    Heard d z (g (d.zone z)) [] [] (d.modifyZone z g) where
  time := rfl
  tables := rfl
  length := by simp [Device.modifyZone]
  zone := by rw [Device.zone_modify, if_pos ⟨rfl, inside⟩]
  others k other := by rw [Device.zone_modify, if_neg fun h => other h.1]
  mailed := (List.append_nil _).symm
  tx := rfl
  noted _ := (List.append_nil _).symm
  counts _ _ := rfl
  counted := rfl

theorem raise (k : FaultKind) (c : Context) (d : Device) (z : Nat) :
    Heard d z (d.zone z) [.raise k c] [] (d.raise k c) :=
  ⟨rfl, rfl, rfl, rfl, fun _ _ => rfl, rfl, rfl, by simp, fun _ _ => rfl, rfl⟩

theorem notify (x : Notice) (d : Device) (z : Nat) : Heard d z (d.zone z) [] [x] (d.notify x) := by
  obtain ⟨room, h⟩ | ⟨full, h⟩ := d.notify_cases x <;> rw [h]
  · exact ⟨rfl, rfl, rfl, rfl, fun _ _ => rfl, by simp, rfl, fun _ => rfl, fun _ _ => rfl, rfl⟩
  · refine ⟨rfl, rfl, rfl, rfl, fun _ _ => rfl, by simp, rfl, fun room => ?_, fun k other => d.bump_other other,
      by simp⟩
    simp only [List.length_singleton, maxNotices] at room full
    omega

end Heard

/-- A monitor leaves its band and an edge mode tells of it (R106). -/
@[reducible] def monitorLeaves (edge : EdgeMode) (was now : Bool) : Prop := was = false ∧ now = true ∧ edge ≠ .ret

/-- A monitor returns into its band and an edge mode tells of it (R106). -/
@[reducible] def monitorReturns (edge : EdgeMode) (was now : Bool) : Prop := was = true ∧ now = false ∧ edge ≠ .leave

/-- The ZONE_MONITOR notices of a monitor's transition (R106). -/
def monitorNotices (z : Nat) (edge : EdgeMode) (monitor : Monitor) (was now : Bool) (value setpoint band clock : Nat) :
    List Notice :=
  if monitorLeaves edge was now then [.zoneMonitor z monitor .leave value setpoint band clock]
  else if monitorReturns edge was now then [.zoneMonitor z monitor .ret value setpoint band clock]
  else []

/-- The CLIMATE_DEVIATION raises of a monitor's transition (R106). -/
def monitorRaises (z : Nat) (edge : EdgeMode) (was now : Bool) : List Mail :=
  if monitorLeaves edge was now then [.raise .climateDeviation { zone := some z }] else []

/-- A monitor's state after a reading, its band being 0 or not (R105, R108). -/
def judgedIn (was : Bool) (band value setpoint : Nat) : Bool :=
  if band = 0 then was else judged was band (gap value setpoint)

/-- A transition is told as the edge mode asks (R106). -/
theorem Heard.tellMonitor (e : Device) (z : Nat) (entry : ZoneEntry) (monitor : Monitor) {was now : Bool}
    (moved : now ≠ was) (value setpoint band : Nat) :
    Heard e z (e.zone z) (monitorRaises z entry.edge was now)
      (monitorNotices z entry.edge monitor was now value setpoint band e.clock)
      (e.tellMonitor z entry monitor (if now then .leave else .ret) value setpoint band) := by
  have opposite : was = !now := by cases was <;> cases now <;> simp_all
  subst opposite
  have left (x : Notice) : Heard e z (e.zone z) [.raise .climateDeviation { zone := some z }] [x]
      ((e.notify x).raise .climateDeviation (zoneContext z)) :=
    (Heard.notify x e z).trans
      (by simpa [Device.zone, zoneContext] using Heard.raise .climateDeviation (zoneContext z) (e.notify x) z)
  unfold Device.tellMonitor
  cases now with
  | true =>
    cases edge : entry.edge with
    | leave => exact left _
    | ret => exact Heard.refl e z
    | both => exact left _
  | false =>
    cases edge : entry.edge with
    | leave => exact Heard.refl e z
    | ret => exact Heard.notify _ e z
    | both => exact Heard.notify _ e z

/-- A monitor, whose state `set` writes, is evaluated at a value (R105, R108). -/
theorem Heard.evaluate {e : Device} {z : Nat} {entry : ZoneEntry} {monitor : Monitor} {was : Bool}
    {value setpoint band : Nat} (set : Bool → ZoneRt → ZoneRt) (inside : z < e.climate.zones.length)
    (same : set was (e.zone z) = e.zone z) :
    Heard e z (set (judgedIn was band value setpoint) (e.zone z))
      (monitorRaises z entry.edge was (judgedIn was band value setpoint))
      (monitorNotices z entry.edge monitor was (judgedIn was band value setpoint) value setpoint band e.clock)
      (if band = 0 then e
        else if judged was band (gap value setpoint) = was then e
        else (e.modifyZone z (set (judged was band (gap value setpoint)))).tellMonitor z entry monitor
          (if judged was band (gap value setpoint) then .leave else .ret) value setpoint band) := by
  have still : Heard e z (set was (e.zone z)) (monitorRaises z entry.edge was was)
      (monitorNotices z entry.edge monitor was was value setpoint band e.clock) e := by
    rw [same]
    cases was <;> exact Heard.refl e z
  by_cases unmonitored : band = 0
  · rw [judgedIn, if_pos unmonitored, if_pos unmonitored]
    exact still
  · rw [judgedIn, if_neg unmonitored, if_neg unmonitored]
    by_cases unmoved : judged was band (gap value setpoint) = was
    · rw [if_pos unmoved, unmoved]
      exact still
    · rw [if_neg unmoved]
      have changed := Heard.modifyZone (set (judged was band (gap value setpoint))) inside
      have told := Heard.tellMonitor (e.modifyZone z (set (judged was band (gap value setpoint)))) z entry monitor unmoved
        value setpoint band
      rw [changed.zone] at told
      exact changed.trans told

/-- The output status of a reply (R104). -/
theorem Heard.takeOutput {e : Device} {z : Nat} (status : OutputStatus) (inside : z < e.climate.zones.length) :
    Heard e z { e.zone z with output := status }
      (if (e.zone z).output = .ok ∧ status = .fault then [.raise .heaterFault { zone := some z }] else []) []
      (e.takeOutput z status) := by
  have changed := Heard.modifyZone (fun rt => { rt with output := status }) inside
  unfold Device.takeOutput
  by_cases fails : (e.zone z).output = .ok ∧ status = .fault
  · rw [if_pos fails, if_pos fails]
    have raised := Heard.raise .heaterFault (zoneContext z) (e.modifyZone z fun rt => { rt with output := status }) z
    rw [changed.zone] at raised
    exact changed.trans raised
  · rw [if_neg fails, if_neg fails]
    exact changed

/-- The distance of two values, as the monitors take it. -/
theorem gap_eq (a b : Nat) : gap a b = ((a : Int) - (b : Int)).natAbs := by
  unfold gap
  omega

/-- A monitor's state after a reading of its zone: it stays while the settle timer counts (R105). -/
def Device.judges (d : Device) (z : Nat) (out : Bool) (band value setpoint : Nat) : Bool :=
  let difference := ((value : Int) - (setpoint : Int)).natAbs
  if d.settleCounting z = true ∨ band = 0 then out
  else if out then decide (band / 2 < difference) else decide (band < difference)

theorem Device.judges_settling {d : Device} {z : Nat} (counts : d.settleCounting z = true) (out : Bool)
    (band value setpoint : Nat) : d.judges z out band value setpoint = out := if_pos (.inl counts)

theorem Device.judges_settled {d : Device} {z : Nat} (settled : d.settleCounting z = false) (out : Bool)
    (band value setpoint : Nat) : d.judges z out band value setpoint = judgedIn out band value setpoint := by
  simp only [Device.judges, settled, judgedIn, judged, gap_eq, Bool.false_eq_true, false_or]

theorem monitorRaises_still (z : Nat) (edge : EdgeMode) (was : Bool) : monitorRaises z edge was was = [] := by
  cases was <;> rfl

theorem monitorNotices_still (z : Nat) (edge : EdgeMode) (monitor : Monitor) (was : Bool) (value setpoint band clock : Nat) :
    monitorNotices z edge monitor was was value setpoint band clock = [] := by
  cases was <;> rfl

/-- The judgement of a zone's monitors depends on its settle timer only. -/
theorem Device.judges_congr {e d : Device} {z : Nat} (time : e.time = d.time) (tables : e.tables = d.tables)
    (settle : (e.zone z).settleFrom = (d.zone z).settleFrom) : e.judges z = d.judges z := by
  have counting : e.settleCounting z = d.settleCounting z := by
    have settle : (e.climate.zones.getD z default).settleFrom = (d.climate.zones.getD z default).settleFrom := settle
    rw [Device.settleCounting, Device.settleCounting, settle, tables, Device.sec, Device.sec, time]
  funext out band value setpoint
  simp only [Device.judges, counting]

/-- Both monitors at a reading, temperature first (R105). -/
theorem Heard.monitors {e : Device} {z : Nat} {entry : ZoneEntry} (temp hum : Nat) (inside : z < e.climate.zones.length)
    (stands : e.tables.zones[z]? = some entry) :
    let x := e.zone z
    let tempOut := e.judges z x.tempOut entry.tempBand temp x.effTemp
    let humOut := e.judges z x.humOut entry.humBand hum x.effHum
    Heard e z { x with tempOut := tempOut, humOut := humOut }
      (monitorRaises z entry.edge x.tempOut tempOut ++ monitorRaises z entry.edge x.humOut humOut)
      (monitorNotices z entry.edge .temperature x.tempOut tempOut temp x.effTemp entry.tempBand e.clock
        ++ monitorNotices z entry.edge .humidity x.humOut humOut hum x.effHum entry.humBand e.clock)
      (e.monitors z temp hum) := by
  intro x tempOut humOut
  unfold Device.monitors
  rw [stands]
  dsimp only
  cases settling : e.settleCounting z with
  | true =>
    rw [if_pos rfl, show tempOut = x.tempOut from Device.judges_settling settling _ _ _ _,
      show humOut = x.humOut from Device.judges_settling settling _ _ _ _]
    have still := Heard.refl e z
    simpa only [monitorRaises_still, monitorNotices_still, List.append_nil] using still
  | false =>
    rw [if_neg (by simp), show tempOut = _ from Device.judges_settled settling _ _ _ _,
      show humOut = _ from Device.judges_settled settling _ _ _ _]
    have first : Heard e z _ _ _ (e.evaluate z entry .temperature temp) :=
      Heard.evaluate (fun out y => { y with tempOut := out }) inside rfl
    have second : Heard (e.evaluate z entry .temperature temp) z _ _ _ ((e.evaluate z entry .temperature temp).evaluate z entry .humidity hum) :=
      Heard.evaluate (fun out y => { y with humOut := out }) (first.length ▸ inside) rfl
    rw [first.zone, show (e.evaluate z entry .temperature temp).clock = e.clock by
      simp only [Device.clock, Device.sec, first.time]] at second
    exact first.trans second

/-- What a reply heard from a zone makes of the state it finds there (R98). -/
def ZoneRt.heard (x : ZoneRt) : ZoneRt := { x with misses := 0 }

section Replies
variable {d : Device} {z : Nat} (m : ModuleReply)

/-- A reply under a hold (R101). -/
theorem Device.takeReply_held (held : (d.zone z).hold = true) :
    d.takeReply z m = (d.modifyZone z ZoneRt.heard, .mismatch) := if_pos held

/-- A reply of a module that is not the learned one (R101). -/
theorem Device.takeReply_foreign (free : (d.zone z).hold = false)
    (foreign : ¬((d.zone z).identity = none ∨ (d.zone z).identity = some m.moduleId.toNat)) :
    d.takeReply z m = ((d.modifyZone z ZoneRt.heard).mismatch z, .mismatch) := by
  have other : (d.zone z).identity.isSome ∧ (d.zone z).identity ≠ some m.moduleId.toNat := by
    obtain ⟨unknown, other⟩ := not_or.mp foreign
    exact ⟨Option.isSome_iff_ne_none.mpr unknown, other⟩
  simp only [Device.takeReply, free, Bool.false_eq_true, if_false, if_pos other]
  rfl

/-- A reply of the learned module, or of the first to be learned (R98, R100). -/
theorem Device.takeReply_known (free : (d.zone z).hold = false)
    (known : (d.zone z).identity = none ∨ (d.zone z).identity = some m.moduleId.toNat) :
    d.takeReply z m = if (d.zone z).settling then ((d.modifyZone z ZoneRt.heard).settlingReply z m, .settling)
      else ((d.modifyZone z ZoneRt.heard).takeReading z m, .reading) := by
  have same : ¬((d.zone z).identity.isSome ∧ (d.zone z).identity ≠ some m.moduleId.toNat) := by
    rcases known with h | h <;> simp [h]
  simp only [Device.takeReply, free, Bool.false_eq_true, if_false, if_neg same]
  rfl

/-- The mismatch a foreign module enters (R101). -/
theorem Heard.mismatch (inside : z < d.climate.zones.length) :
    Heard d z { (d.zone z).heard with valid := false, hold := true } [.raise .moduleMismatch { zone := some z }] []
      ((d.modifyZone z ZoneRt.heard).mismatch z) := by
  have heard := Heard.modifyZone ZoneRt.heard inside
  have held := Heard.modifyZone (d := d.modifyZone z ZoneRt.heard) (fun rt => { rt with valid := false, hold := true })
    (heard.length ▸ inside)
  have raised := Heard.raise .moduleMismatch (zoneContext z)
    ((d.modifyZone z ZoneRt.heard).modifyZone z fun rt => { rt with valid := false, hold := true }) z
  rw [held.zone] at raised
  rw [heard.zone] at held raised
  exact heard.trans (held.trans raised)

/-- The settling reply, which learns the module (R100). -/
theorem Heard.settlingReply (inside : z < d.climate.zones.length)
    (known : (d.zone z).identity = none ∨ (d.zone z).identity = some m.moduleId.toNat) :
    Heard d z { (d.zone z).heard with identity := some m.moduleId.toNat, settling := false, output := m.output }
      (if (d.zone z).output = .ok ∧ m.output = .fault then [.raise .heaterFault { zone := some z }] else []) []
      ((d.modifyZone z ZoneRt.heard).settlingReply z m) := by
  have heard := Heard.modifyZone ZoneRt.heard inside
  have learned := Heard.modifyZone (d := d.modifyZone z ZoneRt.heard)
    (fun rt => { rt with identity := some (rt.identity.getD m.moduleId.toNat), settling := false })
    (heard.length ▸ inside)
  have output := Heard.takeOutput m.output (lt_of_lt_of_eq inside (learned.length.trans heard.length).symm)
  rw [learned.zone] at output
  rw [heard.zone] at learned output
  have identity : (d.zone z).heard.identity.getD m.moduleId.toNat = m.moduleId.toNat := by
    show (d.zone z).identity.getD m.moduleId.toNat = _
    rcases known with h | h <;> rw [h] <;> rfl
  rw [identity] at learned output
  exact heard.trans (learned.trans output)

/-- A reading, judged by the monitors (R98, R105). -/
theorem Heard.takeReading {entry : ZoneEntry} (inside : z < d.climate.zones.length)
    (stands : d.tables.zones[z]? = some entry) :
    let x := d.zone z
    let tempOut := d.judges z x.tempOut entry.tempBand m.temp.toNat x.effTemp
    let humOut := d.judges z x.humOut entry.humBand m.hum.toNat x.effHum
    Heard d z { x.heard with
        reading := some ⟨m.temp.toNat, m.hum.toNat, d.clock⟩
        valid := true
        output := m.output
        tempOut := tempOut
        humOut := humOut }
      ((if x.output = .ok ∧ m.output = .fault then [.raise .heaterFault { zone := some z }] else [])
        ++ (monitorRaises z entry.edge x.tempOut tempOut ++ monitorRaises z entry.edge x.humOut humOut))
      (monitorNotices z entry.edge .temperature x.tempOut tempOut m.temp.toNat x.effTemp entry.tempBand d.clock
        ++ monitorNotices z entry.edge .humidity x.humOut humOut m.hum.toNat x.effHum entry.humBand d.clock)
      ((d.modifyZone z ZoneRt.heard).takeReading z m) := by
  intro x tempOut humOut
  have heard := Heard.modifyZone ZoneRt.heard inside
  have read := Heard.modifyZone (d := d.modifyZone z ZoneRt.heard)
    (fun rt => { rt with reading := some ⟨m.temp.toNat, m.hum.toNat, d.clock⟩, valid := true }) (heard.length ▸ inside)
  have output := Heard.takeOutput m.output (lt_of_lt_of_eq inside (read.length.trans heard.length).symm)
  rw [read.zone, heard.zone] at output
  rw [heard.zone] at read
  have early := heard.trans (read.trans output)
  have judged := Heard.monitors m.temp.toNat m.hum.toNat (early.length ▸ inside) (early.tables ▸ stands)
  have clock : (((d.modifyZone z ZoneRt.heard).modifyZone z fun rt =>
      { rt with reading := some ⟨m.temp.toNat, m.hum.toNat, d.clock⟩, valid := true }).takeOutput z m.output).clock
        = d.clock := congrArg (fun t => t / 1000 % size32) early.time
  rw [Device.judges_congr (d := d) early.time early.tables (by rw [early.zone]; rfl), early.zone, clock] at judged
  exact early.trans judged

end Replies

end Sys2Proof.Machine
end


section
/-! SUPPORT. How a round goes on after a reply (R97, R101). -/

namespace Sys2Proof.Machine

/-- How a round goes on from `T`, which a zone's reply left: the zones, the track and the mail stay, and a notice that joins
those that wait is none of a monitor's. -/
structure Onward (T e : Device) : Prop where
  zones : e.climate.zones = T.climate.zones
  track : e.track = T.track
  mail : e.mail = T.mail
  tx : e.link.tx = T.link.tx
  notices : ∃ rest, e.link.notices = T.link.notices ++ rest
    ∧ ∀ z monitor edge value setpoint band time, Notice.zoneMonitor z monitor edge value setpoint band time ∉ rest

theorem Onward.sendSet (T : Device) (r : Round) (outcome : ReadOutcome) : Onward T (T.sendSet r outcome) :=
  ⟨rfl, rfl, rfl, rfl, [], by simp [Device.sendSet], by simp⟩

theorem Onward.nextZone (T : Device) (r : Round) (outcome : ReadOutcome) (set : Option Bool) :
    Onward T (T.nextZone r outcome set) := by
  obtain ⟨-, h⟩ | ⟨-, h⟩ := T.nextZone_cases r outcome set <;> rw [h]
  · exact ⟨rfl, rfl, rfl, rfl, [], by simp [Device.sendRead], by simp⟩
  · rw [Device.endRound]
    obtain ⟨-, n⟩ | ⟨-, n⟩ := Device.notify_cases (.sampleRound r.trigger r.start T.clock
      ((r.results ++ [(⟨r.zone, outcome, set⟩ : ZoneResult)]).map T.zoneView)) (Device.bump .sampleRounds
        { T with climate := { T.climate with round := none } }) <;> rw [n]
    · exact ⟨rfl, rfl, rfl, rfl, _, rfl, by simp⟩
    · exact ⟨rfl, rfl, rfl, rfl, [], by simp, by simp⟩

/-- The round reads its next zone, or ends and is counted (R97). -/
def RoundGoesOn (d : Device) (r : Round) (outcome : ReadOutcome) (t : State) : Prop :=
  let n := (d.climate.exchange + 1) % 256
  (r.zone + 1 < d.tables.zones.length →
    t.dev.climate.round = some { r with
      zone := r.zone + 1, number := n, timer := ⟨d.time, 250⟩, results := r.results ++ [⟨r.zone, outcome, none⟩] }
    ∧ t.dev.bus = d.bus ++ [.zoneRead (r.zone + 1) n])
  ∧ (d.tables.zones.length ≤ r.zone + 1 → t.dev.climate.round = none ∧ t.dev.bus = d.bus
    ∧ t.dev.counts.getD Count.sampleRounds.index 0 = (d.bump .sampleRounds).counts.getD Count.sampleRounds.index 0)

section Onwards
variable {d T : Device} {z : Nat} {y : ZoneRt} {m : List Mail} {n : List Notice} {r : Round} {outcome : ReadOutcome}

/-- A round goes on from a reply that left the clock, the layout, the bus and the exchange number as they were. -/
theorem roundGoesOn (s : State) (heard : Heard d z y m n T) (bus : T.bus = d.bus)
    (exchange : T.climate.exchange = d.climate.exchange) (reads : r.phase = .read) :
    RoundGoesOn d r outcome (After s (T.nextZone r outcome none)) := by
  refine ⟨fun more => ?_, fun last => ?_⟩
  · obtain ⟨-, h⟩ | ⟨stop, -⟩ := T.nextZone_cases r outcome none
    · rw [after_only, h]
      simp [Device.sendRead, Device.nextExchange, Device.timer, replyLimit, heard.time, bus, exchange, reads]
    · rw [heard.tables] at stop
      omega
  · obtain ⟨more, -⟩ | ⟨-, h⟩ := T.nextZone_cases r outcome none
    · rw [heard.tables] at more
      omega
    · have counted : (T.endRound r (r.results ++ [⟨r.zone, outcome, none⟩])).counts.getD Count.sampleRounds.index 0 =
          (T.bump .sampleRounds).counts.getD Count.sampleRounds.index 0 := by
        rw [Device.endRound]
        obtain ⟨-, n⟩ | ⟨-, n⟩ := Device.notify_cases (.sampleRound r.trigger r.start T.clock
          ((r.results ++ [(⟨r.zone, outcome, none⟩ : ZoneResult)]).map T.zoneView)) (Device.bump .sampleRounds
            { T with climate := { T.climate with round := none } }) <;> rw [n]
        · rfl
        · exact Device.bump_other (k := Count.sampleRounds.index) _ (by decide)
      rw [after_only, h]
      refine ⟨by simp [Device.endRound], by simp [Device.endRound, bus], ?_⟩
      exact counted.trans (Device.bump_congr (heard.counts _ (by decide)) rfl heard.counted)

/-- A SET follows where the module holds other setpoints; otherwise the round goes on (R97). -/
def SetOrGoesOn (d : Device) (reply : ModuleReply) (r : Round) (outcome : ReadOutcome) (t : State) : Prop :=
  let n := (d.climate.exchange + 1) % 256
  let x := d.zone r.zone
  let differs := reply.heldTemp.toNat ≠ x.effTemp ∨ reply.heldHum.toNat ≠ x.effHum
  (differs → t.dev.climate.round = some { r with phase := .set outcome, number := n, timer := ⟨d.time, 250⟩ }
    ∧ t.dev.bus = d.bus ++ [.zoneSet r.zone n x.effTemp x.effHum])
  ∧ (¬differs → RoundGoesOn d r outcome t)

/-- The part after a reply that was no mismatch. -/
theorem setOrGoesOn (s : State) (reply : ModuleReply) (heard : Heard d r.zone y m n T) (bus : T.bus = d.bus)
    (exchange : T.climate.exchange = d.climate.exchange) (reads : r.phase = .read)
    (temp : y.effTemp = (d.zone r.zone).effTemp) (hum : y.effHum = (d.zone r.zone).effHum)
    (judged : outcome = .reading ∨ outcome = .settling) :
    ∃ e, (if T.needsSet r.zone reply outcome then T.sendSet r outcome else T.nextZone r outcome none) = e ∧ Onward T e
      ∧ SetOrGoesOn d reply r outcome (After s e) := by
  have temp : (T.zone r.zone).effTemp = (d.zone r.zone).effTemp := by rw [heard.zone, temp]
  have hum : (T.zone r.zone).effHum = (d.zone r.zone).effHum := by rw [heard.zone, hum]
  have needs : T.needsSet r.zone reply outcome = true ↔
      reply.heldTemp.toNat ≠ (d.zone r.zone).effTemp ∨ reply.heldHum.toNat ≠ (d.zone r.zone).effHum := by
    rcases judged with rfl | rfl <;> simp [Device.needsSet, temp, hum]
  refine ⟨_, rfl, ?_, ?_⟩
  · split
    · exact Onward.sendSet T r outcome
    · exact Onward.nextZone T r outcome none
  · by_cases differs : reply.heldTemp.toNat ≠ (d.zone r.zone).effTemp ∨ reply.heldHum.toNat ≠ (d.zone r.zone).effHum
    · rw [if_pos (needs.mpr differs)]
      refine ⟨fun _ => ?_, fun same => absurd differs same⟩
      rw [after_only]
      simp [Device.sendSet, Device.nextExchange, Device.timer, replyLimit, heard.time, bus, exchange, temp, hum]
    · rw [if_neg (mt needs.mp differs)]
      exact ⟨fun other => absurd other differs, fun _ => roundGoesOn s heard bus exchange reads⟩

end Onwards

/-- The round in flight takes a reply within its limit (R97, R98). -/
theorem Device.readReply_taken {d : Device} {r : Round} {number : Nat} {m : ModuleReply} (flies : d.climate.round = some r)
    (reads : r.phase = .read) (same : r.number = number) (within : d.time ≤ r.timer.start + r.timer.limit) :
    d.readReply number m =
      if (d.takeReply r.zone m).1.needsSet r.zone m (d.takeReply r.zone m).2 then
        (d.takeReply r.zone m).1.sendSet r (d.takeReply r.zone m).2
      else (d.takeReply r.zone m).1.nextZone r (d.takeReply r.zone m).2 none := by
  have within : d.within r.timer = true := (Device.within_iff _ _).mpr within
  simp only [Device.readReply, flies, reads, same, within, and_self, if_true]

/-- What the taking of a reply leaves alone, by its outcome. -/
theorem Device.takeReply_keeps {d T : Device} {z : Nat} {m : ModuleReply} {outcome : ReadOutcome}
    (took : d.takeReply z m = (T, outcome)) :
    T.track = d.track ∧ T.bus = d.bus ∧ T.climate.exchange = d.climate.exchange := by
  obtain ⟨-, -, -, track, -, -, -, -, -, -, bus, -, exchange, -⟩ := d.takeReply_frame z m
  rw [took] at track bus exchange
  exact ⟨track, bus, exchange⟩

/-- A reply that is a mismatch is followed by no SET (R97). -/
theorem Device.readReply_mismatch {d T : Device} {r : Round} {number : Nat} {m : ModuleReply}
    (runs : d.readReply number m =
      if (d.takeReply r.zone m).1.needsSet r.zone m (d.takeReply r.zone m).2 then
        (d.takeReply r.zone m).1.sendSet r (d.takeReply r.zone m).2
      else (d.takeReply r.zone m).1.nextZone r (d.takeReply r.zone m).2 none)
    (took : d.takeReply r.zone m = (T, .mismatch)) : d.readReply number m = T.nextZone r .mismatch none := by
  rw [runs, took]
  exact if_neg (by simp [Device.needsSet])

/-- A transition places one notice at most (R106). -/
theorem monitorNotices_length (z : Nat) (edge : EdgeMode) (monitor : Monitor) (was now : Bool)
    (value setpoint band clock : Nat) :
    (monitorNotices z edge monitor was now value setpoint band clock).length ≤ 1 := by
  unfold monitorNotices
  split
  · exact le_rfl
  · split
    · exact le_rfl
    · exact Nat.zero_le 1

/-- A transmitter that sends leaves the notices that wait (R190). -/
theorem Device.pump_busy {d : Device} (sends : d.link.tx.isSome) : d.pump = d := by
  obtain ⟨x, hx⟩ := Option.isSome_iff_exists.mp sends
  simp [Device.pump, hx]

/-- Settles O46: the reply that is ignored, then the four that are taken. -/
theorem readReplyTaken : Obligations.ReadReplyTaken := by
  unfold Obligations.ReadReplyTaken
  intro number m s d i n
  refine ⟨fun ignored => ?_, fun r e flies reads same within stands inside => ?_⟩
  · have stays : s.dev.readReply number.toNat m = s.dev := by
      unfold Device.readReply
      split
      · rfl
      · rename_i r flies
        refine if_neg ?_
        rintro ⟨reads, same, within⟩
        have past : r.timer.start + r.timer.limit < s.dev.time := ignored r flies reads same
        have := (Device.within_iff _ _).mp within
        omega
    show run (fun d => d.readReply number.toNat m) s = _
    rw [run_after, stays]
  · intro x heard known heater goesOn setOr judge leaves returns noted deviates taken
    have runs := Device.readReply_taken (m := m) flies reads same within
    have keeps {y : ZoneRt} {mail : List Mail} {notices : List Notice} {T e : Device} {after : State → Prop}
        (hears : Heard d r.zone y mail notices T) (track : T.track = d.track) (onward : Onward T e)
        (ends : s.dev.readReply number.toNat m = e)
        (rest : (After s e).dev.mail = d.mail ++ mail → after (After s e)) : taken y after := by
      have zone (k : Nat) : (After s e).dev.zone k = T.zone k := by
        rw [after_only]
        exact congrArg (fun zs => zs.getD k default) onward.zones
      refine ⟨After s e, congrArg (fun d => Host.Outcome.next (After s d)) ends, (zone _).trans hears.zone,
        fun z other => (zone z).trans (hears.others z other), ?_, rest ?_⟩
      · rw [after_only]
        exact onward.track.trans track
      · rw [after_only]
        exact onward.mail.trans hears.mailed
    refine ⟨fun held => ?_, fun free foreign => ?_, fun free known settling => ?_, fun free known settled => ?_⟩
    · have took := Device.takeReply_held m (d := s.dev) held
      obtain ⟨track, bus, exchange⟩ := Device.takeReply_keeps took
      have hears : Heard s.dev r.zone (s.dev.zone r.zone).heard [] [] _ := Heard.modifyZone ZoneRt.heard inside
      exact keeps hears track (Onward.nextZone _ r .mismatch none) (Device.readReply_mismatch runs took) fun mail =>
        ⟨roundGoesOn s hears bus exchange reads, mail.trans (List.append_nil _)⟩
    · have took := Device.takeReply_foreign m (d := s.dev) free foreign
      obtain ⟨track, bus, exchange⟩ := Device.takeReply_keeps took
      have hears := Heard.mismatch (d := s.dev) inside
      exact keeps hears track (Onward.nextZone _ r .mismatch none) (Device.readReply_mismatch runs took) fun mail =>
        ⟨roundGoesOn s hears bus exchange reads, mail⟩
    · have took := (Device.takeReply_known m (d := s.dev) free known).trans (if_pos settling)
      obtain ⟨track, bus, exchange⟩ := Device.takeReply_keeps took
      have hears := Heard.settlingReply m (d := s.dev) inside known
      obtain ⟨e, ends, onward, sets⟩ := setOrGoesOn s m hears bus exchange reads rfl rfl (.inr rfl)
      exact keeps hears track onward (by rw [runs, took]; exact ends) fun mail => ⟨sets, mail⟩
    · intro tempOut humOut
      have took := (Device.takeReply_known m (d := s.dev) free known).trans (if_neg (by simpa using settled))
      obtain ⟨track, bus, exchange⟩ := Device.takeReply_keeps took
      have hears := Heard.takeReading m (d := s.dev) inside stands
      obtain ⟨f, ends, onward, sets⟩ := setOrGoesOn s m hears bus exchange reads rfl rfl (.inl rfl)
      refine keeps hears track onward (by rw [runs, took]; exact ends) fun mail =>
        ⟨sets, mail.trans (by simp only [List.append_assoc]; rfl), fun sends room => ?_⟩
      obtain ⟨rest, follows, unmonitored⟩ := onward.notices
      have sending : f.link.tx.isSome := by
        rw [onward.tx, hears.tx]
        exact sends
      have room : s.dev.link.notices.length + 2 ≤ 32 := room
      refine ⟨rest, ?_, unmonitored⟩
      have early := hears.noted (by
        have := monitorNotices_length r.zone e.edge .temperature (s.dev.zone r.zone).tempOut
          (s.dev.judges r.zone (s.dev.zone r.zone).tempOut e.tempBand m.temp.toNat (s.dev.zone r.zone).effTemp)
          m.temp.toNat (s.dev.zone r.zone).effTemp e.tempBand s.dev.clock
        have := monitorNotices_length r.zone e.edge .humidity (s.dev.zone r.zone).humOut
          (s.dev.judges r.zone (s.dev.zone r.zone).humOut e.humBand m.hum.toNat (s.dev.zone r.zone).effHum)
          m.hum.toNat (s.dev.zone r.zone).effHum e.humBand s.dev.clock
        rw [List.length_append]
        omega)
      have still : (After s f).dev = f := Device.pump_busy sending
      rw [still, follows, early, ← List.append_assoc]
      rfl

end Sys2Proof.Machine
end


section
/-! SUPPORT. The search by rod id, and the requests on records (R4, R21, R22). -/

namespace Sys2Proof.Machine

section Search
variable {α β : Type} {l : List α} {k : Nat} {x : α}

/-- A search that hits at one place only finds what stands there. -/
theorem findSome?_of_unique {f : α → Option β} {b : β} (stands : l[k]? = some x) (hit : f x = some b)
    (unique : ∀ j y, j ≠ k → l[j]? = some y → f y = none) : l.findSome? f = some b := by
  induction l generalizing k with
  | nil => simp at stands
  | cons a as ih =>
    cases k with
    | zero =>
      obtain rfl : a = x := by simpa using stands
      simp [hit]
    | succ k =>
      have miss : f a = none := unique 0 a (by omega) rfl
      rw [List.findSome?_cons, miss]
      exact ih (by simpa using stands) fun j y other at_j => unique (j + 1) y (by omega) (by simpa using at_j)

/-- A search for an element that satisfies a condition is one for the element. -/
theorem find?_eq_findSome? (p : α → Bool) (l : List α) :
    l.find? p = l.findSome? fun y => if p y then some y else none := by
  induction l with
  | nil => rfl
  | cons a as ih =>
    rw [List.find?_cons, List.findSome?_cons]
    cases h : p a <;> simp [ih]

end Search

/-- A record of the id at one position only is found there. -/
theorem findPosition_of_unique {id k : Nat} {r : Rod} {cs : List Content} (stands : cs[k]? = some (.loaded r))
    (same : r.id = id) (unique : ∀ j q, j ≠ k → cs[j]? = some (.loaded q) → q.id ≠ id) :
    findPosition id cs = some (r, k) := by
  refine findSome?_of_unique (k := k) (x := (.loaded r, k)) (by simp [stands]) (by simp [Content.rod?, same])
    fun j y other at_j => ?_
  obtain ⟨c, here, rfl⟩ : ∃ c, cs[j]? = some c ∧ (c, j) = y := by simpa using at_j
  cases c with
  | loaded q => simp [Content.rod?, unique j q other here]
  | empty => rfl
  | gap => rfl
  | unknown => rfl

/-- No position holds a record of the id. -/
theorem findPosition_none {id : Nat} {cs : List Content} (absent : ∀ q, Content.loaded q ∈ cs → q.id ≠ id) :
    findPosition id cs = none := by
  refine List.findSome?_eq_none_iff.mpr fun p mem => ?_
  obtain ⟨c, j⟩ := p
  have held : c ∈ cs := List.mem_of_getElem? (List.mk_mem_zipIdx_iff_getElem?.mp mem)
  cases c with
  | loaded q => simp [Content.rod?, absent q held]
  | empty => rfl
  | gap => rfl
  | unknown => rfl

/-- A record of the id at one place of a lane only is found there. -/
theorem findInLane_of_unique {id k : Nat} {r : Rod} {rs : List Rod} (stands : rs[k]? = some r) (same : r.id = id)
    (unique : ∀ j q, j ≠ k → rs[j]? = some q → q.id ≠ id) : findInLane id rs = some (r, k) := by
  rw [findInLane, find?_eq_findSome?]
  refine findSome?_of_unique (k := k) (x := (r, k)) (by simp [stands]) (by simp [same]) fun j y other at_j => ?_
  obtain ⟨q, here, rfl⟩ : ∃ q, rs[j]? = some q ∧ (q, j) = y := by simpa using at_j
  simp [unique j q other here]

/-- No place of a lane holds a record of the id. -/
theorem findInLane_none {id : Nat} {rs : List Rod} (absent : ∀ q ∈ rs, q.id ≠ id) : findInLane id rs = none := by
  refine List.find?_eq_none.mpr fun p mem => ?_
  have held : p.1 ∈ rs := List.mem_of_getElem? (List.mk_mem_zipIdx_iff_getElem?.mp mem)
  simp [absent p.1 held]

section Holders
variable {d : Device} {id : Nat} {r : Rod}

/-- The staged record is found first (R4). -/
theorem Device.findRod_staged (staged : d.spread.slot = .loaded r) (same : r.id = id) :
    d.findRod id = some (r, .staged) := by
  simp [Device.findRod, staged, Slot.rod?, same]

/-- With no staged record of an id the search goes on (R4). -/
theorem Device.findRod_beyond (unstaged : ∀ q, d.spread.slot.rod? = some q → q.id ≠ id) :
    d.findRod id = d.findBeyond id := by
  unfold Device.findRod
  split
  · rename_i q staged
    exact if_neg (unstaged q staged)
  · rfl

theorem Device.findBeyond_position {k : Nat} (found : findPosition id d.track.positions = some (r, k)) :
    d.findBeyond id = some (r, .position k) := by
  simp only [Device.findBeyond, found]

/-- With no record of the id at a position the search goes on in the lanes (R4). -/
theorem Device.findBeyond_lane {l k : Nat} (untracked : ∀ q, Content.loaded q ∈ d.track.positions → q.id ≠ id)
    (stands : (d.acc.lanes[l]?.map LaneRt.records).bind (fun rs => rs[k]?) = some r) (same : r.id = id)
    (unique : ∀ m j q, (m, j) ≠ (l, k) → (d.acc.lanes[m]?.map LaneRt.records).bind (fun rs => rs[j]?) = some q →
      q.id ≠ id) : d.findBeyond id = some (r, .lane l k) := by
  obtain ⟨rs, lane, at_k⟩ := Option.bind_eq_some_iff.mp stands
  obtain ⟨x, at_l, rfl⟩ := Option.map_eq_some_iff.mp lane
  have inLane : findInLane id x.records = some (r, k) := findInLane_of_unique at_k same fun j q other at_j =>
    unique l j q (by simp [other]) (by simp [at_l, at_j])
  have inLanes : (d.acc.lanes.zipIdx.findSome? fun l => (findInLane id l.1.records).map fun q => (q.1, Holder.lane l.2 q.2))
      = some (r, .lane l k) := by
    refine findSome?_of_unique (k := l) (x := (x, l)) (by simp [at_l]) (by simp [inLane]) fun m y other at_m => ?_
    obtain ⟨z, here, rfl⟩ : ∃ z, d.acc.lanes[m]? = some z ∧ (z, m) = y := by simpa using at_m
    have absent : findInLane id z.records = none := findInLane_none fun q held => by
      obtain ⟨j, at_j⟩ := List.getElem?_of_mem held
      exact unique m j q (by simp [other]) (by simp [here, at_j])
    simp [absent]
  simp only [Device.findBeyond, findPosition_none untracked, inLanes]

/-- With no record of the id at a position or in a lane the search comes to the strip slot (R4). -/
theorem Device.findBeyond_last (untracked : ∀ q, Content.loaded q ∈ d.track.positions → q.id ≠ id)
    (unlaned : ∀ l ∈ d.acc.lanes, ∀ q ∈ l.records, q.id ≠ id) : d.findBeyond id =
      d.acc.slot.bind fun slot => if slot.rod.id = id then some (slot.rod, .strip) else none := by
  have inLanes : (d.acc.lanes.zipIdx.findSome? fun l => (findInLane id l.1.records).map fun q => (q.1, Holder.lane l.2 q.2))
      = none := by
    refine List.findSome?_eq_none_iff.mpr fun p mem => ?_
    have held : p.1 ∈ d.acc.lanes := List.mem_of_getElem? (List.mk_mem_zipIdx_iff_getElem?.mp mem)
    simp [findInLane_none (unlaned p.1 held)]
  simp only [Device.findBeyond, findPosition_none untracked, inLanes]
  cases d.acc.slot <;> rfl

/-- An id that no live record has is not found (R4). -/
theorem Device.findRod_none (dead : id ∉ d.liveIds) : d.findRod id = none := by
  have live {q : Rod} (held : q ∈ d.liveRods) : q.id ≠ id := fun same => dead (same ▸ List.mem_map_of_mem held)
  rw [Device.findRod_beyond fun q staged => live (by simp [Device.liveRods, staged]),
    Device.findBeyond_last (fun q held => live ?_) fun l held q mem => live ?_]
  · cases strips : d.acc.slot with
    | none => rfl
    | some slot => exact if_neg (live (by simp [Device.liveRods, strips]))
  · simp only [Device.liveRods, List.mem_append, List.mem_filterMap]
    exact .inl (.inl (.inr ⟨_, held, rfl⟩))
  · simp only [Device.liveRods, List.mem_append, List.mem_flatten, List.mem_map]
    exact .inl (.inr ⟨_, ⟨l, held, rfl⟩, mem⟩)

/-- The mark of a record that stands at one position only (R22). -/
theorem map_marked {k : Nat} {cs : List Content} (stands : cs[k]? = some (.loaded r)) (same : r.id = id)
    (unique : ∀ j q, j ≠ k → cs[j]? = some (.loaded q) → q.id ≠ id) :
    cs.map (Content.marked id) = cs.set k (.loaded r.marked) := by
  refine List.ext_getElem? fun j => ?_
  rw [List.getElem?_map, List.getElem?_set]
  by_cases here : k = j
  · subst here
    rw [if_pos rfl, if_pos (List.getElem?_eq_some_iff.mp stands).1, stands]
    show some (if r.id = id then Content.loaded r.marked else Content.loaded r) = _
    rw [if_pos same]
  · rw [if_neg here]
    cases at_j : cs[j]? with
    | none => rfl
    | some c =>
      cases c with
      | loaded q => simp [Content.marked, unique j q (Ne.symm here) at_j]
      | empty => rfl
      | gap => rfl
      | unknown => rfl

/-- ROD_FIND of a record that is found (R21). -/
theorem rodFind_found {h : Holder} (named : id ≠ 0) (found : d.findRod id = some (r, h)) :
    rodFind id d = (d, acceptedWith (h.bytes ++ (u8 1 ++ r.bytes))) := by
  rw [rodFind, if_neg named, found]

end Holders

/-- Settles O33: the search by holder, then the two requests on what it found. -/
theorem rodFindAndMark : Obligations.RodFindAndMark := by
  intro tag id s
  intro find mark d found marked refused
  have finds {a : Answer} (answer : rodFind id.toNat s.dev = (s.dev, a)) (turn : Turn find s) :
      exec find s = .next (Served find s s.dev a) := exec_answered rfl rfl rfl turn answer
  have marks {e : Device} {a : Answer} (answer : rodMark id.toNat s.dev = (e, a)) (turn : Turn mark s) :
      exec mark s = .next (Served mark s e a) := exec_answered rfl rfl rfl turn answer
  have nonzero (named : id ≠ 0) : id.toNat ≠ 0 := fun zero => named (BitVec.eq_of_toNat_eq zero)
  have refuses {r : Rod} {h : Holder} (named : id ≠ 0) (holder : d.findRod id.toNat = some (r, h))
      (still : ∀ k, h ≠ .position k) (unstaged : h ≠ .staged) : refused (wrongState .none) := by
    refine marks ?_
    rw [rodMark, if_neg (nonzero named), show s.dev.findRod id.toNat = some (r, h) from holder]
    cases h with
    | staged => exact absurd rfl unstaged
    | position k => exact absurd rfl (still k)
    | lane l k => rfl
    | strip => rfl
    | notLive => rfl
  refine ⟨fun zero => ?_, fun named dead => ?_, fun named r staged same => ?_,
    fun named k r unstaged stands same unique => ?_, fun named l k r unstaged untracked stands same unique => ?_,
    fun named x unstaged untracked unlaned strips same => ?_⟩
  · subst zero
    exact ⟨finds rfl, marks rfl⟩
  · have absent : s.dev.findRod id.toNat = none := Device.findRod_none dead
    refine ⟨finds ?_, marks ?_⟩
    · rw [rodFind, if_neg (nonzero named), absent]
      rfl
    · rw [rodMark, if_neg (nonzero named), absent]
  · have holder : s.dev.findRod id.toNat = some (r, .staged) := Device.findRod_staged staged same
    refine ⟨finds (rodFind_found (nonzero named) holder), marks ?_⟩
    rw [rodMark, if_neg (nonzero named), holder]
    rfl
  · have holder : s.dev.findRod id.toNat = some (r, .position k) :=
      (Device.findRod_beyond unstaged).trans (Device.findBeyond_position (findPosition_of_unique stands same unique))
    refine ⟨finds (rodFind_found (nonzero named) holder), marks ?_⟩
    rw [rodMark, if_neg (nonzero named), holder]
    dsimp only
    rw [map_marked stands same unique]
    rfl
  · have holder : s.dev.findRod id.toNat = some (r, .lane l k) :=
      (Device.findRod_beyond unstaged).trans (Device.findBeyond_lane untracked stands same unique)
    exact ⟨finds (rodFind_found (nonzero named) holder), refuses named holder nofun nofun⟩
  · have holder : s.dev.findRod id.toNat = some (x.rod, .strip) := by
      rw [Device.findRod_beyond unstaged, Device.findBeyond_last untracked unlaned,
        show s.dev.acc.slot = some x from strips]
      exact if_pos same
    exact ⟨finds (rodFind_found (nonzero named) holder), refuses named holder nofun nofun⟩

end Sys2Proof.Machine
end


section
/-! SUPPORT. The load's answers and its limit, and BATCH_NEW (R126, R140, R142, R145). -/

namespace Sys2Proof.Machine

/-- An answer with another number than the load in flight's answers none (R142). -/
theorem Device.loadAnswered_none {d : Device} {n : Nat} (foreign : ∀ l, d.spread.load = some l → l.number ≠ n) :
    d.loadAnswered n = none := by
  unfold Device.loadAnswered
  split
  · rename_i l flies
    exact if_neg fun h => foreign l flies h.1
  · rfl

/-- The late answers of the spreader (R142). -/
theorem lateLoad_answers {d : Device} {n : Nat} (foreign : ∀ l, d.spread.load = some l → l.number ≠ n) :
    d.loadDone n = d.bump .lateLoads ∧ d.loadFailed n = d.bump .lateLoads := by
  constructor
  · simp only [Device.loadDone, Device.loadAnswered_none foreign]
    rfl
  · simp only [Device.loadFailed, Device.loadAnswered_none foreign]
    rfl

/-- Settles O37: the limit, the late answers and the request. -/
theorem loadTimeoutAndBatchNew : Obligations.LoadTimeoutAndBatchNew := by
  refine ⟨fun s l flies loading => ?_, fun number s foreign => ⟨?_, ?_⟩, fun tag s turn => ?_⟩
  · show run (fun d => expire d.loadDeadline Device.loadExpired d) s = _
    have deadline : s.dev.loadDeadline = some (l.timer.start + l.timer.limit) := by
      simp [Device.loadDeadline, flies, Timer.deadline]
    have expires (e : Device) (same : e.spread.load = some l) : e.loadExpired =
        (e.endLoad.raise .spreaderTimeout (stationContext l.identity.side)).post (.retry .loadOutcome) := by
      simp only [Device.loadExpired, same]
    rw [run_after, deadline, expire_some,
      expires { s.dev with time := max s.dev.time (l.timer.start + l.timer.limit) } flies]
    simp [Device.endLoad, Device.raise, Device.post, stationContext]
  · exact congrArg (fun d => Host.Outcome.next (After s d)) (lateLoad_answers foreign).1
  · exact congrArg (fun d => Host.Outcome.next (After s d)) (lateLoad_answers foreign).2
  · exact exec_answered (own := batchNew) rfl rfl rfl turn rfl

/-- The answer to the load in flight completes it (R140). -/
theorem Device.loadDone_completes {d : Device} {l : Load} (flies : d.spread.load = some l) (loading : d.spread.slot = .loading) :
    d.loadDone l.number = d.completeLoad l := by
  simp [Device.loadDone, Device.loadAnswered, flies, loading]

/-! One station. -/

/-- Two changes of a station that do the same to it are the same. -/
theorem DieUnit.modify_congr {u : DieUnit} {side : Side} {f g : Station → Station}
    (agree : f (u.station side) = g (u.station side)) : u.modify side f = u.modify side g := by
  cases side with
  | a => exact congrArg (fun x => { u with stationA := x }) agree
  | b => exact congrArg (fun x => { u with stationB := x }) agree

theorem DieUnit.modify_self {u : DieUnit} {side : Side} {f : Station → Station}
    (still : f (u.station side) = u.station side) : u.modify side f = u := by
  rw [DieUnit.modify_congr (g := id) still]
  cases side <;> rfl

theorem DieUnit.modify_twice (u : DieUnit) (side : Side) (f g : Station → Station) :
    (u.modify side f).modify side g = u.modify side fun x => g (f x) := by
  cases side <;> rfl

/-- DIE_WEAR is raised once, at the service limit (R119, R126). -/
theorem Device.reportWear_copied {d : Device} {side : Side} {c : DieRecord} (copied : (d.station side).copy = some c) :
    d.reportWear side = { d with
      die := d.die.modify side fun x => { x with wearReported := x.wearReported || decide (c.limit ≤ c.wear) }
      mail := d.mail ++ if c.limit ≤ c.wear ∧ (d.station side).wearReported = false then
        [.raise .dieWear { station := some side }] else [] } := by
  unfold Device.reportWear
  simp only [copied]
  by_cases reports : c.limit ≤ c.wear ∧ (d.station side).wearReported = false
  · have raised : d.die.modify side (fun x => { x with wearReported := true })
        = d.die.modify side fun x => { x with wearReported := x.wearReported || decide (c.limit ≤ c.wear) } :=
      DieUnit.modify_congr (by simp [reports.1])
    rw [if_pos reports, if_pos reports, ← raised]
    rfl
  · have still : (d.die.modify side fun x => { x with wearReported := x.wearReported || decide (c.limit ≤ c.wear) }) = d.die := by
      refine DieUnit.modify_self ?_
      have : ((d.die.station side).wearReported || decide (c.limit ≤ c.wear)) = (d.die.station side).wearReported := by
        by_cases worn : c.limit ≤ c.wear
        · have : (d.station side).wearReported = true := by simpa [worn] using reports
          rw [show (d.die.station side).wearReported = true from this]
          rfl
        · simp [worn]
      rw [this]
    rw [if_neg reports, if_neg reports, still, List.append_nil]

/-- A completed load wears the die of the ACTIVE station (R126). -/
theorem Device.countWear_active {d : Device} {side : Side} {c : DieRecord} (active : d.die.active = some side)
    (copied : (d.station side).copy = some c) :
    let wear := min 4294967295 (c.wear + 1)
    d.countWear = { d with
      die := d.die.modify side fun x => { x with
        copy := some { c with wear := wear }, wearReported := x.wearReported || decide (c.limit ≤ wear) }
      mail := d.mail ++ if c.limit ≤ wear ∧ (d.station side).wearReported = false then
        [.raise .dieWear { station := some side }] else [] } := by
  intro wear
  have worn : d.die.modify side (fun x => { x with copy := x.copy.map fun c => { c with wear := min (size32 - 1) (c.wear + 1) } })
      = d.die.modify side fun x => { x with copy := some { c with wear := wear } } :=
    DieUnit.modify_congr (by rw [show (d.die.station side).copy = some c from copied]; rfl)
  simp only [Device.countWear, active, Device.modifyStation, worn]
  rw [Device.reportWear_copied (c := { c with wear := wear }) (by rw [Device.station]; cases side <;> rfl),
    DieUnit.modify_twice]
  have reported : (Device.station { d with die := d.die.modify side fun x => { x with copy := some { c with wear := wear } } }
      side).wearReported = (d.station side).wearReported := by cases side <;> rfl
  rw [reported]

/-- Without an ACTIVE station no die wears (R126). -/
theorem Device.countWear_none {d : Device} (inactive : d.die.active = none) : d.countWear = d := by
  simp only [Device.countWear, inactive]

/-- A report of wear is one of its own station. -/
theorem Device.reportWear_other {d : Device} {side o : Side} (apart : side ≠ o) :
    (d.reportWear o).station side = d.station side := by
  unfold Device.reportWear
  split
  · split
    · exact (Device.station_modifyStation o side _ d).trans (if_neg apart)
    · rfl
  · rfl

/-- A station that is not ACTIVE does not wear (R126). -/
theorem Device.countWear_other {d : Device} {side : Side} (other : d.die.active ≠ some side) :
    d.countWear.station side = d.station side := by
  unfold Device.countWear
  split
  · rename_i o active
    have apart : side ≠ o := fun same => other (same ▸ active)
    rw [Device.reportWear_other apart, Device.station_modifyStation, if_neg apart]
  · rfl

/-- The station of a unit that changes it. -/
theorem DieUnit.station_modify (u : DieUnit) (side : Side) (f : Station → Station) :
    (u.modify side f).station side = f (u.station side) := by
  cases side <;> rfl

/-- Settles O35: the completion by the station that is ACTIVE, and the late answer. -/
theorem loadDoneCreatesRecord : Obligations.LoadDoneCreatesRecord := by
  refine fun number s => ⟨fun l flies same loading => ?_, fun foreign =>
    congrArg (fun d => Host.Outcome.next (After s d)) (lateLoad_answers foreign).1⟩
  intro p
  let staged : Device := Device.bump .loadsDone { s.dev.assignId with spread := { s.dev.spread with
    slot := .loaded (s.dev.loadedRod l.identity), load := none, purge := s.dev.spread.purge - 1 } }
  have runs : exec (.loadDone number) s = .next (After s (staged.countWear.post (.retry .loadOutcome))) := by
    show Host.Outcome.next (After s (s.dev.loadDone number.toNat)) = _
    rw [← same, Device.loadDone_completes flies loading]
    rfl
  obtain ⟨-, -, -, track, pace, -, spread, acc, -, -, -, counts, -⟩ := staged.countWear_frame
  obtain ⟨low, high⟩ := s.dev.freeId_range
  refine ⟨_, s.dev.loadedRod l.identity, runs, rfl, ?_⟩
  rw [after_only]
  refine ⟨spread, rfl, rfl, rfl, rfl, rfl, rfl, ?_, low, high, fun few => Device.freeId_not_mem few, ?_, acc, pace, counts,
    List.mem_append_right _ (List.mem_singleton_self _), fun side c active copied => ?_, fun inactive => ?_, fun side other => ?_⟩
  · show _ = staged.countWear.track.lastId
    rw [track]
    rfl
  · show staged.countWear.track.positions = _
    rw [track]
    rfl
  · have worn := Device.countWear_active (d := staged) active copied
    intro wear x
    show staged.countWear.station side = _ ∧ staged.countWear.mail ++ [.retry .loadOutcome] = _
    rw [worn]
    exact ⟨DieUnit.station_modify _ _ _, rfl⟩
  · rw [Device.countWear_none (d := staged) inactive]
    rfl
  · exact Device.countWear_other (d := staged) other

end Sys2Proof.Machine
end


section
/-! SUPPORT. The events of the die carriage unit and their one DIE_STATE notice (R127), and how a die comes into its seat
(R117, R123). -/

namespace Sys2Proof.Machine

section Events
variable {act : Device → Device} {d e : Device} {side : Side}

/-- An event that changes a station's state, and neither the carriage's place nor its state, is told as such (R127). -/
theorem dieEvent_state (acts : act d = e) (position : e.die.position = d.die.position)
    (carriage : e.die.carriage = d.die.carriage) (moved : (e.station side).state ≠ (d.station side).state) :
    dieEvent act d = e.notifyDie .stationState := by
  have moved' : d.die.stationA.state ≠ e.die.stationA.state ∨ d.die.stationB.state ≠ e.die.stationB.state := by
    cases side with
    | a => exact .inl (Ne.symm moved)
    | b => exact .inr (Ne.symm moved)
  have changed : dieChanged d.die e.die = true := by
    rcases moved' with h | h <;> simp [dieChanged, h]
  have event : dieEventOf d.die e.die = .stationState := by
    simp [dieEventOf, position, carriage, moved']
  subst acts
  rw [dieEvent, if_pos changed, event]

/-- An event that changes a station's flag alone is told as such (R127). -/
theorem dieEvent_flag (acts : act d = e) (position : e.die.position = d.die.position)
    (carriage : e.die.carriage = d.die.carriage) (states : ∀ o, (e.station o).state = (d.station o).state)
    (asked : (e.station side).asked ≠ (d.station side).asked) : dieEvent act d = e.notifyDie .stationFlag := by
  have moved : d.die.stationA.asked ≠ e.die.stationA.asked ∨ d.die.stationB.asked ≠ e.die.stationB.asked := by
    cases side with
    | a => exact .inl (Ne.symm asked)
    | b => exact .inr (Ne.symm asked)
  have changed : dieChanged d.die e.die = true := by
    rcases moved with h | h <;> simp [dieChanged, h]
  have a : e.die.stationA.state = d.die.stationA.state := states .a
  have b : e.die.stationB.state = d.die.stationB.state := states .b
  have event : dieEventOf d.die e.die = .stationFlag := by
    simp [dieEventOf, position, carriage, a, b]
  subst acts
  rw [dieEvent, if_pos changed, event]

/-- An event that changes nothing places no notice (R127). -/
theorem dieEvent_still (acts : act d = d) : dieEvent act d = d := by
  have still : dieChanged d.die d.die = false := by simp [dieChanged]
  rw [dieEvent, acts]
  exact if_neg (by simp [still])

/-- An event that changes one station's state, and of the rest of the unit nothing (R127). -/
theorem dieEvent_modify (f : Station → Station) (acts : act d = e) (die : e.die = d.die.modify side f)
    (moved : (f (d.station side)).state ≠ (d.station side).state) : dieEvent act d = e.notifyDie .stationState := by
  refine dieEvent_state (side := side) acts ?_ ?_ ?_
  · rw [die]
    cases side <;> rfl
  · rw [die]
    cases side <;> rfl
  · rw [Device.station, die, DieUnit.station_modify]
    exact moved

/-- An event that changes one station's state, on a part of the same unit (R127). -/
theorem dieEvent_modifyOn {f : Station → Station} {d' : Device} (acts : act d = d'.modifyStation side f)
    (same : d'.die = d.die) (moved : (f (d.station side)).state ≠ (d.station side).state) :
    dieEvent act d = (d'.modifyStation side f).notifyDie .stationState :=
  dieEvent_modify f acts (by rw [← same]; rfl) moved

end Events

/-- A station entering READING, its read sent now (R118). -/
theorem Device.startRead_eq (side : Side) (f : Station → Station) (d : Device)
    (exchange : (f (d.station side)).exchange = (d.station side).exchange) :
    (d.modifyStation side f).startRead side =
      let n := ((d.station side).exchange + 1) % 256
      Device.modifyStation side (fun y =>
          { f y with state := .reading, reason := none, exchange := n, inFlight := some ⟨none, n, ⟨d.time, 500⟩⟩ })
        { d with bus := d.bus ++ [.memoryRead side n] } := by
  have number : ((d.modifyStation side f).station side).exchange = (d.station side).exchange := by
    rw [Device.station_modifyStation, if_pos rfl, exchange]
  simp only [Device.startRead, number]
  simp only [Device.modifyStation, DieUnit.modify_twice]
  rfl

/-- A part with one station changed twice is one with it changed at once. -/
theorem Device.modifyStation_twice (side : Side) (f g : Station → Station) (d : Device) :
    (d.modifyStation side f).modifyStation side g = d.modifyStation side fun x => g (f x) := by
  simp only [Device.modifyStation, DieUnit.modify_twice]

section Seats
variable {d : Device} {side : Side}

/-- A die arrives at an EMPTY station (R117). -/
theorem Device.presenceEvent_arrives (empty : (d.station side).state = .empty) (absent : (d.station side).presence = false) :
    d.presenceEvent side true = d.modifyStation side fun y =>
      { y with presence := true, state := .settling, debounce := some ⟨d.time, d.tables.die.debounce⟩ } := by
  simp only [Device.presenceEvent, absent, empty, Bool.false_eq_true, if_false, Device.modifyStation_twice]
  rfl

/-- A die leaves a station where it may (R117, R123). -/
theorem Device.presenceEvent_leaves (leaves : (d.station side).state = .settling ∨ (d.station side).state = .seated
      ∨ (d.station side).state = .rejected ∨ (d.station side).state = .released)
    (present : (d.station side).presence = true) :
    d.presenceEvent side false = d.modifyStation side fun y => Station.clear .empty { y with presence := false } := by
  rcases leaves with h | h | h | h <;> simp [Device.presenceEvent, present, h, Device.modifyStation_twice]

/-- The clamp opens on a die that is not in use (R123). -/
theorem Device.clampEvent_reseats (refused : (d.station side).state = .rejected ∨ (d.station side).state = .released)
    (closed : (d.station side).clamp = true) :
    d.clampEvent side false = d.modifyStation side fun y => Station.clear .seated { y with clamp := false } := by
  rcases refused with h | h <;> simp [Device.clampEvent, closed, h, Device.modifyStation_twice]

/-- The clamp closes on a SEATED die, which is read (R117). -/
theorem Device.clampEvent_reads (seated : (d.station side).state = .seated) (opened : (d.station side).clamp = false) :
    d.clampEvent side true = (d.modifyStation side fun y => { y with clamp := true }).startRead side := by
  simp only [Device.clampEvent, opened, seated, Bool.false_eq_true, if_false]

/-- The debounce ends with the clamp open, or with a read (R117). -/
theorem Device.debounceExpired_open (opened : (d.station side).clamp = false) :
    d.debounceExpired side = d.modifyStation side (Station.clear .seated) := by
  simp [Device.debounceExpired, opened]

theorem Device.debounceExpired_closed (closed : (d.station side).clamp = true) :
    d.debounceExpired side = (d.modifyStation side (Station.clear .seated)).startRead side := by
  simp [Device.debounceExpired, closed]

end Seats

/-- Settles O38: each event with what it makes of its station. -/
theorem dieSeats : Obligations.DieSeats := by
  intro side s d x changed n reading emptied
  have changes {act : Device → Device} {f : Station → Station} {e e' : Device} (acts : act e = e'.modifyStation side f)
      (same : e'.die = e.die) (moved : (f (e.station side)).state ≠ (e.station side).state) :
      Host.Outcome.next (After s (dieEvent act e)) = (.next (changed f e') : Host.Outcome State Fault Refusal) :=
    congrArg (fun e => Host.Outcome.next (After s e)) (dieEvent_modifyOn acts same moved)
  refine ⟨fun empty absent => ?_, fun leaves present => ?_, fun w counts settling => ?_, fun seated opened => ?_,
    fun refused closed => ?_⟩
  · exact changes (Device.presenceEvent_arrives empty absent) rfl fun h =>
      (by decide : StationState.settling ≠ .empty) (h.trans empty)
  · have stands : x.state ≠ .empty := by
      rcases leaves with h | h | h | h <;> rw [h] <;> decide
    exact changes (Device.presenceEvent_leaves leaves present) rfl fun h => stands h.symm
  · intro late
    have runs : exec (.debounceExpiry side) s = .next (After s (dieEvent (Device.debounceExpired side) late)) := by
      show run (fun d => expire (d.debounceDeadline side) (dieEvent (Device.debounceExpired side)) d) s = _
      have deadline : s.dev.debounceDeadline side = some (w.start + w.limit) :=
        (congrArg (Option.map Timer.deadline) counts).trans rfl
      rw [run_after, deadline, expire_some]
    refine ⟨fun opened => runs.trans ?_, fun closed => runs.trans ?_⟩
    · exact changes (Device.debounceExpired_open (d := late) opened) rfl fun h =>
        (by decide : StationState.seated ≠ .settling) (h.trans settling)
    · exact changes ((Device.debounceExpired_closed (d := late) closed).trans
          (Device.startRead_eq side (Station.clear .seated) late rfl)) rfl fun h =>
        (by decide : StationState.reading ≠ .settling) (h.trans settling)
  · exact changes ((Device.clampEvent_reads seated opened).trans
        (Device.startRead_eq side (fun y => { y with clamp := true }) s.dev rfl)) rfl fun h =>
      (by decide : StationState.reading ≠ .seated) (h.trans seated)
  · have stands : x.state ≠ .seated := by
      rcases refused with h | h <;> rw [h] <;> decide
    exact changes (Device.clampEvent_reseats refused closed) rfl fun h => stands h.symm

end Sys2Proof.Machine
end


section
/-! SUPPORT. The operator's button and the requests that name a station (R120, R121, R123, R128, R129). -/

namespace Sys2Proof.Machine

/-- A byte above 1 names no station. -/
theorem sideOf_beyond {b : Byte} (beyond : 1 < b.toNat) : sideOf b = none := by
  unfold sideOf
  have zero : b ≠ 0 := by rintro rfl; simp at beyond
  have one : b ≠ 1 := by rintro rfl; simp at beyond
  rw [if_neg zero, if_neg one]

/-- A request that names no station (R120 to R129). -/
theorem withSide_beyond {kind b : Byte} {act : Side → Device → Device × Answer} (d : Device) (beyond : 1 < b.toNat) :
    withSide kind b act d = (d, ⟨.fieldRange, Config.plainRangeDetail kind, []⟩) := by
  unfold withSide
  rw [sideOf_beyond beyond]
  rfl

/-- A read starts at a station (R118). -/
theorem Device.startRead_now (side : Side) (d : Device) : d.startRead side =
    let n := ((d.station side).exchange + 1) % 256
    Device.modifyStation side (fun y =>
        { y with state := .reading, reason := none, exchange := n, inFlight := some ⟨none, n, ⟨d.time, 500⟩⟩ })
      { d with bus := d.bus ++ [.memoryRead side n] } := rfl

/-- A released station with its wear written already, or its write-back started (R121, R122). -/
def Device.writtenBack (side : Side) (c : DieRecord) (d e : Device) : Device :=
  let x := d.station side
  let n := (x.exchange + 1) % 256
  if x.wearAtRead = some c.wear then e.modifyStation side fun y => { y with asked := false, state := .released }
  else { e.modifyStation side (fun y => { y with
           asked := false, state := .writing, exchange := n, inFlight := some ⟨some c.wear, n, ⟨d.time, 500⟩⟩ }) with
         bus := d.bus ++ [.memoryWrite side n c.wear c.sum] }

section Release
variable {d : Device} {side : Side} {c : DieRecord}

/-- A station whose flag is cleared writes its wear back (R121). -/
theorem Device.writeBack_kept {e : Device} (copied : (e.station side).copy = some c) :
    (e.modifyStation side fun x => { x with asked := false }).writeBack side = e.writtenBack side c e := by
  have station : (e.modifyStation side fun x => { x with asked := false }).station side =
      { e.station side with asked := false } := by rw [Device.station_modifyStation, if_pos rfl]
  unfold Device.writeBack Device.writtenBack
  rw [station]
  simp only [copied]
  split
  · rw [Device.modifyStation_twice]
  · unfold Device.startWrite
    rw [station]
    dsimp only
    rw [Device.modifyStation_twice]
    rfl

/-- A READY station that is released (R121). -/
theorem Device.release_ready (ready : (d.station side).state = .ready) (copied : (d.station side).copy = some c) :
    d.release side = d.writtenBack side c d := by
  rw [← Device.writeBack_kept copied, Device.release, if_neg (by rw [ready]; decide)]

/-- A part whose ACTIVE station is let go with a stop order (R121, R125). -/
def Device.letGo (d : Device) : Device :=
  { d with die := { d.die with active := none }, mail := d.mail ++ [.stop .dieRelease] }

/-- An ACTIVE station that is released with the press STOPPED (R121). -/
theorem Device.release_active (active : (d.station side).state = .active) (copied : (d.station side).copy = some c)
    (stopped : d.die.press = .stopped) : d.release side = d.writtenBack side c d.letGo := by
  have stays (e : Device) (same : e.die.press = .stopped) : e.stopPress = e := by
    simp only [Device.stopPress, same]
  have left : (d.modifyStation side fun x => { x with asked := false }).leaveActive.post (.stop .dieRelease) =
      d.letGo.modifyStation side fun x => { x with asked := false } := by
    rw [Device.leaveActive, stays _ (by cases side <;> exact stopped)]
    cases side <;> rfl
  have copied' : (d.letGo.station side).copy = some c := copied
  rw [Device.release, if_pos active, left, Device.writeBack_kept copied']
  rfl

/-- A released station's state changes, with the carriage where it was. -/
theorem Device.writtenBack_moves {e : Device}
    (ready : (d.station side).state = .ready ∨ (d.station side).state = .active) :
    ((d.writtenBack side c e).station side).state ≠ (d.station side).state
      ∧ (d.writtenBack side c e).die.position = e.die.position
      ∧ (d.writtenBack side c e).die.carriage = e.die.carriage := by
  have position (f : Station → Station) : (e.die.modify side f).position = e.die.position
      ∧ (e.die.modify side f).carriage = e.die.carriage := by cases side <;> exact ⟨rfl, rfl⟩
  unfold Device.writtenBack
  dsimp only
  split
  · refine ⟨?_, position _⟩
    rw [Device.station_modifyStation, if_pos rfl]
    rcases ready with h | h <;> simp [h]
  · refine ⟨?_, position _⟩
    show ((e.die.modify side _).station side).state ≠ _
    rw [DieUnit.station_modify]
    rcases ready with h | h <;> simp [h]

/-- The button's flag, or the host's, at a station whose other items stay (R120). -/
theorem dieEvent_asked {act : Device → Device} {v : Bool} (acts : act d = d.modifyStation side fun y => { y with asked := v })
    (moved : (d.station side).asked ≠ v) :
    dieEvent act d = (d.modifyStation side fun y => { y with asked := v }).notifyDie .stationFlag := by
  refine dieEvent_flag (side := side) acts ?_ ?_ (fun o => ?_) ?_
  · cases side <;> rfl
  · cases side <;> rfl
  · rw [Device.station_modifyStation]
    split
    · rename_i same
      rw [same]
    · rfl
  · rw [Device.station_modifyStation, if_pos rfl]
    exact Ne.symm moved

/-- The button on a station that is not in use, or has its flag set already (R120). -/
theorem Device.buttonEvent_still (still : (d.station side).asked = true
      ∨ ((d.station side).state ≠ .ready ∧ (d.station side).state ≠ .active)) : d.buttonEvent side = d := by
  rcases still with asked | ⟨one, two⟩
  · unfold Device.buttonEvent
    split
    · have : d.die.modify side (fun x => { x with asked := true }) = d.die :=
        DieUnit.modify_self (by rw [← show (d.die.station side).asked = true from asked])
      rw [Device.modifyStation, this]
    · rfl
  · exact if_neg (not_or.mpr ⟨one, two⟩)

end Release

/-- Settles O41: the button, then each request with its refusals. -/
theorem stationRequests : Obligations.StationRequests := by
  refine ⟨fun tag station s beyond => ?_, fun tag side s => ?_⟩
  · exact ⟨fun turn => exec_answered (own := dieRelease station) rfl rfl rfl turn (withSide_beyond _ beyond),
      fun turn => exec_answered (own := dieKeep station) rfl rfl rfl turn (withSide_beyond _ beyond),
      fun turn => exec_answered (own := dieReread station) rfl rfl rfl turn (withSide_beyond _ beyond)⟩
  · intro d x b keep release reread n written
    have named : sideOf b = some side := by cases side <;> rfl
    have acts {act : Side → Device → Device × Answer} {kind : Byte} {e : Device} {a : Answer}
        (answer : act side s.dev = (e, a)) : withSide kind b act s.dev = (e, a) := by
      unfold withSide
      rw [named]
      exact answer
    have releases {e : Device} (asked : x.asked = true)
        (free : ¬((s.dev.station side).state = .active ∧ s.dev.die.press ≠ .stopped))
        (event : dieEvent (Device.release side) s.dev = e) :
        (if (s.dev.station side).asked = false then (s.dev, wrongState .notAsked)
          else if (s.dev.station side).state = .active ∧ s.dev.die.press ≠ .stopped then (s.dev, wrongState .pressNotStopped)
          else (dieEvent (Device.release side) s.dev, accepted)) = (e, accepted) := by
      rw [if_neg (by simp [show (s.dev.station side).asked = true from asked]), if_neg free, event]
    refine ⟨fun ready clear => ?_, fun unmoved => ?_, fun turn => ⟨fun asked => ?_, fun clear => ?_⟩,
      fun turn => ⟨fun clear => ?_, fun asked active runs => ?_, fun c asked copied ready => ?_,
        fun c asked copied active stopped => ?_⟩, fun turn => ⟨fun one two => ?_, fun refused => ?_⟩⟩
    · exact congrArg (fun e => Host.Outcome.next (After s e)) (dieEvent_asked (if_pos ready) (by
        rw [show (s.dev.station side).asked = false from clear]
        decide))
    · exact congrArg (fun e => Host.Outcome.next (After s e)) (dieEvent_still (Device.buttonEvent_still unmoved))
    · refine exec_answered (own := dieKeep b) rfl rfl rfl turn (acts ((if_pos asked).trans ?_))
      exact congrArg (·, accepted) (dieEvent_asked rfl (by
        rw [show (s.dev.station side).asked = true from asked]
        decide))
    · exact exec_answered (own := dieKeep b) rfl rfl rfl turn (acts (if_neg (by simp [show (s.dev.station side).asked = false from clear])))
    · exact exec_answered (own := dieRelease b) rfl rfl rfl turn (acts (if_pos clear))
    · have asked : ¬(s.dev.station side).asked = false := by simp [show (s.dev.station side).asked = true from asked]
      exact exec_answered (own := dieRelease b) rfl rfl rfl turn (acts ((if_neg asked).trans (if_pos ⟨active, runs⟩)))
    · refine exec_answered (own := dieRelease b) rfl rfl rfl turn (acts (releases asked (fun h => ?_) ?_))
      · exact (by decide : StationState.ready ≠ .active) (ready.symm.trans h.1)
      · obtain ⟨moved, position, carriage⟩ := Device.writtenBack_moves (d := s.dev) (e := s.dev) (c := c) (.inl ready)
        exact dieEvent_state (Device.release_ready ready copied) position carriage moved
    · refine exec_answered (own := dieRelease b) rfl rfl rfl turn (acts (releases asked (fun h => h.2 stopped) ?_))
      obtain ⟨moved, position, carriage⟩ := Device.writtenBack_moves (d := s.dev) (e := s.dev.letGo) (c := c) (.inr active)
      exact dieEvent_state (Device.release_active active copied stopped) position carriage moved
    · exact exec_answered (own := dieReread b) rfl rfl rfl turn (acts (if_neg (not_or.mpr ⟨one, two⟩)))
    · refine exec_answered (own := dieReread b) rfl rfl rfl turn (acts ((if_pos refused).trans ?_))
      exact congrArg (·, accepted) (dieEvent_modifyOn (Device.startRead_now side s.dev) rfl fun h => by
        rcases refused with r | r <;> exact absurd (h.trans r) (by simp))

end Sys2Proof.Machine
end


section
/-! SUPPORT. The carriage: its moves, its query, and what they activate (R119, R128 to R130). -/

namespace Sys2Proof.Machine

section Carriage
variable {act : Device → Device} {d e : Device}

/-- An event that changes the carriage's state but not its place is told as such (R127). -/
theorem dieEvent_carriage (acts : act d = e) (position : e.die.position = d.die.position)
    (moved : e.die.carriage ≠ d.die.carriage) : dieEvent act d = e.notifyDie .carriageState := by
  have changed : dieChanged d.die e.die = true := by simp [dieChanged, Ne.symm moved]
  have event : dieEventOf d.die e.die = .carriageState := by simp [dieEventOf, position, Ne.symm moved]
  subst acts
  rw [dieEvent, if_pos changed, event]

/-- An event that changes the carriage's place is told as such (R127). -/
theorem dieEvent_position (acts : act d = e) (moved : e.die.position ≠ d.die.position) :
    dieEvent act d = e.notifyDie .carriagePosition := by
  have changed : dieChanged d.die e.die = true := by simp [dieChanged, Ne.symm moved]
  have event : dieEventOf d.die e.die = .carriagePosition := by simp [dieEventOf, Ne.symm moved]
  subst acts
  rw [dieEvent, if_pos changed, event]

end Carriage

/-- A part whose ACTIVE station, if any, is READY again (R128). -/
def Device.readied (d : Device) : Device :=
  match d.die.active with
  | some other => d.modifyStation other fun y => { y with state := .ready }
  | none => d

/-- A carriage move starts with the press STOPPED (R128). -/
theorem Device.startCarriage_stopped {d : Device} (side : Side) (stopped : d.die.press = .stopped) :
    d.startCarriage side = { d.readied with
      die := { d.readied.die with
        active := none
        carriage := .moving
        target := some side
        carriageTimer := some ⟨d.time, d.tables.die.carriageLimit * 1000⟩ }
      bus := d.bus ++ [.carriageMove side] } := by
  unfold Device.startCarriage Device.readied
  cases active : d.die.active with
  | some other =>
    have stays : d.leaveActive = { d with die := { d.die with active := none } } := by
      rw [Device.leaveActive, Device.stopPress]
      simp only [stopped]
    dsimp only
    rw [stays]
    cases other <;> rfl
  | none =>
    have die : { d.die with active := none } = d.die := by rw [← active]
    show Device.send _ _ = _
    rw [← die]
    rfl

/-- Settles O42: the refusals in their order, then the move. -/
theorem dieSwapMovesCarriage : Obligations.DieSwapMovesCarriage := by
  intro tag station s turn
  have answers {e : Device} {a : Answer} (answer : dieSwap station s.dev = (e, a)) :
      exec (.dieSwap tag station) s = .next (Served (.dieSwap tag station) s e a) :=
    exec_answered rfl rfl rfl turn answer
  refine ⟨fun beyond => answers (withSide_beyond _ beyond), fun side named => ?_⟩
  have side_eq : sideOf station = some side := by
    subst named
    cases side <;> rfl
  have swap : dieSwap station s.dev =
      if s.dev.die.press ≠ .stopped then (s.dev, wrongState .pressNotStopped)
      else if s.dev.die.carriage = .querying ∨ s.dev.die.carriage = .moving then (s.dev, wrongState .carriageBusy)
      else if (s.dev.station side).state ≠ .ready then (s.dev, wrongState .targetNotReady)
      else if s.dev.die.carriage = .idle ∧ s.dev.die.position = some side then (s.dev, wrongState .inPosition)
      else (dieEvent (Device.startCarriage side) s.dev, accepted) := by
    rw [dieSwap, withSide, side_eq]
  refine ⟨fun runs => answers (swap.trans (if_pos runs)), fun stopped busy => answers ?_,
    fun stopped free unready => answers ?_, fun stopped free ready there => answers ?_,
    fun stopped free ready away => answers ?_⟩
  · exact (swap.trans (if_neg (not_not.mpr stopped))).trans (if_pos busy)
  · exact ((swap.trans (if_neg (not_not.mpr stopped))).trans (if_neg free)).trans (if_pos unready)
  · exact (((swap.trans (if_neg (not_not.mpr stopped))).trans (if_neg free)).trans (if_neg (not_not.mpr ready))).trans
      (if_pos there)
  · refine ((((swap.trans (if_neg (not_not.mpr stopped))).trans (if_neg free)).trans (if_neg (not_not.mpr ready))).trans
      (if_neg away)).trans ?_
    have position : s.dev.readied.die.position = s.dev.die.position := by
      unfold Device.readied
      split
      · rename_i other _
        cases other <;> rfl
      · rfl
    refine congrArg (·, accepted) (dieEvent_carriage (Device.startCarriage_stopped side stopped) position fun same => ?_)
    exact free (.inr same.symm)

end Sys2Proof.Machine
end


section
/-! SUPPORT. How the carriage's query and moves end, and what they activate (R119, R128, R130). -/

namespace Sys2Proof.Machine

/-- A part whose READY station has become ACTIVE (R119, R126). -/
def Device.activated (side : Side) (c : DieRecord) (d : Device) : Device := { d with
  die := { d.die.modify side (fun y =>
      { y with state := .active, wearReported := y.wearReported || decide (c.limit ≤ c.wear) }) with
    active := some side
    identity := some ⟨side, c.id, c.format, c.holes⟩ }
  mail := d.mail ++ if c.limit ≤ c.wear ∧ (d.station side).wearReported = false then
    [.raise .dieWear { station := some side }] else [] }

/-- A fill decision keeps the batch and the purge count (R137). -/
theorem Device.fill_spread (d : Device) :
    d.fill.spread.batch = d.spread.batch ∧ d.fill.spread.purge = d.spread.purge := by
  obtain h | ⟨-, -, -, ⟨i, -, -, -, h⟩ | ⟨-, -, h⟩⟩ := d.fill_cases <;> rw [h] <;> exact ⟨rfl, rfl⟩

section Activate
variable {d : Device} {side : Side} {c : DieRecord} {byCarriage : Bool}

/-- A READY station at an IDLE carriage becomes ACTIVE where none is, with a fill decision (R119, R137). -/
theorem Device.activate_now (ready : (d.station side).state = .ready) (idle : d.die.carriage = .idle)
    (there : d.die.position = some side) (vacant : d.die.active = none) (copied : (d.station side).copy = some c) :
    d.activate byCarriage side =
      (if byCarriage then (d.activated side c).newBatch c.format else d.activated side c).fill := by
  have worn : Device.reportWear side { d.modifyStation side (fun x => { x with state := .active }) with
      die := { (d.modifyStation side fun x => { x with state := .active }).die with
        active := some side, identity := some ⟨side, c.id, c.format, c.holes⟩ } } = d.activated side c := by
    rw [Device.reportWear_copied (c := c) (by cases side <;> exact copied)]
    cases side <;> rfl
  rw [Device.activate, if_pos ⟨ready, idle, there, vacant⟩, copied]
  dsimp only
  rw [worn]

/-- A station does not become ACTIVE unless it is READY, at the carriage, and none is (R119). -/
theorem Device.activate_not (otherwise : (d.station side).state ≠ .ready ∨ d.die.active.isSome ∨ d.die.carriage ≠ .idle
    ∨ d.die.position ≠ some side) : d.activate byCarriage side = d := by
  refine if_neg ?_
  rintro ⟨ready, idle, there, vacant⟩
  rcases otherwise with h | h | h | h
  · exact h ready
  · simp [vacant] at h
  · exact h idle
  · exact h there

/-- An activation by a completion opens a batch, and one by the query or a read does not (R145, R146). -/
theorem Device.activate_spread (ready : (d.station side).state = .ready) (idle : d.die.carriage = .idle)
    (there : d.die.position = some side) (vacant : d.die.active = none) (copied : (d.station side).copy = some c) :
    (d.activate true side).spread.batch = (d.spread.batch + 1) % 65536
      ∧ (d.activate true side).spread.purge = (d.profile (d.tables.formatMap.getD c.format default).profile).purge := by
  rw [Device.activate_now ready idle there vacant copied, (Device.fill_spread _).1, (Device.fill_spread _).2]
  exact ⟨rfl, rfl⟩

/-- An activation without a completion keeps the batch and the purge count (R145, R146). -/
theorem Device.activate_batch (side : Side) (d : Device) : (d.activate false side).spread.batch = d.spread.batch
    ∧ (d.activate false side).spread.purge = d.spread.purge := by
  obtain same | ⟨c, ready, idle, there, vacant, copied⟩ := d.activate_cases false side
  · rw [same]
    exact ⟨rfl, rfl⟩
  · rw [Device.activate_now ready idle there vacant copied, (Device.fill_spread _).1, (Device.fill_spread _).2]
    exact ⟨rfl, rfl⟩

/-- What an activation, if it is one, leaves of the unit, and the tunnel (R119). -/
theorem Device.activate_unit (byCarriage : Bool) (side : Side) (d : Device) :
    (d.activate byCarriage side).die.position = d.die.position ∧ (d.activate byCarriage side).die.carriage = d.die.carriage
      ∧ (d.activate byCarriage side).die.carriageTimer = d.die.carriageTimer
      ∧ (d.activate byCarriage side).die.press = d.die.press ∧ (d.activate byCarriage side).track = d.track := by
  obtain same | ⟨c, ready, idle, there, vacant, copied⟩ := d.activate_cases byCarriage side
  · rw [same]
    exact ⟨rfl, rfl, rfl, rfl, rfl⟩
  · rw [Device.activate_now ready idle there vacant copied]
    obtain ⟨-, -, -, track, -, -, die, -⟩ := Device.fill_frame
      (if byCarriage then (d.activated side c).newBatch c.format else d.activated side c)
    rw [die, track]
    cases byCarriage <;> cases side <;> exact ⟨rfl, rfl, rfl, rfl, rfl⟩

/-- What an activation makes of its station and the unit (R119, R126). -/
theorem Device.activate_station (ready : (d.station side).state = .ready) (idle : d.die.carriage = .idle)
    (there : d.die.position = some side) (vacant : d.die.active = none) (copied : (d.station side).copy = some c) :
    let e := d.activate byCarriage side
    (e.station side).state = .active ∧ e.die.active = some side ∧ e.die.identity = some ⟨side, c.id, c.format, c.holes⟩
      ∧ (c.limit ≤ c.wear → (d.station side).wearReported = false →
          Mail.raise .dieWear { station := some side } ∈ e.mail ∧ (e.station side).wearReported = true) := by
  intro e
  have frame := Device.fill_frame (if byCarriage then (d.activated side c).newBatch c.format else d.activated side c)
  have acts : e = _ := Device.activate_now (byCarriage := byCarriage) ready idle there vacant copied
  have die : e.die = (d.activated side c).die := by
    rw [acts, frame.2.2.2.2.2.2.1]
    cases byCarriage <;> rfl
  have mail : e.mail = (d.activated side c).mail := by
    rw [acts, frame.2.2.2.2.2.2.2.2.2.2.2]
    cases byCarriage <;> rfl
  have station : e.station side = { d.station side with
      state := .active, wearReported := (d.station side).wearReported || decide (c.limit ≤ c.wear) } := by
    rw [Device.station, die]
    cases side <;> rfl
  rw [station, die, mail]
  refine ⟨rfl, rfl, rfl, fun worn unreported => ⟨?_, by simp [worn]⟩⟩
  refine List.mem_append_right _ ?_
  rw [if_pos ⟨worn, unreported⟩]
  exact List.mem_singleton_self _

end Activate

/-- What an event of the unit leaves to a reader of the unit's own, the track, the spreader unit and the mail. -/
theorem dieEvent_after (s : State) {act : Device → Device} {d e : Device} (acts : act d = e) :
    (After s (dieEvent act d)).dev.die = e.die ∧ (After s (dieEvent act d)).dev.track = e.track
      ∧ (After s (dieEvent act d)).dev.spread = e.spread ∧ (After s (dieEvent act d)).dev.mail = e.mail := by
  subst acts
  obtain ⟨-, -, -, track, -, -, die, spread, -, -, -, mail, -⟩ := dieEvent_frame act d
  rw [after_only]
  exact ⟨die, track, spread, mail⟩

/-- Settles O43: the query's ends, the move's, and the messages that are ignored. -/
theorem carriageEndsAndActivates : Obligations.CarriageEndsAndActivates := by
  intro side s d lost failed arrived activated kept
  have arrives (byCarriage : Bool) {act : Device → Device} (acts : act d = (d.carriageAt side).activate byCarriage side) :
      arrived (After s (dieEvent act d)) ∧ activated (After s (dieEvent act d)) ∧ kept (After s (dieEvent act d)) := by
    obtain ⟨die, track, spread, mail⟩ := dieEvent_after s acts
    have station (o : Side) : (After s (dieEvent act d)).dev.station o =
        ((d.carriageAt side).activate byCarriage side).station o := by rw [Device.station, die, Device.station]
    obtain ⟨position, carriage, timer, press, tunnel⟩ := (d.carriageAt side).activate_unit byCarriage side
    refine ⟨?_, fun c ready copied vacant => ?_, fun otherwise => ?_⟩
    · show _ ∧ _
      rw [die, track]
      exact ⟨position, carriage, timer, press, tunnel⟩
    · rw [station, die, mail]
      exact Device.activate_station (d := d.carriageAt side) ready rfl rfl vacant copied
    · have same : (d.carriageAt side).activate byCarriage side = d.carriageAt side := by
        refine Device.activate_not ?_
        rcases otherwise with h | h
        · exact .inl h
        · exact .inr (.inl h)
      rw [die, spread, same]
      refine ⟨rfl, rfl, rfl, fun o => ?_⟩
      rw [station, same]
      rfl
  have still {act : Device → Device} (acts : act d = d) : Host.Outcome.next (After s (dieEvent act d)) =
      (.next (After s d) : Host.Outcome State Fault Refusal) :=
    congrArg (fun e => Host.Outcome.next (After s e)) (dieEvent_still acts)
  have fails (e : Device) (same : e.die = d.die) (mail : e.mail = d.mail) {act : Device → Device}
      (acts : act e = e.queryFailed) (querying : d.die.carriage = .querying) :
      After s (dieEvent act e) = failed e := by
    have failing : e.queryFailed = { e with
        die := { d.die with carriage := .idle, carriageTimer := none }
        mail := d.mail ++ [.raise .carriageTimeout {}] } := by
      rw [← same, ← mail]
      rfl
    refine congrArg (After s) (dieEvent_carriage (acts.trans failing) (by rw [same]) fun h => ?_)
    exact (by decide : CarriageState.idle ≠ .querying) ((h.trans (congrArg DieUnit.carriage same)).trans querying)
  have loses (e : Device) (same : e.die = d.die) (mail : e.mail = d.mail) {act : Device → Device}
      (acts : act e = e.carriageLost) (moving : d.die.carriage = .moving) : After s (dieEvent act e) = lost e := by
    have losing : e.carriageLost = { e with
        die := { d.die with position := none, carriage := .lost, carriageTimer := none }
        mail := d.mail ++ [.raise .carriageTimeout { station := d.die.target }] } := by
      rw [← same, ← mail]
      rfl
    by_cases nowhere : d.die.position = none
    · refine congrArg (After s) ((dieEvent_carriage (acts.trans losing) ?_ fun h => ?_).trans ?_)
      · rw [same]
        exact nowhere.symm
      · exact (by decide : CarriageState.lost ≠ .moving) ((h.trans (congrArg DieUnit.carriage same)).trans moving)
      · rw [if_pos nowhere]
    · refine congrArg (After s) ((dieEvent_position (acts.trans losing) fun h => ?_).trans ?_)
      · exact nowhere ((h.trans (congrArg DieUnit.position same)).symm)
      · rw [if_neg nowhere]
  refine ⟨fun querying within => ?_, fun w querying counts => ?_, fun other station => ?_, fun away => ?_,
    fun moving => ?_, fun gone => ?_, fun rests station => ?_⟩
  · have opens : s.dev.queryOpen = true := by
      unfold Device.queryOpen
      split
      · rename_i w counts
        exact (Device.within_iff _ _).mpr (within w counts)
      · rfl
    have acts : Device.queryAnswer (some side) s.dev = (s.dev.carriageAt side).activate false side :=
      if_pos ⟨querying, opens⟩
    obtain ⟨there, active, keeps⟩ := arrives false acts
    obtain ⟨-, -, spread, -⟩ := dieEvent_after s acts
    obtain ⟨batch, purge⟩ := Device.activate_batch side (s.dev.carriageAt side)
    refine ⟨⟨_, rfl, there, active, keeps, ?_, ?_⟩,
      congrArg Host.Outcome.next (fails d rfl rfl (if_pos ⟨querying, opens⟩) querying)⟩
    · exact (congrArg Spreader.batch spread).trans batch
    · exact (congrArg Spreader.purge spread).trans purge
  · refine ⟨?_, fun late station => ?_⟩
    · show run (fun d => expire d.queryDeadline (dieEvent Device.queryFailed) d) s = _
      have deadline : s.dev.queryDeadline = some (w.start + w.limit) := by
        simp [Device.queryDeadline, show s.dev.die.carriage = _ from querying, show s.dev.die.carriageTimer = _ from counts,
          Timer.deadline]
      rw [run_after, deadline, expire_some]
      exact congrArg Host.Outcome.next
        (fails { s.dev with time := max s.dev.time (w.start + w.limit) } rfl rfl rfl querying)
    · refine still (if_neg fun h => ?_)
      have open_ : s.dev.queryOpen = true := h.2
      unfold Device.queryOpen at open_
      rw [show s.dev.die.carriageTimer = some w from counts] at open_
      exact absurd ((Device.within_iff _ _).mp open_) (Nat.not_le.mpr late)
  · exact still (if_neg fun h => other h.1)
  · have acts : Device.carriageDone (some side) s.dev = (s.dev.carriageAt side).activate true side := by
      unfold Device.carriageDone
      rcases away with h | h <;> rw [show s.dev.die.carriage = _ from h]
    obtain ⟨there, active, keeps⟩ := arrives true acts
    obtain ⟨-, -, spread, -⟩ := dieEvent_after s acts
    refine ⟨_, rfl, there, active, keeps, fun c ready copied vacant => ?_⟩
    obtain ⟨batch, purge⟩ := Device.activate_spread (d := s.dev.carriageAt side) ready rfl rfl vacant copied
    exact ⟨(congrArg Spreader.batch spread).trans batch, (congrArg Spreader.purge spread).trans purge⟩
  · refine ⟨congrArg Host.Outcome.next (loses d rfl rfl ?_ moving), fun w counts => ?_⟩
    · unfold Device.carriageDone
      rw [show d.die.carriage = .moving from moving]
    · show run (fun d => expire d.carriageDeadline (dieEvent Device.carriageLost) d) s = _
      have deadline : s.dev.carriageDeadline = some (w.start + w.limit) := by
        simp [Device.carriageDeadline, show s.dev.die.carriage = _ from moving,
          show s.dev.die.carriageTimer = _ from counts, Timer.deadline]
      rw [run_after, deadline, expire_some]
      exact congrArg Host.Outcome.next
        (loses { s.dev with time := max s.dev.time (w.start + w.limit) } rfl rfl rfl moving)
  · refine still ?_
    unfold Device.carriageDone
    rw [show d.die.carriage = .lost from gone]
  · refine still ?_
    unfold Device.carriageDone
    rcases rests with h | h <;> rw [show d.die.carriage = _ from h]

end Sys2Proof.Machine
end


section
/-! SUPPORT. The surprise removal of a die (R124, R125). -/

namespace Sys2Proof.Machine

/-- The raises of a surprise removal (R124). -/
def surpriseMail (side : Side) (lost : Bool) : List Mail :=
  [.raise .dieSurpriseRemoval { station := some side }]
    ++ (if lost then [.raise .dieWritebackLost { station := some side }] else [])

/-- Whether the removal of a station's die is a surprise (R124). -/
def Station.inUse (y : Station) : Prop := y.state = .reading ∨ y.state = .ready ∨ y.state = .active ∨ y.state = .writing

section Removal
variable {d : Device} {side : Side}

/-- A die in use leaves its station (R124). -/
theorem Device.presenceEvent_surprise (used : (d.station side).inUse) (present : (d.station side).presence = true) :
    d.presenceEvent side false = (d.modifyStation side fun x => { x with presence := false }).surprise side .empty := by
  rcases used with h | h | h | h <;> simp [Device.presenceEvent, present, h]

/-- The clamp opens on a die in use (R124). -/
theorem Device.clampEvent_surprise (used : (d.station side).inUse) (closed : (d.station side).clamp = true) :
    d.clampEvent side false = (d.modifyStation side fun x => { x with clamp := false }).surprise side .seated := by
  rcases used with h | h | h | h <;> simp [Device.clampEvent, closed, h]

/-- A surprise removal of a die that is not ACTIVE changes its station and raises the faults (R124). -/
theorem Device.surprise_quiet (dest : StationState) (quiet : (d.station side).state ≠ .active) :
    d.surprise side dest = { d.modifyStation side (Station.clear dest) with
      mail := d.mail ++ surpriseMail side (d.station side).losesWear } := by
  unfold Device.surprise surpriseMail
  dsimp only
  rw [if_neg quiet]
  cases lost : (d.station side).losesWear with
  | true =>
    simp only [if_true, ← List.append_assoc]
    rfl
  | false => rfl

/-- A surprise removal of the ACTIVE die, which leaves ACTIVE first (R124, R125). -/
theorem Device.surprise_active (dest : StationState) (active : (d.station side).state = .active) :
    d.surprise side dest = { d.leaveActive.modifyStation side (Station.clear dest) with
      mail := d.mail ++ surpriseMail side (d.station side).losesWear } := by
  have mail : d.leaveActive.mail = d.mail := by simp
  unfold Device.surprise surpriseMail
  dsimp only
  rw [if_pos active, ← mail]
  cases lost : (d.station side).losesWear with
  | true =>
    simp only [if_true, ← List.append_assoc]
    rfl
  | false => rfl

end Removal

/-- A stop order at a press that starts or runs (R131). -/
theorem Device.stopPress_pressed {d : Device} (pressed : d.die.press = .starting ∨ d.die.press = .running) :
    d.stopPress = Device.notifyDie .pressState { d with
      die := { d.die with press := .stopping, pressTimer := some ⟨d.time, 10000⟩ }
      bus := d.bus ++ [.pressStop] } := by
  have other : d.die.press ≠ .stopping := by
    rcases pressed with h | h <;> rw [h] <;> decide
  obtain ⟨-, h⟩ | ⟨rests, -⟩ := d.stopPress_cases
  · rw [h, Device.setPress]
    exact (if_neg other).trans (if_neg (by decide))
  · rcases pressed with h | h <;> rw [h] at rests <;> simp at rests

/-- A stop order at a press that stops or stands (R131). -/
theorem Device.stopPress_unpressed {d : Device} (unpressed : ¬(d.die.press = .starting ∨ d.die.press = .running)) :
    d.stopPress = d := by
  obtain ⟨pressed, -⟩ | ⟨-, h⟩ := d.stopPress_cases
  · exact absurd pressed unpressed
  · exact h

/-- What leaving ACTIVE makes of the press (R125, R131). -/
theorem Device.leaveActive_press (d : Device) :
    ((d.die.press = .starting ∨ d.die.press = .running) →
        d.leaveActive.die = { d.die with active := none, press := .stopping, pressTimer := some ⟨d.time, 10000⟩ }
          ∧ d.leaveActive.bus = d.bus ++ [.pressStop])
      ∧ (¬(d.die.press = .starting ∨ d.die.press = .running) →
        d.leaveActive.die = { d.die with active := none } ∧ d.leaveActive.bus = d.bus) := by
  refine ⟨fun pressed => ?_, fun unpressed => ?_⟩
  · rw [Device.leaveActive, Device.stopPress_pressed (d := { d with die := { d.die with active := none } }) pressed]
    exact ⟨Device.notifyDie_die _ _, Device.notifyDie_bus _ _⟩
  · rw [Device.leaveActive, Device.stopPress_unpressed (d := { d with die := { d.die with active := none } }) unpressed]
    exact ⟨rfl, rfl⟩

/-- Changing a station keeps the other. -/
theorem DieUnit.station_modify_other {side o : Side} (other : o ≠ side) (f : Station → Station) (u : DieUnit) :
    (u.modify side f).station o = u.station o := by
  cases side <;> cases o <;> trivial

/-- The unit after the ACTIVE die was removed: its station cleared, the pointer NONE, and the press (R124, R125). -/
theorem Device.surprise_unit {d : Device} {side : Side} {f : Station → Station} {dest : StationState}
    (active : (f (d.station side)).state = .active) :
    let e := (d.modifyStation side f).surprise side dest
    let pressed := d.die.press = .starting ∨ d.die.press = .running
    e.station side = Station.clear dest (f (d.station side)) ∧ (∀ o, o ≠ side → e.station o = d.station o)
      ∧ e.die.active = none ∧ e.die.identity = d.die.identity
      ∧ e.mail = d.mail ++ surpriseMail side (f (d.station side)).losesWear
      ∧ (pressed → e.die.press = .stopping ∧ e.bus = d.bus ++ [.pressStop] ∧ e.die.pressTimer = some ⟨d.time, 10000⟩)
      ∧ (¬pressed → e.die.press = d.die.press ∧ e.bus = d.bus)
      ∧ e.die.carriage = d.die.carriage ∧ e.die.position = d.die.position ∧ e.track = d.track := by
  intro e pressed
  have station : (d.modifyStation side f).station side = f (d.station side) := by
    rw [Device.station_modifyStation, if_pos rfl]
  have acts : e = _ := Device.surprise_active dest (station ▸ active)
  rw [station] at acts
  obtain ⟨left, -⟩ := d.leaveActive_modifyStation side f
  obtain ⟨runs, rests⟩ := d.leaveActive_press
  have track : (d.modifyStation side f).leaveActive.track = d.track := by
    simp only [Device.leaveActive_frame]
    rfl
  have bus : (d.modifyStation side f).leaveActive.bus = d.leaveActive.bus := by
    have pressed' : (d.modifyStation side f).die.press = d.die.press := by cases side <;> rfl
    obtain ⟨runs', rests'⟩ := (d.modifyStation side f).leaveActive_press
    rw [pressed'] at runs' rests'
    by_cases h : pressed
    · exact (runs' h).2.trans (runs h).2.symm
    · exact (rests' h).2.trans (rests h).2.symm
  have die : e.die = d.leaveActive.die.modify side fun x => Station.clear dest (f x) := by
    rw [acts, ← DieUnit.modify_twice, ← left]
    rfl
  have bus' : e.bus = d.leaveActive.bus := by rw [acts, ← bus]; rfl
  have track' : e.track = d.track := by rw [acts, ← track]; rfl
  have mail' : e.mail = d.mail ++ surpriseMail side (f (d.station side)).losesWear := by rw [acts]; rfl
  have stations (o : Side) : e.station o = (d.leaveActive.die.modify side fun x => Station.clear dest (f x)).station o := by
    rw [Device.station, die]
  simp only [stations]
  rw [die, bus', track', mail']
  by_cases h : pressed
  · rw [(runs h).1, (runs h).2]
    refine ⟨?_, fun o other => ?_, ?_⟩
    · cases side <;> rfl
    · rw [DieUnit.station_modify_other other]
      rfl
    · cases side <;> exact ⟨rfl, rfl, rfl, fun _ => ⟨rfl, rfl, rfl⟩, fun n => absurd h n, rfl, rfl, rfl⟩
  · rw [(rests h).1, (rests h).2]
    refine ⟨?_, fun o other => ?_, ?_⟩
    · cases side <;> rfl
    · rw [DieUnit.station_modify_other other]
      rfl
    · cases side <;> exact ⟨rfl, rfl, rfl, fun n => absurd n h, fun _ => ⟨rfl, rfl⟩, rfl, rfl, rfl⟩

/-- Settles O40: the ACTIVE die's removal, and the removals that stop nothing, by either input. -/
theorem surpriseRemovalFromEachState : Obligations.SurpriseRemovalFromEachState := by
  intro side s x emptied raised pressed outcome quiet removed
  have quietly {act : Device → Device} {f : Station → Station} {dest : StationState} {lost : Bool} {y : Station}
      (acts : act s.dev = (s.dev.modifyStation side f).surprise side dest)
      (cleared : Station.clear dest (f x) = emptied y)
      (state : (f x).state = x.state) (idle : x.state ≠ .active) (moved : dest ≠ x.state)
      (loses : (f x).losesWear = lost) :
      Host.Outcome.next (After s (dieEvent act s.dev)) = (.next (After s (Device.notifyDie .stationState
        { s.dev.modifyStation side (fun _ => emptied y) with mail := raised lost })) :
        Host.Outcome State Fault Refusal) := by
    have station : (s.dev.modifyStation side f).station side = f x := by
      rw [Device.station_modifyStation, if_pos rfl]
    have modified : (s.dev.modifyStation side f).surprise side dest =
        { s.dev.modifyStation side (fun _ => emptied y) with mail := raised lost } := by
      rw [Device.surprise_quiet dest (by rw [station, state]; exact idle), station, loses, Device.modifyStation_twice]
      have same : s.dev.die.modify side (fun z => Station.clear dest (f z)) = s.dev.die.modify side fun _ => emptied y :=
        DieUnit.modify_congr cleared
      simp only [Device.modifyStation, same, raised, surpriseMail, List.append_assoc]
    refine congrArg (fun e => Host.Outcome.next (After s e))
      (dieEvent_modify (fun _ => emptied y) (acts.trans modified) rfl fun h => moved ?_)
    have entered : (emptied y).state = dest := by rw [← cleared]; rfl
    exact entered.symm.trans h
  have actively {act : Device → Device} {f : Station → Station} {dest : StationState} {lost : Bool} {y : Station} {i : Instr}
      (runs : exec i s = .next (After s (dieEvent act s.dev)))
      (acts : act s.dev = (s.dev.modifyStation side f).surprise side dest)
      (cleared : Station.clear dest (f x) = emptied y) (active : (f x).state = .active)
      (loses : (f x).losesWear = lost) : outcome lost i y := by
    have unit := Device.surprise_unit (d := s.dev) (dest := dest) active
    rw [← acts] at unit
    obtain ⟨-, -, -, track, -, -, die, -, -, -, -, mail, bus⟩ := dieEvent_frame act s.dev
    refine ⟨_, runs, ?_⟩
    rw [after_only]
    dsimp only [Device.station]
    rw [die, track, mail, bus, ← cleared, ← loses]
    obtain ⟨station, others, pointer, identity, mails, rest⟩ := unit
    exact ⟨station, others, pointer, identity, mails.trans (List.append_assoc _ _ _).symm, rest⟩
  have activeRemoved {lost : Bool} (active : x.state = .active) (loses : x.losesWear = lost) : removed (outcome lost) :=
    ⟨fun present => actively rfl (Device.presenceEvent_surprise (.inr (.inr (.inl active))) present) rfl active loses,
      fun closed => actively rfl (Device.clampEvent_surprise (.inr (.inr (.inl active))) closed) rfl active loses⟩
  have quietRemoved {lost : Bool} (used : x.inUse) (idle : x.state ≠ .active) (loses : x.losesWear = lost) :
      removed (quiet lost) := by
    have empty : StationState.empty ≠ x.state := by
      rcases used with h | h | h | h <;> rw [h] <;> decide
    have seated : StationState.seated ≠ x.state := by
      rcases used with h | h | h | h <;> rw [h] <;> decide
    exact ⟨fun present => quietly (Device.presenceEvent_surprise used present) rfl rfl idle empty loses,
      fun closed => quietly (Device.clampEvent_surprise used closed) rfl rfl idle seated loses⟩
  refine ⟨fun c active copied => activeRemoved active ?_,
    fun reading => quietRemoved (.inl reading) (by rw [reading]; decide) ?_,
    fun c ready copied => quietRemoved (.inr (.inl ready)) (by rw [ready]; decide) ?_,
    fun writing => quietRemoved (.inr (.inr (.inr writing))) (by rw [writing]; decide) ?_⟩
  · rw [Station.losesWear, active, copied]
  · rw [Station.losesWear, reading]
  · rw [Station.losesWear, ready, copied]
  · rw [Station.losesWear, writing]

end Sys2Proof.Machine
end


section
/-! SUPPORT. The outcomes of die memory exchanges (R115, R118, R119, R122). -/

namespace Sys2Proof.Machine

/-- A number in four bytes is read back. -/
theorem leNat_u32 {n : Nat} (h : n < 4294967296) : leNat (u32 n) = n := by
  simp [u32, u16, leNat]; omega

/-- A record whose check and fields pass (R115). -/
def DieRecord.good (r : DieRecord) : Prop := r.check = r.sum ∧ r.format ≤ 63 ∧ 1 ≤ r.holes ∧ r.holes ≤ 2000

/-- A record's own bytes are taken for it where its check and fields pass (R115). -/
theorem dieRecordOf_bytes {r : DieRecord} (id : r.id < 4294967296) (format : r.format < 256) (holes : r.holes < 65536)
    (wear : r.wear < 4294967296) (limit : r.limit < 4294967296) (check : r.check < 65536) :
    (r.good → dieRecordOf r.bytes = some r) ∧ (¬r.good → dieRecordOf r.bytes = none) := by
  have fields : (⟨leNat (r.bytes.take 4), leNat ((r.bytes.drop 4).take 1), leNat ((r.bytes.drop 5).take 2),
      leNat ((r.bytes.drop 7).take 4), leNat ((r.bytes.drop 11).take 4), leNat (r.bytes.drop 15)⟩ : DieRecord) = r := by
    show (⟨leNat (u32 r.id), leNat (u8 r.format), leNat (u16 r.holes), leNat (u32 r.wear), leNat (u32 r.limit),
      leNat (u16 r.check)⟩ : DieRecord) = r
    rw [leNat_u32 id, leNat_u8 format, leNat_u16 holes, leNat_u32 wear, leNat_u32 limit, leNat_u16 check]
  unfold dieRecordOf
  rw [fields]
  exact ⟨fun good => if_pos ⟨rfl, good⟩, fun bad => if_neg fun h => bad h.2⟩

section Outcomes
variable {d : Device} {side : Side}

/-- An answer is taken by the exchange in flight that it answers. -/
theorem Station.answers_some {x : Station} {e : DieExchange} {write : Bool} (flies : x.inFlight = some e)
    (kind : e.write.isSome = write) : x.answers write e.number = some e := by
  unfold Station.answers
  rw [flies]
  exact if_pos ⟨rfl, kind⟩

/-- An answer of another number, or to an exchange of the other kind, answers nothing. -/
theorem Station.answers_none {x : Station} {number : Nat} {write : Bool}
    (other : ∀ e, x.inFlight = some e → e.number ≠ number ∨ e.write.isSome ≠ write) : x.answers write number = none := by
  unfold Station.answers
  split
  · rename_i e flies
    refine if_neg ?_
    rintro ⟨same, kind⟩
    rcases other e flies with h | h
    · exact h same
    · exact h kind
  · rfl

/-- The bytes, or the error, of the read in flight (R118). -/
theorem Device.memoryReadReply_bytes {bytes : List Byte} {number : Nat} {e : DieExchange}
    (answers : (d.station side).answers false number = some e) :
    d.memoryReadReply side number (some bytes) = d.readRecord side bytes := by
  rw [Device.memoryReadReply, answers]

theorem Device.memoryReadReply_failed {number : Nat} {e : DieExchange}
    (answers : (d.station side).answers false number = some e) :
    d.memoryReadReply side number none = d.reject side .readFailed := by
  rw [Device.memoryReadReply, answers]

/-- A record whose read makes its station READY (R118). -/
def Station.readied (r : DieRecord) (y : Station) : Station :=
  { y with state := .ready, reason := none, copy := some r, wearAtRead := some r.wear, wearReported := false,
           inFlight := none }

/-- A read of a good record of a format in use makes its station READY, and ACTIVE where it may be (R118, R119). -/
theorem Device.readRecord_mapped {bytes : List Byte} {r : DieRecord} (good : dieRecordOf bytes = some r)
    (mapped : (d.tables.formatMap.getD r.format default).enabled = true) :
    d.readRecord side bytes = (d.modifyStation side (Station.readied r)).activate false side := by
  unfold Device.readRecord
  rw [good]
  exact if_pos mapped

/-- Bytes that are no good record, and a good record of a format out of use, are refused (R118). -/
theorem Device.readRecord_failed {bytes : List Byte} (bad : dieRecordOf bytes = none) :
    d.readRecord side bytes = d.reject side .checkFailed := by
  rw [Device.readRecord, bad]

theorem Device.readRecord_unmapped {bytes : List Byte} {r : DieRecord} (good : dieRecordOf bytes = some r)
    (unmapped : (d.tables.formatMap.getD r.format default).enabled = false) :
    d.readRecord side bytes = d.reject side .formatUnmapped := by
  unfold Device.readRecord
  rw [good]
  exact if_neg (by rw [unmapped]; decide)

/-- A station READY just now that becomes ACTIVE, with DIE_WEAR where it is due (R119, R126). -/
theorem Device.activated_readied (side : Side) (r : DieRecord) (d : Device) :
    (d.modifyStation side (Station.readied r)).activated side r =
      let worn := decide (r.limit ≤ r.wear)
      let e := d.modifyStation side fun y =>
        { y with state := .active, reason := none, copy := some r, wearAtRead := some r.wear, wearReported := worn,
                 inFlight := none }
      { e with
        die := { e.die with active := some side, identity := some ⟨side, r.id, r.format, r.holes⟩ }
        mail := d.mail ++ if worn then [.raise .dieWear { station := some side }] else [] } := by
  have reported : ((d.modifyStation side (Station.readied r)).station side).wearReported = false := by
    rw [Device.station_modifyStation, if_pos rfl]
    rfl
  unfold Device.activated
  rw [reported]
  simp only [and_true, decide_eq_true_eq]
  cases side <;> rfl

end Outcomes

/-- Settles O39: the reads, by what the bytes hold, and the write-backs. -/
theorem dieMemoryOutcomes : Obligations.DieMemoryOutcomes := by
  have still {s : State} {act : Device → Device} (acts : act s.dev = s.dev) :
      Host.Outcome.next (After s (dieEvent act s.dev)) = (.next (After s s.dev) : Host.Outcome State Fault Refusal) :=
    congrArg (fun e => Host.Outcome.next (After s e)) (dieEvent_still acts)
  have moves {s : State} {side : Side} {act : Device → Device} {e e' : Device} (f : Station → Station)
      (acts : act e = e') (die : e'.die = e.die.modify side f)
      (moved : (f (e.station side)).state ≠ (e.station side).state) :
      Host.Outcome.next (After s (dieEvent act e)) =
        (.next (After s (e'.notifyDie .stationState)) : Host.Outcome State Fault Refusal) :=
    congrArg (fun e => Host.Outcome.next (After s e)) (dieEvent_modify f acts die moved)
  refine ⟨fun side number s => ?_, fun side number s => ?_⟩
  · intro d rejected
    have rejects (e : Device) (same : e.die = d.die) (mail : e.mail = d.mail) (why : RejectReason) {act : Device → Device}
        (acts : act e = e.reject side why) (reading : (d.station side).state = .reading) :
        Host.Outcome.next (After s (dieEvent act e)) =
          (.next (rejected e why) : Host.Outcome State Fault Refusal) := by
      refine moves (fun y => { y with state := .rejected, reason := some why, inFlight := none }) (acts.trans ?_) rfl
        fun h => ?_
      · rw [← mail]
        rfl
      · rw [Device.station, same] at h
        exact (by decide : StationState.rejected ≠ .reading) (h.trans reading)
    refine ⟨fun w flies reading => ?_, fun bytes other => still ?_⟩
    · have answered : (d.station side).answers false number.toNat = some ⟨none, number.toNat, w⟩ :=
        Station.answers_some (e := ⟨none, number.toNat, w⟩) flies rfl
      refine ⟨rejects d rfl rfl .readFailed (Device.memoryReadReply_failed answered) reading, ?_, ?_⟩
      · show run (fun d => expire (d.memoryDeadline side) (dieEvent (Device.memoryExpired side)) d) s = _
        have deadline : s.dev.memoryDeadline side = some (w.start + w.limit) :=
          (congrArg (Option.map fun e : DieExchange => e.timer.deadline) flies).trans rfl
        rw [run_after, deadline, expire_some]
        refine rejects { s.dev with time := max s.dev.time (w.start + w.limit) } rfl rfl .readFailed ?_ reading
        unfold Device.memoryExpired
        rw [show Station.inFlight (Device.station { s.dev with time := max s.dev.time (w.start + w.limit) } side) = _
          from flies]
      · intro r id format holes wear limit check head good i mapped
        obtain ⟨passes, fails⟩ := dieRecordOf_bytes id format holes wear limit check
        refine ⟨fun bad => ?_, fun ok unmapped => ?_, fun ok inUse elsewhere => ?_, fun ok inUse vacant idle there => ?_⟩
        · exact rejects d rfl rfl .checkFailed
            ((Device.memoryReadReply_bytes answered).trans (Device.readRecord_failed (fails bad))) reading
        · exact rejects d rfl rfl .formatUnmapped ((Device.memoryReadReply_bytes answered).trans
            (Device.readRecord_unmapped (d := s.dev) (passes ok) unmapped)) reading
        · have stays : (s.dev.modifyStation side (Station.readied r)).activate false side =
              s.dev.modifyStation side (Station.readied r) := by
            refine Device.activate_not (.inr ?_)
            cases side <;> exact elsewhere
          exact moves (Station.readied r)
            (((Device.memoryReadReply_bytes answered).trans (Device.readRecord_mapped (passes ok) inUse)).trans stays) rfl
            fun h => (by decide : StationState.ready ≠ .reading) (h.trans reading)
        · have acts := ((Device.memoryReadReply_bytes answered).trans
            (Device.readRecord_mapped (d := s.dev) (passes ok) inUse)).trans
            ((Device.activate_now (by rw [Device.station_modifyStation, if_pos rfl]; rfl) (by cases side <;> exact idle)
              (by cases side <;> exact there) (by cases side <;> exact vacant)
              (by rw [Device.station_modifyStation, if_pos rfl]; rfl)).trans
              (congrArg Device.fill (Device.activated_readied side r s.dev)))
          have unit (e : Device) : e.fill.die = e.die := (Device.fill_frame e).2.2.2.2.2.2.1
          refine congrArg (fun e => Host.Outcome.next (After s e)) (dieEvent_state (side := side) acts ?_ ?_ ?_)
          · rw [unit]
            cases side <;> rfl
          · rw [unit]
            cases side <;> rfl
          · rw [Device.station, unit, show (s.dev.station side).state = _ from reading]
            cases side <;> exact (by decide : StationState.active ≠ .reading)
    · unfold Device.memoryReadReply
      rw [Station.answers_none fun e flies => (other e flies).imp_right fun h => by simp [h]]
  · intro d ended lost
    have ends (e : Device) (same : e.die = d.die) (mail : e.mail = d.mail) {act : Device → Device} (f : Station → Station)
        (keeps : ∀ y, (f y).state = y.state) (m : List Mail)
        (acts : act e = { e.modifyStation side (fun y => f { y with state := .released, inFlight := none }) with
          mail := e.mail ++ m }) (writing : (d.station side).state = .writing) :
        Host.Outcome.next (After s (dieEvent act e)) =
          (.next (ended e f m) : Host.Outcome State Fault Refusal) := by
      refine moves (fun y => f { y with state := .released, inFlight := none }) (acts.trans ?_) rfl fun h => ?_
      · rw [← mail]
      · rw [Device.station, same, keeps] at h
        exact (by decide : StationState.released ≠ .writing) (h.trans writing)
    refine ⟨fun wear w flies writing => ?_, fun ok other => still ?_⟩
    · have answered : (d.station side).answers true number.toNat = some ⟨some wear, number.toNat, w⟩ :=
        Station.answers_some (e := ⟨some wear, number.toNat, w⟩) flies rfl
      refine ⟨?_, ?_, ?_⟩
      · refine ends d rfl rfl (fun y => { y with wearAtRead := some wear }) (fun _ => rfl) [] ?_ writing
        unfold Device.memoryWriteReply
        rw [answered, List.append_nil]
        rfl
      · refine ends d rfl rfl id (fun _ => rfl) lost ?_ writing
        unfold Device.memoryWriteReply
        rw [answered]
        rfl
      · show run (fun d => expire (d.memoryDeadline side) (dieEvent (Device.memoryExpired side)) d) s = _
        have deadline : s.dev.memoryDeadline side = some (w.start + w.limit) :=
          (congrArg (Option.map fun e : DieExchange => e.timer.deadline) flies).trans rfl
        rw [run_after, deadline, expire_some]
        refine ends { s.dev with time := max s.dev.time (w.start + w.limit) } rfl rfl id (fun _ => rfl) lost ?_ writing
        unfold Device.memoryExpired
        rw [show Station.inFlight (Device.station { s.dev with time := max s.dev.time (w.start + w.limit) } side) = _
          from flies]
        rfl
    · unfold Device.memoryWriteReply
      rw [Station.answers_none fun e flies => (other e flies).imp_right fun h => by simp [h]]

end Sys2Proof.Machine
end


section
/-! SUPPORT. The press: its orders, the drive's messages and the acknowledgement limit (R131, R132). -/

namespace Sys2Proof.Machine

section Fill
variable {d : Device}

/-- An ACTIVE station without an identity makes no load, and outside extrusion a fill decision needs empty fill ON
(R137). -/
theorem fill_unidentified (extruding : d.die.press = .running ∧ d.die.active.isSome) (identity : d.die.identity = .none) :
    d.fill = d := by
  obtain h | ⟨-, -, -, ⟨i, -, -, some, -⟩ | ⟨-, idle, -⟩⟩ := d.fill_cases
  · exact h
  · simp [identity] at some
  · exact absurd extruding idle

theorem fill_off (idle : d.die.active = .none) (off : d.tables.spreader.emptyFill = false) : d.fill = d := by
  obtain h | ⟨-, -, -, ⟨i, -, some, -⟩ | ⟨on, -⟩⟩ := d.fill_cases
  · exact h
  · simp [idle] at some
  · simp [off] at on

end Fill

/-- A press state other than RUNNING is entered with its notice (R131). -/
theorem Device.setPress_enters {p : PressState} {d : Device} (moves : d.die.press ≠ p) (other : p ≠ .running) :
    d.setPress p = Device.notifyDie .pressState { d with die := { d.die with press := p } } :=
  (if_neg moves).trans (if_neg other)

/-- RUNNING is entered with its notice and a fill decision (R131, R137). -/
theorem Device.setPress_running {d : Device} (moves : d.die.press ≠ .running) :
    d.setPress .running = (Device.notifyDie .pressState { d with die := { d.die with press := .running } }).fill :=
  (if_neg moves).trans (if_pos rfl)

/-- A notice is placed the same, whatever mail waits. -/
theorem Device.notifyDie_withMail (e : DieEvent) (m : List Mail) (d : Device) :
    Device.notifyDie e { d with mail := m } = { d.notifyDie e with mail := m } := by
  simp only [Device.notifyDie, Device.notify]
  split <;> rfl

/-- The drive's failure: STOPPED, with a notice if the press was not, and PRESS_DRIVE_FAULT (R131). -/
theorem Device.pressFault_stopped {d : Device} (stopped : d.die.press = .stopped) : d.pressFault =
    { d with die := { d.die with press := .stopped, pressTimer := none }, mail := d.mail ++ [.raise .pressDriveFault {}] } := by
  have stays : d.stopPressLimit.setPress .stopped =
      { d with die := { d.die with press := .stopped, pressTimer := none } } := if_pos stopped
  rw [Device.pressFault, stays]
  rfl

theorem Device.pressFault_moves {d : Device} (moves : d.die.press ≠ .stopped) : d.pressFault =
    { Device.notifyDie .pressState { d with die := { d.die with press := .stopped, pressTimer := none } } with
      mail := d.mail ++ [.raise .pressDriveFault {}] } := by
  have enters : d.stopPressLimit.setPress .stopped =
      Device.notifyDie .pressState { d with die := { d.die with press := .stopped, pressTimer := none } } :=
    Device.setPress_enters moves (by decide)
  rw [Device.pressFault, enters, Device.raise, Device.post, Device.notifyDie_mail]

/-- A part whose press is RUNNING since the drive said so (R131). -/
def Device.pressRuns (d : Device) : Device :=
  Device.notifyDie .pressState { d with die := { d.die with press := .running, pressTimer := none } }

/-- What STARTED leaves for the fill decision to see. -/
theorem Device.pressRuns_frame (d : Device) : d.pressRuns.time = d.time ∧ d.pressRuns.tables = d.tables
    ∧ d.pressRuns.die = { d.die with press := .running, pressTimer := none } ∧ d.pressRuns.spread = d.spread
    ∧ d.pressRuns.acc = d.acc ∧ d.pressRuns.bus = d.bus := by
  simp [Device.pressRuns]

section Started
variable {d : Device}

/-- STARTED, with the fill decision that RUNNING makes (R131, R137). -/
theorem Device.pressStarted_eq (starting : d.die.press = .starting) : d.pressStarted = d.pressRuns.fill :=
  (if_pos starting).trans (Device.setPress_running (d := d.stopPressLimit) (by
    show d.die.press ≠ _
    rw [starting]
    decide))

/-- The fill decision of STARTED (R137, R139). -/
theorem Device.pressRuns_fill_load {who : Identity} (slot : d.spread.slot = .none) (hold : d.spread.hold = false)
    (some : 0 < d.acc.returnCount) (active : d.die.active.isSome) (identity : d.die.identity = .some who) :
    let n := (d.spread.loadNumber + 1) % 256
    d.pressRuns.fill = { d.pressRuns with
      acc := { d.acc with returnCount := d.acc.returnCount - 1 }
      spread := { d.spread with
        slot := .loading, loadNumber := n, load := .some ⟨n, ⟨d.time, d.tables.spreader.loadLimit * 1000⟩, who⟩ }
      bus := d.bus ++ [.load n] } := by
  obtain ⟨time, tables, die, spread, acc, bus⟩ := d.pressRuns_frame
  rw [fill_load (i := who) (by rw [spread, slot]) (by rw [spread, hold]) (by rw [acc]; exact some)
    (by rw [die]; exact ⟨rfl, active⟩) (by rw [die, identity])]
  simp only [Device.startLoad, Device.drawRod, Device.send, Device.timer, time, tables, spread, acc, bus]

theorem Device.pressRuns_fill_empty (slot : d.spread.slot = .none) (hold : d.spread.hold = false)
    (some : 0 < d.acc.returnCount) (vacant : d.die.active = .none) (on : d.tables.spreader.emptyFill = true) :
    d.pressRuns.fill = { d.pressRuns with
      acc := { d.acc with returnCount := d.acc.returnCount - 1 }, spread := { d.spread with slot := .emptyStaged } } := by
  obtain ⟨-, tables, die, spread, acc, -⟩ := d.pressRuns_frame
  rw [fill_empty (by rw [spread, slot]) (by rw [spread, hold]) (by rw [acc]; exact some) (by rw [tables, on])
    (by rw [die]; simp [vacant])]
  simp only [Device.drawRod, spread, acc]

theorem Device.pressRuns_fill_not
    (unfilled : ¬(d.spread.slot = .none ∧ d.spread.hold = false ∧ 0 < d.acc.returnCount)
      ∨ (d.die.active.isSome ∧ d.die.identity = .none) ∨ (d.die.active = .none ∧ d.tables.spreader.emptyFill = false)) :
    d.pressRuns.fill = d.pressRuns := by
  obtain ⟨-, tables, die, spread, acc, -⟩ := d.pressRuns_frame
  rcases unfilled with no | ⟨active, identity⟩ | ⟨vacant, off⟩
  · exact fill_none (by rw [spread, acc]; exact no)
  · exact fill_unidentified (by rw [die]; exact ⟨rfl, active⟩) (by rw [die, identity])
  · exact fill_off (by rw [die, vacant]) (by rw [tables, off])

end Started

section Start
variable {d : Device} (stopped : d.die.press = .stopped)
include stopped

/-- PRESS_START's refusals of a STOPPED press, and its order (R132). -/
theorem pressStart_vacant (vacant : d.die.active = none) : pressStart d = (d, wrongState .noActiveDie) := by
  rw [pressStart, if_neg (not_not.mpr stopped), if_pos vacant]

theorem pressStart_faulted {k : FaultKind} (active : d.die.active.isSome) (fault : d.haltFault = some k) :
    pressStart d = (d, wrongState .faultSet (kindNumber k)) := by
  rw [pressStart, if_neg (not_not.mpr stopped), if_neg (Option.isSome_iff_ne_none.mp active), fault]

theorem pressStart_sends (active : d.die.active.isSome) (well : d.haltFault = none) : pressStart d =
    (Device.notifyDie .pressState { d with
      die := { d.die with press := .starting, pressTimer := some ⟨d.time, 10000⟩ }
      bus := d.bus ++ [.pressStart] }, accepted) := by
  rw [pressStart, if_neg (not_not.mpr stopped), if_neg (Option.isSome_iff_ne_none.mp active), well]
  have enters := Device.setPress_enters (p := .starting) (d := (d.send .pressStart).startPressLimit)
    (by show d.die.press ≠ _; rw [stopped]; decide) (by decide)
  exact congrArg (fun e => (e, accepted)) enters

end Start

/-- Settles O44: the orders, then each message of the drive by the state it meets. -/
theorem pressCommands : Obligations.PressCommands := by
  intro tag s d press still run stopping failed start stop started fills drawn n
  have fails (e : Device) (same : e.die = d.die) (mail : e.mail = d.mail) : e.pressFault = failed e := by
    by_cases stopped : d.die.press = .stopped
    · rw [Device.pressFault_stopped (by rw [same, stopped]), same, mail]
      exact congrArg (fun f : Device => { f with mail := d.mail ++ [Mail.raise .pressDriveFault {}] })
        (if_pos (t := still e) (e := press .stopped none e) stopped).symm
    · rw [Device.pressFault_moves (by rw [same]; exact stopped), same]
      exact congrArg₂ (fun (f : Device) (m : List Mail) => { f with mail := m ++ [Mail.raise .pressDriveFault {}] })
        (if_neg (t := still e) (e := press .stopped none e) stopped).symm mail
  refine ⟨fun turn => ⟨fun running => ?_, fun stopped vacant => ?_, fun k stopped active fault => ?_,
      fun stopped active well => ?_⟩, fun turn => ?_, fun rest waits => ?_,
    fun starting => ⟨fun unfilled => ?_, fun who fills active identity => ?_, fun fills vacant on => ?_⟩,
    fun other => ?_, fun stopped => ?_, fun stops => ?_, fun runs => ?_, ?_, fun w counts => ?_⟩
  · exact exec_answered (own := pressStart) rfl rfl rfl turn (if_pos running)
  · exact exec_answered (own := pressStart) rfl rfl rfl turn (pressStart_vacant stopped vacant)
  · exact exec_answered (own := pressStart) rfl rfl rfl turn (pressStart_faulted stopped active fault)
  · exact exec_answered (own := pressStart) rfl rfl rfl turn (pressStart_sends stopped active well)
  · by_cases runs : run
    · rw [if_pos runs]
      exact exec_answered (own := pressStop) rfl rfl rfl turn
        (congrArg (fun e => (e, accepted)) (Device.stopPress_pressed runs))
    · rw [if_neg runs]
      exact exec_answered (own := pressStop) rfl rfl rfl turn
        (congrArg (fun e => (e, accepted)) (Device.stopPress_unpressed runs))
  · have taken : s.dev.take .pressStop = { s.dev with mail := rest } := by
      rw [Device.take, show s.dev.mail = .pressStop :: rest from waits, List.erase_cons_head]
    have runsOn {e : Device} (acts : (s.dev.take .pressStop).stopPress = e) :
        exec .pressStopOrder s = .next (After s e) := congrArg (fun e => Host.Outcome.next (After s e)) acts
    rw [taken] at runsOn
    refine ⟨fun runs => runsOn ?_, fun rests => runsOn (Device.stopPress_unpressed rests)⟩
    rw [Device.stopPress_pressed (d := { s.dev with mail := rest }) runs]
    exact Device.notifyDie_withMail .pressState rest { s.dev with
      die := { s.dev.die with press := .stopping, pressTimer := some ⟨s.dev.time, 10000⟩ }
      bus := s.dev.bus ++ [.pressStop] }
  · exact congrArg (fun e => Host.Outcome.next (After s e))
      ((Device.pressStarted_eq starting).trans (Device.pressRuns_fill_not unfilled))
  · exact congrArg (fun e => Host.Outcome.next (After s e)) ((Device.pressStarted_eq starting).trans
      (Device.pressRuns_fill_load fills.1 fills.2.1 fills.2.2 active identity))
  · exact congrArg (fun e => Host.Outcome.next (After s e)) ((Device.pressStarted_eq starting).trans
      (Device.pressRuns_fill_empty fills.1 fills.2.1 fills.2.2 vacant on))
  · exact congrArg (fun e => Host.Outcome.next (After s e)) (if_neg other)
  · have halted : s.dev.pressHalted = still s.dev := by
      simp only [Device.pressHalted, show s.dev.die.press = .stopped from stopped]
      rw [Device.stopPressLimit]
      refine congrArg (fun u : DieUnit => { s.dev with die := u }) ?_
      rw [← show s.dev.die.press = .stopped from stopped]
    exact congrArg (fun e => Host.Outcome.next (After s e)) halted
  · have halted : s.dev.pressHalted = press .stopped none s.dev := by
      simp only [Device.pressHalted, show s.dev.die.press = .stopping from stops]
      exact Device.setPress_enters (d := s.dev.stopPressLimit)
        (fun h => (by decide : PressState.stopped ≠ .stopping) (h.symm.trans stops)) (by decide)
    exact congrArg (fun e => Host.Outcome.next (After s e)) halted
  · have halted : s.dev.pressHalted = s.dev := by
      rcases runs with h | h <;> simp only [Device.pressHalted, show s.dev.die.press = _ from h]
    exact congrArg (fun e => Host.Outcome.next (After s e)) halted
  · exact congrArg (fun e => Host.Outcome.next (After s e)) (fails d rfl rfl)
  · show Machine.run (fun d => expire d.pressDeadline Device.pressFault d) s = _
    have deadline : s.dev.pressDeadline = some (w.start + w.limit) :=
      (congrArg (Option.map Timer.deadline) counts).trans rfl
    rw [run_after, deadline, expire_some]
    exact congrArg (fun e => Host.Outcome.next (After s e))
      (fails { s.dev with time := max s.dev.time (w.start + w.limit) } rfl rfl)

end Sys2Proof.Machine
end


section
/-! SUPPORT. The fault log's raise and FAULT_CLEAR (R174, R176 to R180, R184). -/

namespace Sys2Proof.Machine

/-- A kind's number names it, and no other. -/
theorem allKinds_kindNumber (k : FaultKind) : allKinds[kindNumber k]? = some k := by cases k <;> rfl

theorem kindNumber_lt (k : FaultKind) : kindNumber k < 23 := by cases k <;> decide

theorem kindNumber_ne {j k : FaultKind} (apart : j ≠ k) : kindNumber j ≠ kindNumber k := fun same =>
  apart (Option.some.inj ((allKinds_kindNumber j).symm.trans ((congrArg (allKinds[·]?) same).trans (allKinds_kindNumber k))))

section Raise
variable (k : FaultKind) (c : Context) (d : Device)

/-- A kind's state after the states of one kind were changed. -/
theorem kindState_modify {e : Device} {f : KindState → KindState} (whole : d.log.kinds.length = 23)
    (kinds : e.log.kinds = d.log.kinds.modify (kindNumber k) f) (j : FaultKind) :
    e.kindState j = if j = k then f (d.kindState k) else d.kindState j := by
  simp only [Device.kindState, List.getD_eq_getElem?_getD, kinds, List.getElem?_modify]
  by_cases same : j = k
  · subst same
    have inside : kindNumber j < d.log.kinds.length := whole ▸ kindNumber_lt j
    simp [List.getElem?_eq_getElem inside]
  · simp [same, Ne.symm (kindNumber_ne same)]

/-- The pump reads the link and the time alone. -/
theorem Device.pump_link_congr {d e : Device} (same : e.link = d.link) (time : e.time = d.time) :
    e.pump.link = d.pump.link := by
  unfold Device.pump
  rw [same, time]
  cases d.link.tx with
  | some x => exact same
  | none =>
    cases d.link.queueFull with
    | some r => rfl
    | none =>
      cases d.link.replies with
      | cons r rs => rfl
      | nil =>
        cases d.link.notices with
        | nil => exact same
        | cons n ns => rfl

/-- The state of every kind after a masked raise, which is counted only (R174, R176). -/
theorem countRaise_kindState (whole : d.log.kinds.length = 23) (j : FaultKind) : (d.countRaise k).kindState j =
    if j = k then ⟨(d.kindState k).set, min 255 ((d.kindState k).count + 1)⟩ else d.kindState j :=
  kindState_modify (f := fun x => { x with count := min 255 (x.count + 1) }) k d whole rfl j

/-- The log, the mail and the link after an unmasked raise (R176 to R180). -/
def Device.raiseNotice : Notice :=
  .fault k (d.faultSetting k).severity d.clock c (min 255 ((d.kindState k).count + 1)) d.log.first.isNone d.pace.line
    d.pace.cause

/-- The stop orders of a severity (R179, R180). -/
def severityOrders : Severity → List Mail
  | .halt => [.stop .haltFault, .pressStop]
  | .hold => [.stop .holdFault]
  | .note => []

/-- What an unmasked raise makes of the log, the mail and the link (R176 to R180). -/
theorem takeRaise_unmasked (whole : d.log.kinds.length = 23) (unmasked : (d.faultSetting k).masked = false) :
    (∀ j, (d.takeRaise k c).kindState j =
        if j = k then ⟨true, min 255 ((d.kindState k).count + 1)⟩ else d.kindState j)
      ∧ (d.takeRaise k c).mail = d.mail ++ severityOrders (d.faultSetting k).severity
      ∧ (d.takeRaise k c).log.first = some (d.log.first.getD ⟨k, (d.faultSetting k).severity, d.clock, c⟩)
      ∧ (d.takeRaise k c).link = (d.notify (d.raiseNotice k c)).link := by
  let e := ((d.countRaise k).setStatus k).fillFirst k c
  have states (j : FaultKind) : e.kindState j =
      if j = k then ⟨true, min 255 ((d.kindState k).count + 1)⟩ else d.kindState j := by
    have kinds : e.log.kinds = ((d.countRaise k).setStatus k).log.kinds := by
      unfold e Device.fillFirst
      split <;> rfl
    rw [kindState_modify (e := e) (f := fun x => { x with set := true }) k (d.countRaise k)
      (by rw [← whole]; exact List.length_modify ..) kinds, countRaise_kindState k d whole, countRaise_kindState k d whole]
    by_cases same : j = k <;> simp [same]
  have first : e.log.first = some (d.log.first.getD ⟨k, (d.faultSetting k).severity, d.clock, c⟩) := by
    unfold e Device.fillFirst
    cases empty : d.log.first with
    | none => rw [show ((d.countRaise k).setStatus k).log.first = none from empty]; rfl
    | some f => rw [show ((d.countRaise k).setStatus k).log.first = some f from empty]; exact empty
  have rest : e.link = d.link ∧ e.mail = d.mail ∧ e.tables = d.tables ∧ e.time = d.time ∧ e.pace = d.pace := by
    unfold e Device.fillFirst
    split <;> exact ⟨rfl, rfl, rfl, rfl, rfl⟩
  obtain ⟨link, mail, tables, time, pace⟩ := rest
  have notice : e.faultNotice k c d.log.first.isNone = e.notify (d.raiseNotice k c) := by
    unfold Device.faultNotice Device.raiseNotice Device.faultSetting Device.clock Device.sec
    rw [states k, if_pos rfl, tables, pace, time]
  have acts : d.takeRaise k c = (e.notify (d.raiseNotice k c)).faultAction (d.faultSetting k).severity := by
    obtain ⟨masked, -⟩ | ⟨-, h⟩ := d.takeRaise_cases k c
    · simp [unmasked] at masked
    · rw [h, ← notice]
  clear_value e
  have action (s : Severity) (x : Device) : (x.faultAction s).log = x.log ∧ (x.faultAction s).link = x.link
      ∧ (x.faultAction s).mail = x.mail ++ severityOrders s := by
    cases s with
    | halt => exact ⟨rfl, rfl, List.append_assoc _ _ _⟩
    | hold => exact ⟨rfl, rfl, rfl⟩
    | note => exact ⟨rfl, rfl, (List.append_nil _).symm⟩
  obtain ⟨log', link', mail'⟩ := action (d.faultSetting k).severity (e.notify (d.raiseNotice k c))
  rw [Device.notify_log] at log'
  rw [Device.notify_mail, mail] at mail'
  refine ⟨fun j => ?_, acts ▸ mail', ?_, ?_⟩
  · rw [acts, Device.kindState, log', ← Device.kindState, states j]
  · rw [acts, log', first]
  · rw [acts, link']
    obtain ⟨room, h⟩ | ⟨full, h⟩ := e.notify_cases (d.raiseNotice k c)
    · rw [h, Device.notify, if_pos (link ▸ room), link]
    · rw [h, Device.notify, if_neg (link ▸ Nat.not_lt.mpr full), link]

end Raise

/-- Settles O52: the masked raise, then the unmasked. -/
theorem faultRaiseTaken : Obligations.FaultRaiseTaken := by
  intro k c rest s waits whole d count severity orders
  have taken : s.dev.take (.raise k c) = { s.dev with mail := rest } := by
    rw [Device.take, waits, List.erase_cons_head]
  let e := Device.takeRaise k c { s.dev with mail := rest }
  have runs : exec (.faultRaise k c) s = .next (After s e) :=
    congrArg (fun x => Host.Outcome.next (After s (Device.takeRaise k c x))) taken
  obtain ⟨time, tables, -, track, pace, -, die, -⟩ := Device.takeRaise_frame k c { s.dev with mail := rest }
  have kept (j : FaultKind) : (After s e).dev.kindState j = e.kindState j := by rw [after_only]; rfl
  have log : (After s e).dev.log = e.log := by rw [after_only]
  have mail : (After s e).dev.mail = e.mail := by rw [after_only]
  refine ⟨_, runs, fun j apart => ?_, ?_, ?_, ?_, ?_, fun masked => ?_, fun unmasked => ?_⟩
  · rw [kept]
    cases masked : (s.dev.faultSetting k).masked with
    | true =>
      obtain ⟨-, acts⟩ | ⟨unmasked, -⟩ := Device.takeRaise_cases k c { s.dev with mail := rest }
      · rw [show e = _ from acts, countRaise_kindState k { s.dev with mail := rest } whole, if_neg apart]
        rfl
      · exact absurd (masked.symm.trans unmasked) (by decide)
    | false => exact ((takeRaise_unmasked k c { s.dev with mail := rest } whole masked).1 j).trans (if_neg apart)
  · rw [after_only]; exact pace
  · rw [after_only]; exact die
  · rw [after_only]; exact track
  · rw [after_only]; exact tables
  · obtain ⟨-, acts⟩ | ⟨unmasked, -⟩ := Device.takeRaise_cases k c { s.dev with mail := rest }
    · have counted : e = Device.countRaise k { s.dev with mail := rest } := acts
      rw [kept, log, mail, counted]
      refine ⟨?_, rfl, rfl, Device.pump_link_congr rfl rfl⟩
      rw [countRaise_kindState k { s.dev with mail := rest } whole, if_pos rfl]
      rfl
    · exact absurd (masked.symm.trans unmasked) (by decide)
  · obtain ⟨states, mail', first, link⟩ := takeRaise_unmasked k c { s.dev with mail := rest } whole unmasked
    have sends (sending : d.link.tx.isSome) : (After s e).dev = e := by
      refine Device.pump_busy ?_
      rw [show e.link = _ from link]
      obtain ⟨-, n⟩ | ⟨-, n⟩ := Device.notify_cases
        (Device.raiseNotice k c { s.dev with mail := rest }) { s.dev with mail := rest } <;> rw [n] <;> exact sending
    rw [kept, log, mail]
    refine ⟨(states k).trans (if_pos rfl), mail', first, fun room sending => ?_, fun full sending => ?_⟩
    · rw [sends sending]
      exact (congrArg Link.notices link).trans
        (congrArg (fun x : Device => x.link.notices) (if_pos (show s.dev.link.notices.length < maxNotices from room)))
    · have dropped : e.link = { s.dev.link with droppedSince := min 65535 (s.dev.link.droppedSince + 1) } :=
        link.trans (congrArg Device.link
          (if_neg (show ¬s.dev.link.notices.length < maxNotices from Nat.not_lt.mpr full)))
      rw [sends sending]
      exact ⟨(congrArg Link.notices dropped).trans rfl, congrArg Link.droppedSince dropped⟩

end Sys2Proof.Machine
end


section
/-! SUPPORT. FAULT_CLEAR (R184). -/

namespace Sys2Proof.Machine

/-- The numbers of kinds that a FAULT_CLEAR names, where it is admitted. -/
theorem mem_clearNumbers {kinds : List Byte} {n : Nat} (kind : n < 23) :
    n ∈ clearNumbers kinds ↔ kinds = [0xFF] ∨ ∃ b ∈ kinds, b.toNat = n := by
  unfold clearNumbers
  split
  · rename_i all
    exact ⟨fun _ => .inl all, fun _ => List.mem_range.mpr kind⟩
  · rename_i listed
    rw [or_iff_right listed, List.mem_map]

/-- No number beyond 22 is named exactly if the request names every kind, or kinds that exist (R184). -/
theorem clearNumbers_admitted (kinds : List Byte) :
    (clearNumbers kinds).zipIdx.find? (fun p => decide (22 < p.1)) = none ↔ kinds = [0xFF] ∨ ∀ b ∈ kinds, b.toNat ≤ 22 := by
  have all : (∀ n ∈ clearNumbers kinds, n ≤ 22) ↔ kinds = [0xFF] ∨ ∀ b ∈ kinds, b.toNat ≤ 22 := by
    unfold clearNumbers
    split
    · rename_i every
      exact ⟨fun _ => .inl every, fun _ n mem => Nat.le_of_lt_succ (List.mem_range.mp mem)⟩
    · rename_i listed
      rw [or_iff_right listed]
      exact List.forall_mem_map
  rw [← all]
  simp only [List.find?_eq_none, decide_eq_true_eq, Nat.not_lt]
  refine ⟨fun h n mem => ?_, fun h p mem => ?_⟩
  · obtain ⟨i, inside, rfl⟩ := List.mem_iff_getElem.mp mem
    exact h (_, i) (List.mem_zipIdx_iff_getElem?.mpr (List.getElem?_eq_getElem inside))
  · exact h p.1 (List.fst_mem_of_mem_zipIdx mem)

/-- A kind named is CLEAR with count 0, and another is as it was (R184). -/
theorem clearKinds_kindState {d : Device} (numbers : List Nat) (k : FaultKind) (whole : d.log.kinds.length = 23) :
    (d.clearKinds numbers).kindState k = if kindNumber k ∈ numbers then ⟨false, 0⟩ else d.kindState k := by
  have inside : kindNumber k < d.log.kinds.length := whole ▸ kindNumber_lt k
  simp only [Device.kindState, Device.clearKinds, List.getD_eq_getElem?_getD, List.getElem?_map, List.getElem?_zipIdx,
    List.getElem?_eq_getElem inside, Option.map_some, Option.getD_some, Nat.zero_add]

/-- A FAULT_CLEAR of no kind, or of more than 23, spells no request of its row (R189). -/
theorem request?_faultClear {tag : Byte} {kinds : List Byte} (sized : kinds.length = 0 ∨ 23 < kinds.length) :
    (frameOf (.faultClear tag kinds)).request? = none := by
  cases spelled : (frameOf (.faultClear tag kinds)).request? with
  | none => rfl
  | some i =>
    have fits : (decide (1 ≤ kinds.length) && decide (kinds.length ≤ 23)) = true := (kind_of_request? spelled).2
    simp only [Bool.and_eq_true, decide_eq_true_eq] at fits
    omega

/-- A request of a wrong body length does not reach its owner (R189). -/
theorem exec_illSized {i : Instr} {s : State} (own : Device → Device × Answer) (runs : exec i s = run (fun d => d.ask i own) s)
    (turn : Turn i s) (illSized : (frameOf i).request? = none) :
    exec i s = .next (Served i s s.dev ⟨.lengthError, 0, []⟩) := by
  have answered : s.dev.ask i own = s.dev.reply (frameOf i) lengthError := by
    rw [Device.ask, Device.request_turn _ turn.nextRequest]
    simp [Device.serve, illSized]
  rw [runs, run_after, answered]
  rfl

/-- The transmitter takes a notice at most (R190). -/
theorem Device.pump_notices_le (d : Device) : d.pump.link.notices.length ≤ d.link.notices.length := by
  unfold Device.pump
  split
  · exact le_rfl
  · split
    · exact le_rfl
    · split
      · exact le_rfl
      · split
        · exact le_rfl
        · rename_i n ns waits
          rw [waits]
          exact Nat.le_succ _

/-- Settles O53: the ill-sized request, the refused one and the accepted one. -/
theorem faultClearClears : Obligations.FaultClearClears := by
  intro tag kinds s turn d i named admitted
  have mem (k : FaultKind) : kindNumber k ∈ clearNumbers kinds ↔ named k := mem_clearNumbers (kindNumber_lt k)
  have wf (any : 1 ≤ kinds.length) (few : kinds.length ≤ 23) : WellFormed i = true := by
    simp [i, WellFormed, any, few]
  refine ⟨fun sized => exec_illSized (faultClear kinds) rfl turn (request?_faultClear sized), fun any few refused => ?_,
    fun any few ok whole => ?_⟩
  · cases bad : (clearNumbers kinds).zipIdx.find? fun p => decide (22 < p.1) with
    | none => exact absurd ((clearNumbers_admitted kinds).mp bad) refused
    | some p =>
      refine ⟨halfOf (Config.clearDetail p.2 (BitVec.ofNat 8 p.1)) 0,
        exec_answered (own := faultClear kinds) rfl (wf any few) rfl turn ?_⟩
      rw [faultClear, bad]
  · let answer := acceptedWith ((allKinds.map fun k => flag ((s.dev.clearKinds (clearNumbers kinds)).kindState k).set
      ++ u8 ((s.dev.clearKinds (clearNumbers kinds)).kindState k).count).flatten)
    have clears : faultClear kinds s.dev = (s.dev.clearKinds (clearNumbers kinds), answer) := by
      rw [faultClear, (clearNumbers_admitted kinds).mpr ok]
    refine ⟨_, exec_answered (own := faultClear kinds) rfl (wf any few) rfl turn clears, Served.replied i s _ answer,
      fun k hit => ?_, fun k spared => ?_, fun f holds => ⟨fun hit => ?_, fun spared => ?_⟩, fun empty => ?_, ?_, ?_, ?_, ?_, ?_⟩
    · rw [served_only]
      exact (clearKinds_kindState _ k whole).trans (if_pos ((mem k).mpr hit))
    · rw [served_only]
      exact (clearKinds_kindState _ k whole).trans (if_neg fun hit => spared ((mem k).mp hit))
    all_goals rw [served_only]
    · simp only [Device.clearKinds, show s.dev.log.first = some f from holds, if_pos ((mem f.kind).mpr hit)]
    · simp only [Device.clearKinds, show s.dev.log.first = some f from holds, if_neg fun hit => spared ((mem f.kind).mp hit)]
    · simp only [Device.clearKinds, show s.dev.log.first = none from empty]
    · rfl
    · rfl
    · rfl
    · rfl
    · exact Device.pump_notices_le (s.dev.clearKinds (clearNumbers kinds) |>.reply (frameOf i) answer)

end Sys2Proof.Machine
end


section
/-! SUPPORT. The gauge's answers (R168 to R170), by the holder of the rod measured. -/

namespace Sys2Proof.Machine

section Unique
variable {α β : Type}

/-- A value that a list without repetitions takes from two places is taken from one. -/
theorem filterMap_index {f : α → Option β} {l : List α} (nodup : (l.filterMap f).Nodup) {j k : Nat} {x y : α} {b : β}
    (at_j : l[j]? = some x) (at_k : l[k]? = some y) (left : f x = some b) (right : f y = some b) : j = k := by
  induction l generalizing j k with
  | nil => simp at at_j
  | cons a as ih =>
    have later {i : Nat} {z : α} (at_i : as[i]? = some z) (hit : f z = some b) : b ∈ as.filterMap f :=
      List.mem_filterMap.mpr ⟨z, List.mem_of_getElem? at_i, hit⟩
    have head (hit : f a = some b) : b ∉ as.filterMap f := by
      rw [List.filterMap_cons, hit] at nodup
      exact (List.nodup_cons.mp nodup).1
    cases j with
    | zero =>
      obtain rfl : a = x := by simpa using at_j
      cases k with
      | zero => rfl
      | succ k => exact absurd (later (by simpa using at_k) right) (head left)
    | succ j =>
      cases k with
      | zero =>
        obtain rfl : a = y := by simpa using at_k
        exact absurd (later (by simpa using at_j) left) (head right)
      | succ k =>
        have rest : (as.filterMap f).Nodup := nodup.sublist ((List.sublist_cons_self a as).filterMap f)
        exact congrArg Nat.succ (ih rest (by simpa using at_j) (by simpa using at_k))

/-- A value that stands in two of the lists that a list without repetitions joins stands in one. -/
theorem flatten_index {ls : List (List β)} (nodup : ls.flatten.Nodup) {l m : Nat} {xs ys : List β} {b : β}
    (at_l : ls[l]? = some xs) (at_m : ls[m]? = some ys) (left : b ∈ xs) (right : b ∈ ys) : l = m := by
  by_contra apart
  have apartness := (List.nodup_flatten.mp nodup).2
  obtain ⟨inside_l, rfl⟩ := List.getElem?_eq_some_iff.mp at_l
  obtain ⟨inside_m, rfl⟩ := List.getElem?_eq_some_iff.mp at_m
  rcases Nat.lt_or_gt_of_ne apart with h | h
  · exact List.pairwise_iff_getElem.mp apartness l m inside_l inside_m h left right
  · exact List.pairwise_iff_getElem.mp apartness m l inside_m inside_l h right left

/-- A change that leaves every element but one is made at that one. -/
theorem map_eq_set {f : α → α} {l : List α} {k : Nat} {x : α} (stands : l[k]? = some x)
    (others : ∀ j y, j ≠ k → l[j]? = some y → f y = y) : l.map f = l.set k (f x) := by
  refine List.ext_getElem? fun j => ?_
  rw [List.getElem?_map, List.getElem?_set]
  by_cases here : k = j
  · subst here
    rw [if_pos rfl, if_pos (List.getElem?_eq_some_iff.mp stands).1, stands]
    rfl
  · rw [if_neg here]
    cases at_j : l[j]? with
    | none => rfl
    | some y => exact congrArg some (others j y (Ne.symm here) at_j)

/-- A change that leaves every element leaves the list. -/
theorem map_eq_self {f : α → α} {l : List α} (still : ∀ y ∈ l, f y = y) : l.map f = l :=
  (List.map_congr_left still).trans (List.map_id l)

end Unique

section Holders
variable {d : Device}

/-- Live records that share no id, holder by holder (R6). -/
theorem liveIds_parts (nodup : d.liveIds.Nodup) :
    (d.track.positions.filterMap fun c => c.rod?.map Rod.id).Nodup
      ∧ (d.acc.lanes.map fun l => l.records.map Rod.id).flatten.Nodup
      ∧ (∀ q, Content.loaded q ∈ d.track.positions → ∀ l ∈ d.acc.lanes, ∀ p ∈ l.records, q.id ≠ p.id)
      ∧ (∀ q, Content.loaded q ∈ d.track.positions → ∀ x, d.acc.slot = some x → q.id ≠ x.rod.id)
      ∧ (∀ l ∈ d.acc.lanes, ∀ p ∈ l.records, ∀ x, d.acc.slot = some x → p.id ≠ x.rod.id) := by
  have track : (d.track.positions.filterMap fun c => c.rod?.map Rod.id) =
      (d.track.positions.filterMap Content.rod?).map Rod.id := by rw [List.map_filterMap]
  have lanes : (d.acc.lanes.map fun l => l.records.map Rod.id).flatten =
      ((d.acc.lanes.map LaneRt.records).flatten).map Rod.id := by
    rw [List.map_flatten, List.map_map]
    rfl
  have tracked {q : Rod} (held : Content.loaded q ∈ d.track.positions) :
      q.id ∈ d.track.positions.filterMap fun c => c.rod?.map Rod.id :=
    List.mem_filterMap.mpr ⟨_, held, rfl⟩
  have laned {l : LaneRt} (held : l ∈ d.acc.lanes) {p : Rod} (mem : p ∈ l.records) :
      p.id ∈ (d.acc.lanes.map fun l => l.records.map Rod.id).flatten :=
    List.mem_flatten.mpr ⟨_, List.mem_map_of_mem held, List.mem_map_of_mem mem⟩
  have slotted {x : StripSlot} (held : d.acc.slot = some x) : x.rod.id ∈ (d.acc.slot.map StripSlot.rod).toList.map Rod.id := by
    rw [held]
    exact List.mem_singleton_self _
  simp only [Device.liveIds, Device.liveRods, List.map_append, ← track, ← lanes] at nodup
  obtain ⟨front, -, slotApart⟩ := List.nodup_append.mp nodup
  obtain ⟨front, laneNodup, laneApart⟩ := List.nodup_append.mp front
  obtain ⟨-, trackNodup, -⟩ := List.nodup_append.mp front
  exact ⟨trackNodup, laneNodup,
    fun q held l lane p mem => laneApart _ (List.mem_append_right _ (tracked held)) _ (laned lane mem),
    fun q held x strips => slotApart _ (List.mem_append_left _ (List.mem_append_right _ (tracked held))) _ (slotted strips),
    fun l lane p mem x strips => slotApart _ (List.mem_append_right _ (laned lane mem)) _ (slotted strips)⟩

/-- A record at a position is the only one beyond the staged slot with its id (R6). -/
theorem unique_position {k : Nat} {r : Rod} (nodup : d.liveIds.Nodup) (stands : d.track.positions[k]? = some (.loaded r)) :
    (∀ j q, j ≠ k → d.track.positions[j]? = some (.loaded q) → q.id ≠ r.id)
      ∧ (∀ l ∈ d.acc.lanes, ∀ p ∈ l.records, p.id ≠ r.id) ∧ (∀ x, d.acc.slot = some x → x.rod.id ≠ r.id) := by
  obtain ⟨track, -, lanes, slot, -⟩ := liveIds_parts nodup
  have held := List.mem_of_getElem? stands
  exact ⟨fun j q other at_j same => other (filterMap_index track at_j stands (congrArg some same) rfl),
    fun l lane p mem => Ne.symm (lanes r held l lane p mem), fun x strips => Ne.symm (slot r held x strips)⟩

/-- So is a record in a lane. -/
theorem unique_lane {l k : Nat} {lane : LaneRt} {r : Rod} (nodup : d.liveIds.Nodup) (at_l : d.acc.lanes[l]? = some lane)
    (at_k : lane.records[k]? = some r) : (∀ q, Content.loaded q ∈ d.track.positions → q.id ≠ r.id)
      ∧ (∀ m other, m ≠ l → d.acc.lanes[m]? = some other → ∀ p ∈ other.records, p.id ≠ r.id)
      ∧ (∀ j q, j ≠ k → lane.records[j]? = some q → q.id ≠ r.id) ∧ (∀ x, d.acc.slot = some x → x.rod.id ≠ r.id) := by
  obtain ⟨-, inLanes, lanes, -, slot⟩ := liveIds_parts nodup
  have held := List.mem_of_getElem? at_l
  have mem := List.mem_of_getElem? at_k
  refine ⟨fun q tracked => lanes q tracked lane held r mem, fun m other apart at_m p within same => apart ?_,
    fun j q other at_j same => other ?_, fun x strips => Ne.symm (slot lane held r mem x strips)⟩
  · exact flatten_index (b := r.id) inLanes (by simp [at_m]) (by simp [at_l])
      (List.mem_map.mpr ⟨p, within, same⟩) (List.mem_map_of_mem mem)
  · have ids : (lane.records.map Rod.id).Nodup :=
      (List.nodup_flatten.mp inLanes).1 _ (List.mem_map.mpr ⟨lane, held, rfl⟩)
    rw [← List.filterMap_eq_map] at ids
    exact filterMap_index (b := r.id) ids at_j at_k (congrArg some same) rfl

/-- So is the record in the strip slot. -/
theorem unique_slot {x : StripSlot} (nodup : d.liveIds.Nodup) (strips : d.acc.slot = some x) :
    (∀ q, Content.loaded q ∈ d.track.positions → q.id ≠ x.rod.id)
      ∧ (∀ l ∈ d.acc.lanes, ∀ p ∈ l.records, p.id ≠ x.rod.id) := by
  obtain ⟨-, -, -, track, lanes⟩ := liveIds_parts nodup
  exact ⟨fun q held => track q held x strips, fun l lane p mem => lanes l lane p mem x strips⟩

end Holders

end Sys2Proof.Machine
end


section
/-! SUPPORT. A result of the gauge applied, by the holder of the rod measured (R169, R170). -/

namespace Sys2Proof.Machine

section Mapped
variable {d : Device} {f : Rod → Rod} {r : Rod}

/-- A change of one rod leaves a content that holds no rod of its id. -/
theorem mapRod_other {id : Nat} {c : Content} (other : ∀ q, c = .loaded q → q.id ≠ id) :
    Content.mapRod (fun q => if q.id = id then f q else q) c = c := by
  cases c with
  | loaded q => exact congrArg Content.loaded (if_neg (other q rfl))
  | empty => rfl
  | gap => rfl
  | unknown => rfl

/-- A change of one rod leaves a list of records without it. -/
theorem mapLane_other {id : Nat} {l : LaneRt} (other : ∀ q ∈ l.records, q.id ≠ id) :
    { l with records := l.records.map fun q => if q.id = id then f q else q } = l := by
  rw [map_eq_self fun q mem => if_neg (other q mem)]

/-- A change of one rod leaves a strip slot without it. -/
theorem mapSlot_other {id : Nat} {slot : Option StripSlot} (other : ∀ x, slot = some x → x.rod.id ≠ id) :
    (slot.map fun x => { x with rod := if x.rod.id = id then f x.rod else x.rod }) = slot := by
  cases slot with
  | none => rfl
  | some x =>
    rw [Option.map_some, if_neg (other x rfl)]

/-- A change of the rod at a position (R4, R169). -/
theorem mapBeyond_position {k : Nat} (nodup : d.liveIds.Nodup) (stands : d.track.positions[k]? = some (.loaded r)) :
    d.mapBeyond r.id f = { d with track := { d.track with positions := d.track.positions.set k (.loaded (f r)) } } := by
  obtain ⟨others, lanes, slot⟩ := unique_position nodup stands
  have changed : Content.mapRod (fun q => if q.id = r.id then f q else q) (.loaded r) = .loaded (f r) :=
    congrArg Content.loaded (if_pos rfl)
  unfold Device.mapBeyond
  dsimp only
  rw [map_eq_set stands fun j y other at_j => mapRod_other fun q same => others j q other (same ▸ at_j), changed,
    map_eq_self fun l held => mapLane_other (lanes l held), mapSlot_other slot]

/-- A change of a rod in a lane (R4, R169). -/
theorem mapBeyond_lane {l k : Nat} {lane : LaneRt} (nodup : d.liveIds.Nodup) (at_l : d.acc.lanes[l]? = some lane)
    (at_k : lane.records[k]? = some r) : d.mapBeyond r.id f = { d with acc := { d.acc with
      lanes := d.acc.lanes.set l { lane with records := lane.records.set k (f r) } } } := by
  obtain ⟨untracked, lanes, others, slot⟩ := unique_lane nodup at_l at_k
  unfold Device.mapBeyond
  dsimp only
  rw [map_eq_self fun c held => mapRod_other fun q same => untracked q (same ▸ held),
    map_eq_set at_l fun m y other at_m => mapLane_other (lanes m y other at_m), mapSlot_other slot,
    map_eq_set at_k fun j y other at_j => if_neg (others j y other at_j), if_pos rfl]

/-- A change of the rod in the strip slot (R4, R169). -/
theorem mapBeyond_slot {x : StripSlot} (nodup : d.liveIds.Nodup) (strips : d.acc.slot = some x) :
    d.mapBeyond x.rod.id f = { d with acc := { d.acc with slot := some { x with rod := f x.rod } } } := by
  obtain ⟨untracked, lanes⟩ := unique_slot nodup strips
  unfold Device.mapBeyond
  dsimp only
  rw [map_eq_self fun c held => mapRod_other fun q same => untracked q (same ▸ held),
    map_eq_self fun l held => mapLane_other (lanes l held), strips, Option.map_some, if_pos rfl]

end Mapped

section Result
variable {d : Device} {m : Measurement} {r : Rod} {x : Product} {value : Nat}

/-- What a result makes of the factor, the faults and the counts, beside the record (R169, R170). -/
theorem weighed_eq (p band rod : Nat) (deviation : Int) (e : Device) :
    ((e.checkBand band rod deviation).modifyFactor p (corrected band deviation)).bump .gauged =
      { e.bump .gauged with
        gauge := { e.gauge with factors := e.gauge.factors.modify p (corrected band deviation) }
        mail := e.mail ++ if band ≠ 0 ∧ ((band : Int) < deviation ∨ deviation < -(band : Int)) then
          [.raise .gaugeDeviation { rod := some rod }] else [] } := by
  have beyond : (band ≠ 0 ∧ band < deviation.natAbs) ↔
      (band ≠ 0 ∧ ((band : Int) < deviation ∨ deviation < -(band : Int))) := by omega
  unfold Device.checkBand
  by_cases raises : band ≠ 0 ∧ band < deviation.natAbs
  · rw [if_pos raises, if_pos (beyond.mp raises)]
    rfl
  · rw [if_neg raises, if_neg fun h => raises (beyond.mpr h), List.append_nil]
    rfl

/-- A result applied, once it is known what becomes of the record (R169, R170). -/
theorem applyResult_eq {e : Device}
    (maps : d.mapBeyond r.id (Rod.gauged (min 4000 value) ((x.moisture : Int) - (min 4000 value : Nat)) d.clock) = e) :
    d.applyResult r x value = (((e.checkBand (d.profile x.profile).band r.id
        ((x.moisture : Int) - (min 4000 value : Nat))).modifyFactor x.profile
      (corrected (d.profile x.profile).band ((x.moisture : Int) - (min 4000 value : Nat)))).bump .gauged) := by
  rw [← maps]
  rfl

/-- A result for the record found, if it is the rod measured and has a product (R169). -/
theorem takeResult_found {h : Holder} (found : d.findBeyond m.rod = some (r, h)) (born : r.born = m.born)
    (product : r.product = some x) : d.takeResult m value = d.applyResult r x value := by
  unfold Device.takeResult
  simp only [found, product, born, if_true]

/-- A record found beyond the staged slot is live, under its id (R4). -/
theorem findBeyond_live {id : Nat} {h : Holder} (found : d.findBeyond id = some (r, h)) : r ∈ d.liveRods ∧ r.id = id := by
  unfold Device.findBeyond at found
  split at found
  · rename_i q hit
    obtain ⟨⟨c, j⟩, mem, takes⟩ := List.exists_of_findSome?_eq_some hit
    have held : c ∈ d.track.positions := List.mem_of_getElem? (List.mk_mem_zipIdx_iff_getElem?.mp mem)
    cases c with
    | loaded p =>
      simp only [Content.rod?] at takes
      split at takes
      · rename_i same
        cases takes
        cases found
        refine ⟨?_, same⟩
        simp only [Device.liveRods, List.mem_append, List.mem_filterMap]
        exact .inl (.inl (.inr ⟨_, held, rfl⟩))
      · cases takes
    | empty => cases takes
    | gap => cases takes
    | unknown => cases takes
  · split at found
    · rename_i hit
      cases found
      obtain ⟨⟨l, j⟩, mem, takes⟩ := List.exists_of_findSome?_eq_some hit
      have held : l ∈ d.acc.lanes := List.mem_of_getElem? (List.mk_mem_zipIdx_iff_getElem?.mp mem)
      obtain ⟨⟨q, k⟩, inLane, same⟩ := Option.map_eq_some_iff.mp takes
      cases same
      have within : q ∈ l.records :=
        List.mem_of_getElem? (List.mk_mem_zipIdx_iff_getElem?.mp (List.mem_of_find?_eq_some inLane))
      refine ⟨?_, of_decide_eq_true (List.find?_some (p := fun p : Rod × Nat => decide (p.1.id = id)) inLane)⟩
      simp only [Device.liveRods, List.mem_append, List.mem_flatten, List.mem_map]
      exact .inl (.inr ⟨_, ⟨l, held, rfl⟩, within⟩)
    · split at found
      · rename_i slot strips
        split at found
        · rename_i same
          cases found
          refine ⟨?_, same⟩
          simp [Device.liveRods, strips]
        · cases found
      · cases found

/-- A result is late where no live record is the rod measured, or has a product (R169, log entry 26). -/
theorem takeResult_late (none : ∀ q ∈ d.liveRods, q.id = m.rod → q.born ≠ m.born ∨ q.product = none) :
    d.takeResult m value = d.bump .gaugeLate := by
  unfold Device.takeResult
  split
  · rfl
  · rename_i r h found
    obtain ⟨live, same⟩ := findBeyond_live found
    split
    · rfl
    · rename_i x product
      refine if_neg fun born => ?_
      rcases none r live same with h | h
      · exact h born
      · exact absurd (product.symm.trans h) nofun

end Result

/-- Settles O48: the result, by the holder of its rod or late, then the failures and the reset of a factor. -/
theorem gaugeOutcomes : Obligations.GaugeOutcomes := by
  intro number rod value s d idle
  refine ⟨fun m flies same rodSame => ?_, fun other => ?_, fun m flies => ?_, fun other => ?_, fun p rest waits => ?_⟩
  · intro measured deviation corrected applied late
    have answered : s.dev.gaugeResult number.toNat rod.toNat value.toNat =
        s.dev.endMeasurement.takeResult m value.toNat := by
      rw [Device.gaugeResult, show s.dev.gauge.inFlight = some m from flies]
      exact if_pos ⟨same, rodSame⟩
    have runs {e : Device} (acts : s.dev.endMeasurement.takeResult m value.toNat = e) :
        exec (.gaugeResult number rod value) s = .next (After s e) :=
      congrArg (fun e => Host.Outcome.next (After s e)) (answered.trans acts)
    have ended : s.dev.endMeasurement = idle s.dev := rfl
    refine ⟨fun nodup r x id born product => ?_, fun dead => ?_, fun bare => ?_⟩
    · have gauged : Rod.gauged measured (deviation x) d.clock r = corrected r x := by
        rw [Rod.gauged, product]
        rfl
      have takes {h : Holder} {e : Device} (found : s.dev.endMeasurement.findBeyond m.rod = some (r, h))
          (maps : s.dev.endMeasurement.mapBeyond r.id (Rod.gauged measured (deviation x) d.clock) = e) :
          s.dev.endMeasurement.takeResult m value.toNat = _ :=
        (takeResult_found found born product).trans ((applyResult_eq maps).trans (weighed_eq _ _ _ _ e))
      refine ⟨fun k stands => runs ?_, fun l k lane at_l at_k => runs ?_, fun slot strips holds => runs ?_⟩
      · obtain ⟨others, -, -⟩ := unique_position nodup stands
        have found : s.dev.endMeasurement.findBeyond m.rod = some (r, .position k) :=
          Device.findBeyond_position (findPosition_of_unique stands id fun j q other at_j => id ▸ others j q other at_j)
        refine (takes found (mapBeyond_position (d := s.dev.endMeasurement) nodup stands)).trans ?_
        rw [gauged]
        rfl
      · obtain ⟨untracked, lanes, others, -⟩ := unique_lane nodup at_l at_k
        have found : s.dev.endMeasurement.findBeyond m.rod = some (r, .lane l k) := by
          refine Device.findBeyond_lane (fun q held => id ▸ untracked q held)
            (by rw [show s.dev.endMeasurement.acc.lanes[l]? = some lane from at_l]; exact at_k) id fun n j q other stands => ?_
          obtain ⟨rs, here, at_j⟩ := Option.bind_eq_some_iff.mp stands
          obtain ⟨y, at_n, rfl⟩ := Option.map_eq_some_iff.mp here
          by_cases lanesSame : n = l
          · subst lanesSame
            obtain rfl : y = lane := Option.some.inj (at_n.symm.trans at_l)
            exact id ▸ others j q (fun h => other (by rw [h])) at_j
          · exact id ▸ lanes n y lanesSame at_n q (List.mem_of_getElem? at_j)
        refine (takes found (mapBeyond_lane (d := s.dev.endMeasurement) nodup at_l at_k)).trans ?_
        rw [gauged]
        rfl
      · subst holds
        obtain ⟨untracked, lanes⟩ := unique_slot nodup strips
        have found : s.dev.endMeasurement.findBeyond m.rod = some (slot.rod, .strip) := by
          rw [Device.findBeyond_last (fun q held => id ▸ untracked q held) fun l held q mem => id ▸ lanes l held q mem,
            show s.dev.endMeasurement.acc.slot = some slot from strips]
          exact if_pos id
        refine (takes found (mapBeyond_slot (d := s.dev.endMeasurement) nodup strips)).trans ?_
        rw [gauged]
        rfl
    · exact runs (takeResult_late (d := idle s.dev) fun q live same => .inl (dead q live same))
    · exact runs (takeResult_late (d := idle s.dev) fun q live same => .inr (bare q live same))
  · have late : s.dev.gaugeResult number.toNat rod.toNat value.toNat = s.dev.bump .gaugeLate := by
      unfold Device.gaugeResult
      split
      · rfl
      · rename_i m flies
        refine if_neg fun h => ?_
        rcases other m flies with h' | h'
        · exact h' h.1
        · exact h' h.2
    exact congrArg (fun e => Host.Outcome.next (After s e)) late
  · intro lost
    have lost_eq (e : Device) (gauge : e.gauge = d.gauge) (mail : e.mail = d.mail) : e.measurementLost m = lost e := by
      unfold Device.measurementLost lost idle
      rw [← gauge, ← mail]
      rfl
    refine ⟨fun same => ?_, ?_⟩
    · have fails : s.dev.gaugeFail number.toNat = s.dev.measurementLost m := by
        rw [Device.gaugeFail, show s.dev.gauge.inFlight = some m from flies]
        exact if_pos same
      exact congrArg (fun e => Host.Outcome.next (After s e)) (fails.trans (lost_eq d rfl rfl))
    · show run (fun d => expire d.gaugeDeadline Device.gaugeExpired d) s = _
      have deadline : s.dev.gaugeDeadline = some (m.timer.start + m.timer.limit) :=
        (congrArg (Option.map fun m : Measurement => m.timer.deadline) flies).trans rfl
      have fails (t : Nat) : Device.gaugeExpired { s.dev with time := t } =
          Device.measurementLost m { s.dev with time := t } := by
        unfold Device.gaugeExpired
        rw [show Gauge.inFlight (Device.gauge { s.dev with time := t }) = some m from flies]
      rw [run_after, deadline, expire_some, fails]
      exact congrArg (fun e => Host.Outcome.next (After s e)) (lost_eq _ rfl rfl)
  · have still : s.dev.gaugeFail number.toNat = s.dev := by
      unfold Device.gaugeFail
      split
      · rename_i m flies
        exact if_neg (other m flies)
      · rfl
    exact congrArg (fun e => Host.Outcome.next (After s e)) still
  · have taken : s.dev.take (.reset p) = { s.dev with mail := rest } := by
      rw [Device.take, show s.dev.mail = .reset p :: rest from waits, List.erase_cons_head]
    exact congrArg (fun e => Host.Outcome.next (After s (e.modifyFactor p fun _ => 256))) taken

end Sys2Proof.Machine
end


section
/-! SUPPORT. The stripper's answers (R159, R160, R163). -/

namespace Sys2Proof.Machine

/-- A part with a place of its record's closing known, its strip slot empty and the stripper IDLE (R160). -/
def Device.stripped (outcome : CloseOutcome) (r : Rod) (d : Device) : Device :=
  { Device.notify (.rodOut { r with close := some ⟨outcome, d.clock⟩ }) d with
    acc := { d.acc with slot := none, timer := none, stripper := .idle } }

/-- A record closed at the strip slot (R160, R161). -/
theorem closeRod_clearStrip (outcome : CloseOutcome) (r : Rod) (d : Device) :
    (d.closeRod outcome r).clearStrip = d.stripped outcome r := by
  rw [Device.clearStrip, Device.closeRod, Device.notify_acc]
  rfl

section Strip
variable {d : Device} {x : StripSlot}

/-- A strip completed with room in the return buffer (R160, R163). -/
theorem completeStrip_room (room : d.acc.returnDeclared = true ∧ d.acc.returnCount < d.tables.acc.returnCap) :
    d.completeStrip x = Device.accEnd false (Device.bump .stripsDone (Device.fill { d.stripped (gateOutcome x.gate) x.rod with
      acc := { d.acc with slot := none, timer := none, stripper := .idle, returnCount := d.acc.returnCount + 1 } })) := by
  have tables : (d.stripped (gateOutcome x.gate) x.rod).tables = d.tables := Device.notify_tables _ _
  rw [Device.completeStrip, closeRod_clearStrip, Device.returnRod, if_pos (by rw [tables]; exact room)]
  rfl

/-- A strip completed with none: the rod goes to spill, with RETURN_OVERFLOW (R163). -/
theorem completeStrip_full (full : ¬(d.acc.returnDeclared = true ∧ d.acc.returnCount < d.tables.acc.returnCap)) :
    d.completeStrip x = Device.accEnd false (Device.bump .stripsDone { d.stripped (gateOutcome x.gate) x.rod with
      track := { d.track with spill := (d.track.spill + 1) % 4294967296 }
      mail := d.mail ++ [.raise .returnOverflow { strip := some d.acc.number }] }) := by
  have tables : (d.stripped (gateOutcome x.gate) x.rod).tables = d.tables := Device.notify_tables _ _
  have track : (d.stripped (gateOutcome x.gate) x.rod).track = d.track := Device.notify_track _ _
  have mail : (d.stripped (gateOutcome x.gate) x.rod).mail = d.mail := Device.notify_mail _ _
  rw [Device.completeStrip, closeRod_clearStrip, Device.returnRod, if_neg (by rw [tables]; exact full),
    Device.spillRod, Device.raise, Device.post, track, mail]
  rfl

/-- A strip-done message of the current strip, and one of no strip (R159, R160). -/
theorem stripDone_current (busy : d.acc.stripper = .stripping ∨ d.acc.stripper = .stalled) (strips : d.acc.slot = some x) :
    d.stripDone d.acc.number = d.completeStrip x := by
  unfold Device.stripDone
  rcases busy with h | h <;> simp only [h, strips, if_true]

theorem stripDone_late {number : Nat} (other : d.acc.stripper = .idle ∨ d.acc.slot = none ∨ d.acc.number ≠ number) :
    d.stripDone number = d.bump .lateDones := by
  unfold Device.stripDone
  split
  · rename_i x busy strips
    refine if_neg fun same => ?_
    simp [busy, strips, same] at other
  · rename_i x busy strips
    refine if_neg fun same => ?_
    simp [busy, strips, same] at other
  all_goals rfl

/-- A stall, for its fault (R159). -/
theorem stall_slot (kind : FaultKind) (strips : d.acc.slot = some x) : d.stall kind = { d.bump .stripFaults with
    acc := { d.acc with stripper := .stalled, timer := none }
    mail := d.mail ++ [.raise kind { lane := some x.lane, rod := some x.rod.id, strip := some d.acc.number }] } := by
  rw [Device.stall, strips]
  rfl

end Strip

/-- Settles O49: the completion with and without room, the message of no strip, and the stall. -/
theorem stripOutcomes : Obligations.StripOutcomes := by
  intro number s d busy
  have runs {i : Instr} {act : Device → Device} {e : Device} (run : exec i s = .next (After s (act s.dev)))
      (acts : act s.dev = e) : exec i s = .next (After s e) := acts ▸ run
  refine ⟨fun x stands strips same => ?_, fun other => runs rfl (stripDone_late other), fun x stripping strips => ?_,
    fun other => runs rfl (if_neg fun h => ?_)⟩
  · intro outcome closed room
    have outcome_eq : gateOutcome x.gate = outcome := by
      unfold outcome
      cases x.gate <;> rfl
    have current : s.dev.stripDone number.toNat = s.dev.completeStrip x :=
      (congrArg (fun n => s.dev.stripDone n) same).symm.trans (stripDone_current stands strips)
    have stripped : s.dev.stripped (gateOutcome x.gate) x.rod =
        { closed with acc := { d.acc with slot := none, timer := none, stripper := .idle } } := by
      rw [outcome_eq]
      rfl
    refine ⟨fun free => ?_, fun full => ?_⟩
    · refine runs rfl (current.trans ((completeStrip_room free).trans ?_))
      rw [stripped]
    · refine runs rfl (current.trans ((completeStrip_full full).trans ?_))
      rw [stripped]
  · intro stalled
    refine ⟨fun same => runs rfl ((if_pos ⟨stripping, same⟩).trans (stall_slot .stripFault strips)), fun w counts => ?_⟩
    show run (fun d => expire d.stripDeadline (Device.stall .stripperTimeout) d) s = _
    have deadline : s.dev.stripDeadline = some (w.start + w.limit) :=
      (if_pos stripping).trans ((congrArg (Option.map Timer.deadline) counts).trans rfl)
    rw [run_after, deadline, expire_some]
    exact congrArg (fun e => Host.Outcome.next (After s e))
      (stall_slot (d := { s.dev with time := max s.dev.time (w.start + w.limit) }) .stripperTimeout strips)
  · rcases other with h' | h'
    · exact h' h.1
    · exact h' h.2

end Sys2Proof.Machine
end


section
/-! SUPPORT. The arbiter's choice and the requests on strips (R156, R157, R161, R162). -/

namespace Sys2Proof.Machine

/-- A lane that the arbiter may serve: declared, with a record (R156). -/
def Device.Ready (d : Device) (l : Nat) : Prop := (d.lane l).declared = true ∧ (d.lane l).records ≠ []

/-- A STRICT lane that the arbiter may serve, and a RATIO lane with credit (R156, R157). -/
def Device.StrictReady (d : Device) (l : Nat) : Prop := (d.laneEntry l).mode = .strict ∧ d.Ready l

def Device.RatioReady (d : Device) (l : Nat) : Prop := (d.laneEntry l).mode = .ratio ∧ d.Ready l ∧ 0 < (d.lane l).credit

section Choice
variable {d : Device} {l : Nat}

theorem laneReady_iff : d.laneReady l = true ↔ d.Ready l := by
  simp [Device.laneReady, Device.Ready]

theorem strictReady_iff : (decide ((d.laneEntry l).mode = .strict) && d.laneReady l) = true ↔ d.StrictReady l := by
  simp [laneReady_iff, Device.StrictReady]

theorem candidate_iff : d.candidate l = true ↔ d.RatioReady l := by
  simp [Device.candidate, laneReady_iff, Device.RatioReady, and_assoc]

/-- The lowest STRICT lane that holds a record is chosen first (R156). -/
theorem chooseLane_strict (four : l < 4) (strict : d.StrictReady l) (lowest : ∀ k, k < l → ¬d.StrictReady k) :
    d.chooseLane = some (l, d) := by
  have first : (List.range 4).find? (fun l => decide ((d.laneEntry l).mode = .strict) && d.laneReady l) = some l :=
    List.find?_range_eq_some.mpr ⟨strictReady_iff.mpr strict, List.mem_range.mpr four, fun k below => by
      rw [Bool.not_eq_true', Bool.eq_false_iff]
      exact fun h => lowest k below (strictReady_iff.mp h)⟩
  rw [Device.chooseLane, first]

/-- With no STRICT lane to serve the choice is the ratio's (R156). -/
theorem chooseLane_ratio (none : ∀ j, j < 4 → ¬d.StrictReady j) : d.chooseLane = d.ratioChoice := by
  have first : (List.range 4).find? (fun l => decide ((d.laneEntry l).mode = .strict) && d.laneReady l) = Option.none :=
    List.find?_eq_none.mpr fun j mem h => none j (List.mem_range.mp mem) (strictReady_iff.mp h)
  rw [Device.chooseLane, first]

/-- The first candidate from the round pointer on (R157). -/
theorem cycle_find {k : Nat} (four : k < 4) (place : l = (d.acc.pointer + k) % 4) (ratio : d.RatioReady l)
    (first : ∀ j, j < k → ¬d.RatioReady ((d.acc.pointer + j) % 4)) : d.cycle.find? d.candidate = some l := by
  have at_k : (List.range 4).find? (d.candidate ∘ fun k => (d.acc.pointer + k) % 4) = some k :=
    List.find?_range_eq_some.mpr ⟨candidate_iff.mpr (place ▸ ratio : d.RatioReady ((d.acc.pointer + k) % 4)), List.mem_range.mpr four, fun j below => by
      rw [Bool.not_eq_true', Bool.eq_false_iff]
      exact fun h => first j below (candidate_iff.mp h)⟩
  rw [Device.cycle, List.find?_map, at_k, place]
  rfl

theorem cycle_find_none (none : ∀ j, j < 4 → ¬d.RatioReady j) : d.cycle.find? d.candidate = Option.none := by
  refine List.find?_eq_none.mpr fun j mem h => ?_
  obtain ⟨k, -, rfl⟩ := List.mem_map.mp mem
  exact none _ (Nat.mod_lt _ (by decide)) (candidate_iff.mp h)

/-- A RATIO lane with a record and credit is charged (R157). -/
theorem ratioChoice_credit {k : Nat} (four : k < 4) (place : l = (d.acc.pointer + k) % 4) (ratio : d.RatioReady l)
    (first : ∀ j, j < k → ¬d.RatioReady ((d.acc.pointer + j) % 4)) : d.ratioChoice = some (l, d.charge l) := by
  rw [Device.ratioChoice, cycle_find four place ratio first]

/-- A lane that holds a record is one of the lanes. -/
theorem Device.Ready.lt (ready : d.Ready l) : l < d.acc.lanes.length := by
  by_contra beyond
  refine ready.2 ?_
  rw [Device.lane, List.getD_eq_getElem?_getD, List.getElem?_eq_none (Nat.not_lt.mp beyond)]
  rfl

/-- The refill of a RATIO lane (R157). -/
theorem refill_lane_ratio (mode : (d.laneEntry l).mode = .ratio) (ready : d.Ready l) :
    d.refill.lane l = { d.lane l with credit := (d.laneEntry l).weight } := by
  simp [Device.lane, Device.refill, List.getD_eq_getElem?_getD, List.getElem?_eq_getElem ready.lt, mode]

/-- Where no candidate has credit, every RATIO lane's credit is its weight first (R157). -/
theorem ratioChoice_refill {k : Nat} (four : k < 4) (place : l = (d.acc.pointer + k) % 4)
    (mode : (d.laneEntry l).mode = .ratio) (ready : d.Ready l) (weight : 0 < (d.laneEntry l).weight)
    (spent : ∀ j, j < 4 → ¬d.RatioReady j)
    (first : ∀ j, j < k → ¬((d.laneEntry ((d.acc.pointer + j) % 4)).mode = .ratio ∧ d.Ready ((d.acc.pointer + j) % 4))) :
    d.ratioChoice = some (l, d.refill.charge l) := by
  have holds : ((List.range 4).any fun l => decide ((d.laneEntry l).mode = .ratio) && d.laneReady l) = true := by
    refine List.any_eq_true.mpr ⟨l, List.mem_range.mpr (place ▸ Nat.mod_lt _ (by decide)), ?_⟩
    simp [mode, laneReady_iff.mpr ready]
  have refilled (j : Nat) : d.refill.Ready j ↔ d.Ready j := by
    obtain ⟨credit, same⟩ := d.refill_lane j
    rw [Device.Ready, same]
    exact Iff.rfl
  have found : d.refill.cycle.find? d.refill.candidate = some l := by
    refine cycle_find four place ⟨mode, (refilled l).mpr ready, ?_⟩ fun j below h => ?_
    · rw [refill_lane_ratio mode ready]
      exact weight
    · exact first j below ⟨h.1, (refilled _).mp h.2.1⟩
  rw [Device.ratioChoice, cycle_find_none spent]
  dsimp only
  rw [if_pos holds, found]
  rfl

/-- With no lane to serve nothing is chosen (R156). -/
theorem chooseLane_none (none : ∀ j, j < 4 → ¬d.Ready j) : d.chooseLane = Option.none := by
  have holds : ((List.range 4).any fun l => decide ((d.laneEntry l).mode = .ratio) && d.laneReady l) = false := by
    refine List.any_eq_false.mpr fun j mem h => none j (List.mem_range.mp mem) ?_
    rw [Bool.and_eq_true] at h
    exact laneReady_iff.mp h.2
  rw [chooseLane_ratio fun j four h => none j four h.2, Device.ratioChoice,
    cycle_find_none fun j four h => none j four h.2.1]
  dsimp only
  rw [holds]
  rfl

/-- The arbiter grants the head of the lane chosen, with a free-place report (R152, R156). -/
theorem accEnd_grants {c : Device} {r : Rod} {rest : List Rod} (idle : d.acc.stripper = .idle) (runs : d.acc.paused = false)
    (choice : d.chooseLane = some (l, c)) (records : (c.lane l).records = r :: rest) : d.accEnd false =
      ((c.modifyLane l fun x => { x with records := rest }).startStrip ⟨r, l, (c.laneEntry l).dest⟩).post
        (.retry .freePlace) := by
  have grant : d.grant = some ((c.modifyLane l fun x => { x with records := rest }).startStrip
      ⟨r, l, (c.laneEntry l).dest⟩) := by
    rw [Device.grant, if_pos ⟨idle, runs⟩, choice]
    dsimp only
    rw [Device.grantFrom, records]
  rw [Device.accEnd, grant]

/-- The arbiter grants nothing while it is not its turn, or has no lane to serve (R156). -/
theorem accEnd_still (still : d.acc.stripper ≠ .idle ∨ d.acc.paused = true ∨ ∀ j, j < 4 → ¬d.Ready j) :
    d.accEnd false = d := by
  obtain ⟨e, grant, -⟩ | ⟨-, h⟩ := d.accEnd_cases false
  · obtain ⟨idle, runs, l, c, r, rest, choice, -⟩ := Device.grant_some grant
    rcases still with busy | paused | none
    · exact absurd idle busy
    · exact absurd (runs.symm.trans paused) nofun
    · rw [chooseLane_none none] at choice
      cases choice
  · exact h

end Choice

/-- A part whose strip of a lane's head has just been granted (R156, R159). -/
def Device.granted (l : Nat) (r : Rod) (lanes : List LaneRt) (pointer : Nat) (d : Device) : Device := { d with
  acc := { d.acc with
    lanes := lanes
    pointer := pointer
    paused := false
    slot := some ⟨r, l, (d.laneEntry l).dest⟩
    number := (d.acc.number + 1) % 256
    stripper := .stripping
    timer := some ⟨d.time, d.tables.acc.stripLimit * 1000⟩ }
  bus := d.bus ++ [.stripStart ((d.acc.number + 1) % 256) r.id (d.laneEntry l).dest]
  mail := d.mail ++ [.retry .freePlace] }

section Resume
variable {d : Device} {l : Nat} {r : Rod} {rest : List Rod} (idle : d.acc.stripper = .idle)
  (records : (d.lane l).records = r :: rest)
include idle records

/-- STRIP_RESUME's grant of a STRICT lane (R156, R162). -/
theorem stripResume_strict (four : l < 4) (strict : d.StrictReady l) (lowest : ∀ k, k < l → ¬d.StrictReady k) :
    stripResume d = (d.granted l r (d.acc.lanes.modify l fun x => { x with records := rest }) d.acc.pointer, accepted) := by
  have choice : (d.setPause false).chooseLane = some (l, d.setPause false) := chooseLane_strict four strict lowest
  rw [stripResume, accEnd_grants (d := d.setPause false) idle rfl choice records]
  rfl

/-- STRIP_RESUME's grant of a RATIO lane with credit (R157, R162). -/
theorem stripResume_ratio {k : Nat} (four : k < 4) (place : l = (d.acc.pointer + k) % 4) (ratio : d.RatioReady l)
    (strict : ∀ j, j < 4 → ¬d.StrictReady j) (first : ∀ j, j < k → ¬d.RatioReady ((d.acc.pointer + j) % 4)) :
    stripResume d = (d.granted l r
      (d.acc.lanes.modify l fun x => { x with records := rest, credit := (d.lane l).credit - 1 })
      (if (d.lane l).credit - 1 = 0 then (l + 1) % 4 else l), accepted) := by
  have choice : (d.setPause false).chooseLane = some (l, (d.setPause false).charge l) :=
    (chooseLane_ratio (d := d.setPause false) strict).trans (ratioChoice_credit (d := d.setPause false) four place ratio first)
  have charged : (((d.setPause false).charge l).lane l).records = r :: rest := by
    obtain ⟨credit, same⟩ := (d.setPause false).charge_lane l l
    rw [same]
    exact records
  rw [stripResume, accEnd_grants (d := d.setPause false) idle rfl choice charged]
  simp only [Device.charge, Device.modifyLane, modify_lane_twice]
  rfl

/-- STRIP_RESUME's grant after a refill (R157, R162). -/
theorem stripResume_refill {k : Nat} (four : k < 4) (place : l = (d.acc.pointer + k) % 4)
    (mode : (d.laneEntry l).mode = .ratio) (declared : (d.lane l).declared = true) (weight : 0 < (d.laneEntry l).weight)
    (strict : ∀ j, j < 4 → ¬d.StrictReady j) (spent : ∀ j, j < 4 → ¬d.RatioReady j)
    (first : ∀ j, j < k → ¬((d.laneEntry ((d.acc.pointer + j) % 4)).mode = .ratio ∧ d.Ready ((d.acc.pointer + j) % 4))) :
    stripResume d = (d.granted l r
      (d.refill.acc.lanes.modify l fun x => { x with records := rest, credit := (d.laneEntry l).weight - 1 })
      (if (d.laneEntry l).weight - 1 = 0 then (l + 1) % 4 else l), accepted) := by
  have ready : d.Ready l := ⟨declared, by rw [records]; exact List.cons_ne_nil _ _⟩
  have choice : (d.setPause false).chooseLane = some (l, (d.setPause false).refill.charge l) :=
    (chooseLane_ratio (d := d.setPause false) strict).trans
      (ratioChoice_refill (d := d.setPause false) four place mode ready weight spent first)
  have refilled : (d.setPause false).refill.lane l = { d.lane l with credit := (d.laneEntry l).weight } :=
    refill_lane_ratio (d := d.setPause false) mode ready
  have charged : (((d.setPause false).refill.charge l).lane l).records = r :: rest := by
    obtain ⟨credit, same⟩ := (d.setPause false).refill.charge_lane l l
    rw [same, refilled]
    exact records
  rw [stripResume, accEnd_grants (d := d.setPause false) idle rfl choice charged]
  simp only [Device.charge, Device.modifyLane, modify_lane_twice, refilled]
  rfl

end Resume

section Stalled
variable {d : Device} {x : StripSlot}

/-- STRIP_RETRY starts the strip again under a new number (R161). -/
theorem stripRetry_stalled (stalled : d.acc.stripper = .stalled) (strips : d.acc.slot = some x) :
    stripRetry d = ({ d with
      acc := { d.acc with
        number := (d.acc.number + 1) % 256
        stripper := .stripping
        timer := some ⟨d.time, d.tables.acc.stripLimit * 1000⟩ }
      bus := d.bus ++ [.stripStart ((d.acc.number + 1) % 256) x.rod.id x.gate] },
      acceptedWith (u8 ((d.acc.number + 1) % 256))) := by
  have busy : (d.startStrip x).acc.stripper ≠ .idle := (by decide : StripperState.stripping ≠ .idle)
  have started : (d.startStrip x).accEnd false = d.startStrip x := Device.accEnd_busy false busy
  simp only [stripRetry, stalled, strips, started]
  rw [Device.startStrip, ← strips]
  rfl

/-- STRIP_DISCARD closes the record as discarded, and its rod goes to spill (R161). -/
theorem stripDiscard_stalled (stalled : d.acc.stripper = .stalled) (strips : d.acc.slot = some x) :
    stripDiscard d = (Device.accEnd false { d.stripped .discarded x.rod with
      track := { d.track with spill := (d.track.spill + 1) % 4294967296 } }, accepted) := by
  have discarded : (d.closeRod .discarded x.rod).spillRod.clearStrip = { d.stripped .discarded x.rod with
      track := { d.track with spill := (d.track.spill + 1) % 4294967296 } } := by
    rw [Device.clearStrip, Device.spillRod, Device.closeRod, Device.notify_track, Device.notify_acc]
    rfl
  simp only [stripDiscard, stalled, strips, discarded]

/-- Both requests are refused while no strip is STALLED (R161). -/
theorem stripRetry_refused (other : d.acc.stripper ≠ .stalled) : stripRetry d = (d, wrongState .none) := by
  unfold stripRetry
  split
  · rename_i stalled _
    exact absurd stalled other
  all_goals rfl

theorem stripDiscard_refused (other : d.acc.stripper ≠ .stalled) : stripDiscard d = (d, wrongState .none) := by
  unfold stripDiscard
  split
  · rename_i stalled _
    exact absurd stalled other
  all_goals rfl

end Stalled

/-- Settles O50: the STALLED strip's two requests, the pause, and each grant of STRIP_RESUME. -/
theorem stripRequests : Obligations.StripRequests := by
  intro tag s d retry discard pause resume n ready strict candidate granted
  refine ⟨fun x stalled strips => ⟨fun turn => ?_, fun turn => ?_⟩, fun other => ⟨fun turn => ?_, fun turn => ?_⟩,
    fun turn => ?_, fun turn still => ?_, fun turn idle l r rest records => ⟨fun four chosen lowest => ?_,
      fun k four place chosen strict first => ?_,
      fun k four place mode declared weight strict spent first => ?_⟩⟩
  · exact exec_answered (own := stripRetry) rfl rfl rfl turn (stripRetry_stalled stalled strips)
  · exact exec_answered (own := stripDiscard) rfl rfl rfl turn (stripDiscard_stalled stalled strips)
  · exact exec_answered (own := stripRetry) rfl rfl rfl turn (stripRetry_refused other)
  · exact exec_answered (own := stripDiscard) rfl rfl rfl turn (stripDiscard_refused other)
  · exact exec_answered (own := stripPause) rfl rfl rfl turn
      (congrArg (fun e => (e, accepted)) (accEnd_still (d := s.dev.setPause true) (.inr (.inl rfl))))
  · refine exec_answered (own := stripResume) rfl rfl rfl turn (congrArg (fun e => (e, accepted)) (accEnd_still ?_))
    rcases still with busy | none
    · exact .inl busy
    · exact .inr (.inr none)
  · exact exec_answered (own := stripResume) rfl rfl rfl turn (stripResume_strict idle records four chosen lowest)
  · exact exec_answered (own := stripResume) rfl rfl rfl turn
      (stripResume_ratio idle records four place chosen strict first)
  · exact exec_answered (own := stripResume) rfl rfl rfl turn
      (stripResume_refill idle records four place mode declared weight strict spent first)

end Sys2Proof.Machine
end


section
/-! SUPPORT. The host's declarations and corrections of the stores (R16, R154, R155, R164). -/

namespace Sys2Proof.Machine

section Declare
variable {d : Device} {lane : Nat}

/-- A record declared in a lane of the unit adds its id to the live ones (R154). -/
theorem ids_declareOne (inside : lane < d.acc.lanes.length) : (d.declareOne lane).ids = {d.freeId} + d.ids := by
  have change := sum_modifyLane LaneRt.ids (d := d.assignId) (l := lane)
    (f := fun l => { l with records := l.records ++ [d.untracked d.freeId none] }) inside
  have added : LaneRt.ids { d.lane lane with records := (d.lane lane).records ++ [d.untracked d.freeId none] } =
      {d.freeId} + (d.lane lane).ids := by
    simp [LaneRt.ids, Device.untracked, ← Multiset.coe_add, add_comm]
  have lanes : ((d.declareOne lane).acc.lanes.map LaneRt.ids).sum = {d.freeId} + (d.acc.lanes.map LaneRt.ids).sum := by
    refine add_right_cancel (b := (d.lane lane).ids) (change.trans ?_)
    rw [show d.assignId.lane lane = d.lane lane from rfl, added]
    exact (add_left_comm _ _ _).trans (add_assoc _ _ _).symm
  show d.spread.slot.ids + (d.track.positions.map Content.ids).sum + ((d.declareOne lane).acc.lanes.map LaneRt.ids).sum
    + stripIds d.acc.slot = _
  rw [lanes, Device.ids]
  ac_rfl

/-- The records that a declaration puts in a lane have ids of their own, of no live record (R6, R154). -/
theorem declareMany_fresh {n : Nat} {new : List Rod} (inside : lane < d.acc.lanes.length)
    (few : d.liveIds.length + n ≤ 65535)
    (records : ((d.declareMany lane n).lane lane).records = (d.lane lane).records ++ new) :
    (new.map Rod.id).Nodup ∧ ∀ r ∈ new, r.id ∉ d.liveIds := by
  induction n generalizing d new with
  | zero =>
    obtain rfl : new = [] := List.self_eq_append_right.mp records
    exact ⟨List.nodup_nil, fun r mem => absurd mem List.not_mem_nil⟩
  | succ n ih =>
    have one : ((d.declareOne lane).lane lane).records = (d.lane lane).records ++ [d.untracked d.freeId none] := by
      rw [Device.declareOne, Device.lane_modifyLane, if_pos ⟨rfl, inside⟩]
      rfl
    have ids := ids_declareOne inside
    have length : (d.declareOne lane).acc.lanes.length = d.acc.lanes.length := List.length_modify ..
    have more : (d.declareOne lane).liveIds.length = d.liveIds.length + 1 := by
      rw [← Device.card_ids, ids, Multiset.card_add, Device.card_ids, Multiset.card_singleton, Nat.add_comm]
    obtain ⟨rest, -, -, -, many⟩ := Device.declareMany_eq lane n (d.declareOne lane)
    have inside' : lane < (d.declareOne lane).acc.lanes.length := length ▸ inside
    have grown : (((d.declareOne lane).declareMany lane n).lane lane).records =
        ((d.declareOne lane).lane lane).records ++ rest := by
      rw [many]
      simp [Device.lane, List.getD_eq_getElem?_getD, List.getElem?_eq_getElem inside']
    obtain rfl : new = d.untracked d.freeId none :: rest := by
      have both := records.symm.trans grown
      rw [one, List.append_assoc] at both
      exact List.append_cancel_left both
    obtain ⟨nodup, fresh⟩ := ih inside' (by omega) grown
    have live (k : Nat) : k ∈ (d.declareOne lane).liveIds ↔ k = d.freeId ∨ k ∈ d.liveIds := by
      rw [← Multiset.mem_coe, Device.coe_liveIds, ids, Multiset.mem_add, Multiset.mem_singleton, ← Device.coe_liveIds,
        Multiset.mem_coe]
    refine ⟨List.nodup_cons.mpr ⟨fun mem => ?_, nodup⟩, fun r mem => ?_⟩
    · obtain ⟨r, held, same⟩ := List.mem_map.mp mem
      exact fresh r held ((live _).mpr (.inl same))
    · rcases List.mem_cons.mp mem with rfl | held
      · exact Device.freeId_not_mem (by omega)
      · exact fun l => fresh r held ((live _).mpr (.inr l))

/-- The lane, the ids and the answer of an accepted LANE_DECLARE (R154). -/
theorem declareLane_eq (inside : lane < d.acc.lanes.length) (n : Nat) : ∃ new : List Rod, new.length = n
    ∧ (∀ r ∈ new, r.product = none ∧ r.born = d.clock ∧ r.flags = {} ∧ r.gauge = none ∧ r.exit = none ∧ r.close = none)
    ∧ (d.liveIds.length + n ≤ 65535 → (new.map Rod.id).Nodup ∧ ∀ r ∈ new, r.id ∉ d.liveIds)
    ∧ (new.map Rod.id).headD 0 = (if n = 0 then 0 else d.freeId)
    ∧ d.declareLane lane n = { d with
        track := { d.track with lastId := ((new.map Rod.id).getLast?).getD d.track.lastId }
        acc := { d.acc with lanes := d.acc.lanes.modify lane fun x =>
          { x with records := x.records ++ new, declared := true } } } := by
  obtain ⟨new, length, untracked, head, many⟩ := Device.declareMany_eq lane n d
  refine ⟨new, length, untracked, fun few => declareMany_fresh inside few ?_, head, ?_⟩
  · rw [many]
    simp [Device.lane, List.getD_eq_getElem?_getD, List.getElem?_eq_getElem inside]
  · rw [Device.declareLane, many]
    simp only [Device.modifyLane, modify_lane_twice]

end Declare

/-- The inventory after a change of the return buffer's count (R17, R155, log entry 37). -/
theorem inventory_moved (inventory n c : Nat) :
    ((inventory + (n - c)) % size32 + size32 - (c - n) % size32) % size32
      = (((inventory : Int) + (n : Int) - (c : Int)) % 4294967296).toNat := by
  unfold size32
  omega

/-- RETURN_DECLARE's count, with the inventory moved by the difference (R155). -/
theorem setReturn_moved (n : Nat) (d : Device) :
    ((d.setReturn n).inventoryAdd (n - d.acc.returnCount)).inventorySub (d.acc.returnCount - n) = { d with
      acc := { d.acc with returnCount := n }
      track := { d.track with inventory := if d.track.established then
        (((d.track.inventory : Int) + (n : Int) - (d.acc.returnCount : Int)) % 4294967296).toNat else d.track.inventory } } := by
  rw [← inventory_moved]
  unfold Device.inventoryAdd Device.inventorySub Device.setReturn
  cases established : d.track.established with
  | true => simp [established]
  | false =>
    simp only [established, Bool.false_eq_true, if_false]
    rw [← established]

section Corrections
variable {d : Device} {n : Nat}

/-- LANE_DECLARE's conditions in their order (R154, log entry 25). -/
theorem laneDeclare_declared {lane : Nat} (four : lane ≤ 3) (declared : (d.lane lane).declared = true) :
    laneDeclare lane n d = (d, wrongState .none) := by
  rw [laneDeclare, if_neg (Nat.not_lt.mpr four), if_pos declared]

theorem laneDeclare_full {lane : Nat} (four : lane ≤ 3) (undeclared : (d.lane lane).declared = false)
    (full : (d.laneEntry lane).capacity < n) : laneDeclare lane n d = (d, plainFieldRange 0x12) := by
  rw [laneDeclare, if_neg (Nat.not_lt.mpr four), if_neg (by rw [undeclared]; decide), if_pos full]

theorem laneDeclare_accepted {lane : Nat} (four : lane ≤ 3) (undeclared : (d.lane lane).declared = false)
    (room : n ≤ (d.laneEntry lane).capacity) : laneDeclare lane n d =
      ((Established (d.declareLane lane n)).accEnd ((d.declareLane lane n).hasRoom lane),
        acceptedWith (u16 (if n = 0 then 0 else d.freeId))) := by
  rw [laneDeclare, if_neg (Nat.not_lt.mpr four), if_neg (by rw [undeclared]; decide), if_neg (Nat.not_lt.mpr room),
    ← Device.establish_eq]

/-- An accepted RETURN_DECLARE (R155). -/
theorem returnDeclare_accepted (room : n ≤ d.tables.acc.returnCap) : returnDeclare n d =
    let e : Device := { d with
      acc := { d.acc with returnCount := n, returnDeclared := true }
      track := { d.track with inventory := if d.track.established then
        (((d.track.inventory : Int) + (n : Int) - (d.acc.returnCount : Int)) % 4294967296).toNat else d.track.inventory } }
    (Device.accEnd false (if d.acc.returnCount < n then Device.fill (Established e) else Established e), accepted) := by
  rw [returnDeclare, if_neg (Nat.not_lt.mpr room), setReturn_moved]
  dsimp only
  rw [Device.establish_eq, Device.fillIf]
  simp only [decide_eq_true_eq]

/-- ROD_ADD's conditions in their order (R164). -/
theorem rodAdd_undeclared (some : 1 ≤ n) (few : n ≤ 1023) (undeclared : d.acc.returnDeclared = false) :
    rodAdd n d = (d, wrongState .undeclared) := by
  rw [rodAdd, if_neg (by omega), if_pos undeclared]

theorem rodAdd_full (some : 1 ≤ n) (few : n ≤ 1023) (declared : d.acc.returnDeclared = true)
    (full : d.tables.acc.returnCap < d.acc.returnCount + n) : rodAdd n d = (d, wrongState .noRoom) := by
  rw [rodAdd, if_neg (by omega), if_neg (by rw [declared]; decide), if_pos full]

theorem rodAdd_accepted (some : 1 ≤ n) (few : n ≤ 1023) (declared : d.acc.returnDeclared = true)
    (room : d.acc.returnCount + n ≤ d.tables.acc.returnCap) : rodAdd n d =
      ((((d.setReturn (d.acc.returnCount + n)).inventoryAdd n).fill).accEnd false,
        acceptedWith (u16 (d.acc.returnCount + n))) := by
  rw [rodAdd, if_neg (by omega), if_neg (by rw [declared]; decide), if_neg (Nat.not_lt.mpr room)]

/-- ROD_REMOVE's conditions, at the return buffer and at spill (R164). -/
theorem rodRemoveReturn_short (some : n ≠ 0) (short : d.acc.returnCount < n) :
    rodRemoveReturn n d = (d, wrongState .none) := by
  rw [rodRemoveReturn, if_neg some, if_pos short]

theorem rodRemoveReturn_accepted (some : n ≠ 0) (held : n ≤ d.acc.returnCount) : rodRemoveReturn n d =
    (((d.setReturn (d.acc.returnCount - n)).inventorySub n).accEnd false, acceptedWith (u16 (d.acc.returnCount - n))) := by
  rw [rodRemoveReturn, if_neg some, if_neg (Nat.not_lt.mpr held)]

theorem rodRemoveSpill_short (some : n ≠ 0) (short : d.track.spill < n) :
    rodRemoveSpill 1 n d = (d, wrongState .none) := by
  rw [rodRemoveSpill, if_neg (by simp [some]), if_pos short]

theorem rodRemoveSpill_accepted (some : n ≠ 0) (held : n ≤ d.track.spill) : rodRemoveSpill 1 n d =
    ((Device.inventorySub n { d with track := { d.track with spill := d.track.spill - n } }).accEnd false,
      acceptedWith (u32 (d.track.spill - n))) := by
  rw [rodRemoveSpill, if_neg (by simp [some]), if_neg (Nat.not_lt.mpr held)]

end Corrections

/-- Settles O51: each request's refusals in their order, then its effect. -/
theorem storesDeclaredAndCorrected : Obligations.StoresDeclaredAndCorrected := by
  intro tag lane count n s d declare setReturn add remove spill c outOfRange
  refine ⟨fun turn lanes => ⟨fun beyond => ?_, fun four declared => ?_, fun four undeclared full => ?_,
      fun four undeclared room => ?_⟩,
    fun turn => ⟨fun tooMany => ?_, fun room => ?_⟩,
    fun turn => ⟨fun out => ?_, fun any few undeclared => ?_, fun any few declared full => ?_,
      fun any few declared room => ?_⟩,
    fun turn => ⟨fun zero => ?_, fun any short => ?_, fun any held => ?_⟩,
    fun turn => ⟨fun out => ?_, fun place any short => ?_, fun place any held => ?_⟩⟩
  · exact exec_answered (own := laneDeclare lane.toNat count.toNat) rfl rfl rfl turn (if_pos beyond)
  · exact exec_answered (own := laneDeclare lane.toNat count.toNat) rfl rfl rfl turn (laneDeclare_declared four declared)
  · exact exec_answered (own := laneDeclare lane.toNat count.toNat) rfl rfl rfl turn (laneDeclare_full four undeclared full)
  · have inside : lane.toNat < s.dev.acc.lanes.length := Nat.lt_of_le_of_lt four (lanes ▸ (by decide))
    obtain ⟨new, length, untracked, fresh, head, declares⟩ := declareLane_eq (d := s.dev) inside count.toNat
    refine ⟨new, length, untracked, fresh, ?_⟩
    have answer := laneDeclare_accepted four undeclared room
    rw [declares, ← head] at answer
    exact exec_answered (own := laneDeclare lane.toNat count.toNat) rfl rfl rfl turn answer
  · exact exec_answered (own := returnDeclare n.toNat) rfl rfl rfl turn (if_pos tooMany)
  · exact exec_answered (own := returnDeclare n.toNat) rfl rfl rfl turn (returnDeclare_accepted room)
  · exact exec_answered (own := rodAdd n.toNat) rfl rfl rfl turn (if_pos out)
  · exact exec_answered (own := rodAdd n.toNat) rfl rfl rfl turn (rodAdd_undeclared any few undeclared)
  · exact exec_answered (own := rodAdd n.toNat) rfl rfl rfl turn (rodAdd_full any few declared full)
  · exact exec_answered (own := rodAdd n.toNat) rfl rfl rfl turn (rodAdd_accepted any few declared room)
  · exact exec_answered (own := rodRemoveReturn n.toNat) rfl rfl rfl turn (if_pos zero)
  · exact exec_answered (own := rodRemoveReturn n.toNat) rfl rfl rfl turn (rodRemoveReturn_short any short)
  · exact exec_answered (own := rodRemoveReturn n.toNat) rfl rfl rfl turn (rodRemoveReturn_accepted any held)
  · have wf : WellFormed spill = true := by
      refine decide_eq_true fun zero => ?_
      rcases out with beyond | ⟨one, -⟩
      · rw [zero] at beyond
        exact absurd beyond (by decide)
      · exact absurd (zero.symm.trans one) (by decide)
    refine exec_answered (own := rodRemoveSpill lane n.toNat) rfl wf rfl turn (if_pos ?_)
    rcases out with beyond | ⟨-, zero⟩
    · refine .inl fun one => ?_
      rw [one] at beyond
      exact absurd beyond (by decide)
    · exact .inr zero
  · subst place
    exact exec_answered (own := rodRemoveSpill 1 n.toNat) rfl rfl rfl turn (rodRemoveSpill_short any short)
  · subst place
    exact exec_answered (own := rodRemoveSpill 1 n.toNat) rfl rfl rfl turn (rodRemoveSpill_accepted any held)

end Sys2Proof.Machine
end


section
/-! SUPPORT. POWER_UP (R116, R194, R196). -/

namespace Sys2Proof.Machine

/-- A station seated from its inputs at power-up, its read in flight if its clamp is closed (R116). -/
def seatedStation (present clamped : Bool) : Station := { Station.reset with
  presence := present
  clamp := clamped
  state := if present then if clamped then .reading else .seated else .empty
  exchange := if present && clamped then 1 else 0
  inFlight := if present && clamped then some ⟨none, 1, ⟨0, 500⟩⟩ else none }

/-- What a station's seating sends. -/
def seatedBus (side : Side) (present clamped : Bool) : List BusMessage :=
  if present && clamped then [.memoryRead side 1] else []

/-- A station as at reset takes its state from its inputs (R116). -/
theorem seat_reset {d : Device} {side : Side} (present clamped : Bool) (fresh : d.station side = Station.reset)
    (now : d.time = 0) : d.seat side present clamped =
      { d.modifyStation side (fun _ => seatedStation present clamped) with
        bus := d.bus ++ seatedBus side present clamped } := by
  have changed {f : Station → Station} {y : Station} (same : f (d.station side) = y) :
      d.modifyStation side f = d.modifyStation side fun _ => y := by
    rw [Device.modifyStation, Device.modifyStation, DieUnit.modify_congr (g := fun _ => y) same]
  cases present with
  | false =>
    simp only [Device.seat, seatedBus, Bool.false_and, Bool.false_eq_true, if_false, List.append_nil]
    exact changed (by rw [fresh]; rfl)
  | true =>
    cases clamped with
    | false =>
      simp only [Device.seat, seatedBus, Bool.and_false, Bool.false_eq_true, if_false, List.append_nil]
      rw [Device.modifyStation_twice]
      exact changed (by rw [fresh]; rfl)
    | true =>
      have exchange : (d.station side).exchange = 0 := by rw [fresh]; rfl
      simp only [Device.seat]
      rw [Device.startRead_eq side _ d rfl, exchange]
      simp only [Device.modifyStation]
      rw [DieUnit.modify_congr (g := fun _ => seatedStation true true) ?_]
      · rfl
      · rw [show d.die.station side = Station.reset from fresh, now]
        rfl

/-- The part at power-up before its stations take their inputs: the press drive stopped, the carriage queried (R131, R128,
R194). -/
def Device.unseated (t : Option Tables) (stored : Option StoredCopy) : Device :=
  ((((freshDevice (t.getD defaultTables) stored).notifyLine .powerUp).raiseDefaulted t.isSome).stopDrive).queryCarriage

/-- What the first acts of power-up leave to the stations. -/
theorem unseated_frame (t : Option Tables) (stored : Option StoredCopy) : (Device.unseated t stored).time = 0
    ∧ (Device.unseated t stored).die.stationA = Station.reset ∧ (Device.unseated t stored).die.stationB = Station.reset
    ∧ (Device.unseated t stored).die.active = none ∧ (Device.unseated t stored).bus = [.pressStop, .carriageQuery]
    ∧ (Device.unseated t stored).mail = (if t.isSome then [] else [.raise .configDefaulted {}])
    ∧ (Device.unseated t stored).climate.exchange = 0 := by
  simp only [Device.unseated, Device.queryCarriage, Device.stopDrive]
  cases t <;> simp [Device.raiseDefaulted, freshDevice]

/-- POWER_UP's acts, of which the fill decision finds no rod. -/
theorem powered_unfilled (stored : Option StoredCopy) (pa ca pb cb : Bool) : powered stored pa ca pb cb =
    (((Device.unseated (usable stored) stored).seat .a pa ca).seat .b pb cb).startRound .powerUp :=
  Device.fill_of_empty (by simp [Device.queryCarriage, Device.stopDrive, freshDevice])

/-- The stations, the mail and the bus after POWER_UP (R116, R194, R196). -/
theorem powered_seats (stored : Option StoredCopy) (pa ca pb cb : Bool) :
    let d := powered stored pa ca pb cb
    d.die.stationA = seatedStation pa ca ∧ d.die.stationB = seatedStation pb cb ∧ d.die.active = none
      ∧ d.bus = [.pressStop, .carriageQuery] ++ seatedBus .a pa ca ++ seatedBus .b pb cb ++ [.zoneRead 0 1]
      ∧ d.mail = (if (usable stored).isSome then [] else [.raise .configDefaulted {}]) := by
  intro d
  obtain ⟨time, stationA, stationB, active, bus, mail, exchange⟩ := unseated_frame (usable stored) stored
  have unfilled : d = _ := powered_unfilled stored pa ca pb cb
  generalize Device.unseated (usable stored) stored = e at *
  have first := seat_reset (side := .a) pa ca stationA time
  have second := seat_reset (d := e.seat .a pa ca) (side := .b) pb cb (by rw [first]; exact stationB) (by rw [first]; exact time)
  rw [unfilled, second, first, Device.startRound_eq]
  refine ⟨rfl, rfl, active, ?_, mail⟩
  show e.bus ++ seatedBus .a pa ca ++ seatedBus .b pb cb ++ [.zoneRead 0 ((e.climate.exchange + 1) % 256)] = _
  rw [bus, exchange]

/-- A copy whose check does not match is no source, and one whose check matches is (R194). -/
theorem usable_none {stored : Option StoredCopy} (unusable : ∀ c, stored = some c → c.check ≠ crc16 c.tables.bytes) :
    usable stored = none := by
  cases stored with
  | none => rfl
  | some c => rw [usable, if_neg (unusable c rfl)]

theorem usable_some {stored : Option StoredCopy} {c : StoredCopy} (holds : stored = some c)
    (matching : c.check = crc16 c.tables.bytes) : usable stored = some c.tables := by
  rw [holds, usable, if_pos matching]

/-- The defaults' power-up with no die in a station, before its fill decision, is the reset state, whatever copy is kept
(log entry 1). -/
theorem unseated_reset_none :
    ((((Device.unseated none none).seat .a false false).seat .b false false).startRound .powerUp).pump = Device.reset := by
  rfl

theorem unseated_stored (stored : Option StoredCopy) :
    ((((Device.unseated none stored).seat .a false false).seat .b false false).startRound .powerUp).pump =
      { ((((Device.unseated none none).seat .a false false).seat .b false false).startRound .powerUp).pump with
        stored := stored } := by
  rfl

theorem unseated_reset (stored : Option StoredCopy) :
    ((((Device.unseated none stored).seat .a false false).seat .b false false).startRound .powerUp).pump =
      { Device.reset with stored := stored } := by
  rw [unseated_stored, unseated_reset_none]

/-- No record is live at power-up (R4). -/
theorem liveRods_powered (stored : Option StoredCopy) (pa ca pb cb : Bool) :
    (powered stored pa ca pb cb).liveRods = [] := by
  obtain ⟨-, -, -, track, -, spread, acc, -⟩ := powered_frame stored pa ca pb cb
  have lanes (ls : List LaneEntry) : ((ls.map freshLane).map LaneRt.records).flatten = [] := by
    rw [List.flatten_eq_nil_iff]
    intro rs mem
    obtain ⟨l, held, rfl⟩ := List.mem_map.mp mem
    obtain ⟨e, -, rfl⟩ := List.mem_map.mp held
    rfl
  have positions (n : Nat) : (List.replicate n Content.unknown).filterMap Content.rod? = [] := by
    rw [List.filterMap_eq_nil_iff]
    intro c mem
    rw [List.eq_of_mem_replicate mem]
    rfl
  rw [Device.liveRods, track, spread, acc]
  simp only [freshDevice, lanes, positions]
  rfl

theorem freshDevice_tables (t : Tables) (stored : Option StoredCopy) : (freshDevice t stored).tables = t := rfl

/-- Settles O4: the part as at reset, and the parts that POWER_UP seats. -/
theorem powerUpLoadsOneSource : Obligations.PowerUpLoadsOneSource := by
  intro lost pa ca pb cb s kept unusable i seated
  refine ⟨fun lacks a b c e => ?_, ⟨After s (powered kept pa ca pb cb), rfl, ?_⟩⟩
  · subst a b c e
    have same : (powered kept false false false false).pump = { Device.reset with stored := kept } := by
      rw [powered_unfilled, usable_none lacks, unseated_reset]
    exact congrArg (fun d => Host.Outcome.next (State.mk d s.pending)) same
  · obtain ⟨time, tables, stored, track, pace, -, acc, gauge, log, -⟩ := powered_frame kept pa ca pb cb
    obtain ⟨stationA, stationB, active, bus, mail⟩ := powered_seats kept pa ca pb cb
    have live := liveRods_powered kept pa ca pb cb
    rw [after_only]
    generalize powered kept pa ca pb cb = d at *
    refine ⟨stored, time, live, congrArg Pace.line pace, stationA, stationB, active, bus, congrArg FaultLog.first log,
      congrArg Accumulator.returnDeclared acc, congrArg Gauge.factors gauge, ?_, rfl, fun lacks => ?_, fun c holds same => ?_⟩
    · show d.track.positions = List.replicate d.tables.length _
      rw [track, tables]
      rfl
    · show d.tables = _ ∧ d.mail = _
      rw [tables, mail, usable_none lacks, freshDevice_tables, Option.getD_none]
      exact ⟨rfl, if_neg nofun⟩
    · show d.tables = _ ∧ d.mail = _
      rw [tables, mail, usable_some holds same, freshDevice_tables, Option.getD_some]
      exact ⟨rfl, if_pos rfl⟩

end Sys2Proof.Machine
end
